-- ==== Sys2Proof/Word.lean ====
section
/-!
DEFINITION. The words the two serial links carry and the plainest arithmetic over numbers.
A quantity that the manual counts is a `Nat` (or an `Int` where it is signed); a `BitVec` stands only where the manual
shifts bits or wraps at a power of two: link characters, sets sent as one character, the tick count and the stamps.
-/

namespace Sys2Proof

/-- One character of a serial link (R57, R179): eight data bits. -/
abbrev Byte := BitVec 8

/-- The count of system ticks since the last power-on reset, RESET# or HUB_RESET ALL: it wraps to 0 after
4,294,967,295 (R13). -/
abbrev TickCount := BitVec 32

/-- A stamp of one of the two free-running counts of the capture unit, 0..65535, which wrap (R154, R155). -/
abbrev Stamp := BitVec 16

/-- A set sent as one character, one bit per member (R191): wake sources, capability sets, channel sets. -/
abbrev ByteSet := BitVec 8

/-- 00_scope.md, "Clamping and saturation": a value outside `lo..hi` takes the nearer limit. -/
def clampNat (lo hi n : Nat) : Nat := max lo (min hi n)

/-- The same clamping for signed values. -/
def clampInt (lo hi z : Int) : Int := max lo (min hi z)

end Sys2Proof
end

