-- ==== Sys2Proof/Config.lean ====
section
/-!
DEFINITION. The fixed sizes of the part, which no command can change and every one of which the manual gives; and the two free
values: what a QUERY page shows of a count that has outgrown its characters, where the manual says neither that it wraps nor
that it saturates (notes/assumptions/17.md).
-/

namespace Sys2Proof.Config

/-- The limit of the error and event counters: each counts 0..255 and saturates (R17, R20, R66, R94, R97, R103, R160,
R181, R182). -/
def counterMax : Nat := 255

/-- The most base reports the upward queue holds (R101, R105). -/
def maxReports : Nat := 22

/-- The places for replies in the upward queue (R105). -/
def replyPlaces : Nat := 2

/-- The places of the down buffer (R182). -/
def downPlaces : Nat := 2

/-- The entries the base write queue holds (R92). -/
def writePlaces : Nat := 8

/-- The slots of the SCHEDULE table, numbered 0 to 11 (05, "The SCHEDULE table"). -/
def slots : Nat := 12

/-- The channels of the converter, numbered 0 to 7 (01, "Channels"). -/
def channels : Nat := 8

/-- The most payload characters a frame carries (R181). -/
def maxPayload : Nat := 60

/-- The most characters of rows a TABLE_READ reply carries (R186). -/
def maxReadRows : Nat := 54

/-- Present samples of PRES that confirm an attach (R71). -/
def attachTicks : Nat := 20

/-- Absent samples of PRES in a row that lose presence (R72). -/
def lossTicks : Nat := 2

/-- Failed ID reads that end IDENTIFY (R73). -/
def identifyAttempts : Nat := 3

/-- The retry timer of FAULT, in system ticks (R75). -/
def retryTicks : Nat := 100

/-- A low of this many system ticks on the idle line is attention (R77). -/
def attentionTicks : Nat := 1

/-- A low of this many system ticks is a stuck line (R79). -/
def stuckTicks : Nat := 50

/-- The lid read's limit, in system ticks (R20). -/
def lidReadTicks : Nat := 2

/-- The resonance check's limit, in system ticks (R140). -/
def resonanceTicks : Nat := 2

/-- The clock start, in system ticks (R176). -/
def clockStartTicks : Nat := 2

/-- Packet timeouts in a row that send the charger back to IDENT (R146). -/
def packetTimeouts : Nat := 3

/-- The dwell of a candidate without a row, in system ticks (R50). -/
def rowlessDwell : Nat := 100

/-- The high time, in Tbit, that makes the base line idle (R59). -/
def idleTbit : Nat := 12

/-- The gap between down characters, in nanoseconds, after which the frame under reception is abandoned (R181). -/
def abandonGap : Nat := 100000

/-- The time, in microseconds, that a new level of BCI holds before it counts as an edge (R155). -/
def edgeHold : Nat := 16

/-- The time, in microseconds from the reference, at which silence is a violation (R155). -/
def silenceLimit : Nat := 626

/-! ### Free values -/

/-- The four characters of the STATUS page for an activity timer's count past 4,294,967,295: no rule states them. -/
opaque longActivity : Nat → BitVec 32

/-- The two characters of the POSTURE page for a candidate's elapsed time past 65,535 ms: no rule states them. -/
opaque longElapsed : Nat → BitVec 16

end Sys2Proof.Config
end

