-- ==== Sys2Proof/Syntax.lean ====
section
/-!
DEFINITION. The commands: one constructor of `Instr` for each row of spec/opcode_table.json, in the table's order.
The table gives its rows no operands ("fields" is empty). A command's operands are what the world outside the hub brings to
that step: a character, a sample, a converter code, a pin's level, a stamp. A time inside a millisecond is an operand too,
because the only tick that is a row is the system tick (notes/assumptions/5.md, 6.md).
-/

namespace Sys2Proof

/-- The levels of the strap pins SLRATE1 and SLRATE0 (R179), high = true. -/
structure Straps where
  rate1 : Bool
  rate0 : Bool
  deriving DecidableEq, Repr

/-- Three signed axis values of an accelerometer (R20, R21). -/
structure Axes where
  x : Int
  y : Int
  z : Int
  deriving DecidableEq, Repr

/-- How a lid read ends before its 2 ms limit (R20). -/
inductive LidEnding
  /-- the accelerometer acknowledged and returned its axes with data-ready set -/
  | sample (axes : Axes)
  /-- it did not acknowledge the port -/
  | noAcknowledge
  /-- it returned the data-ready indication clear -/
  | notReady
  deriving DecidableEq, Repr

/-- One character received on SLRX (R181): its value, whether its stop bit read high, and its arrival time, the time of its
start bit's falling edge in nanoseconds. -/
structure RxChar where
  value : Byte
  stopHigh : Bool
  time : Nat
  deriving DecidableEq, Repr

/-- What ends a transaction with an error other than TIMEOUT (R65). A time `at` counts drive ticks (1/32 µs) from the moment
the hub released the line. -/
inductive TxnError
  /-- the lead read high (R60): PHYSICAL -/
  | leadHigh
  /-- the lead gap read low (R60): BIT -/
  | gapLow
  /-- a sent character read back wrong (R61): BIT; `lineLow` is the line's level at the end of its stop bit -/
  | sentWrong (lineLow : Bool)
  /-- a received stop bit read low (R65): FRAMING -/
  | stopLow (time : Nat)
  /-- a received character that R62 or R64 judges as LENGTH, CHECK or REFUSED -/
  | judged (value : Byte) (time : Nat)
  deriving DecidableEq, Repr

/-- A change of level on BCI as the edge filter meets it (R155): the new level, and how many microseconds it holds, 16 or more of
which count alike. -/
structure BciChange where
  level : Bool
  held : Nat
  deriving DecidableEq, Repr

/-- The violation that aborts a packet (R159): an edge that ends a violating interval, or silence. -/
inductive PacketBreak
  | edge (change : BciChange) (stamp : Stamp)
  | silence (stamp : Stamp)
  deriving DecidableEq, Repr

/-- How the lid read ends whose posture evaluation makes a POSTURE swap (R28): before its limit, or at it. -/
inductive EvaluationStart
  | completion (ending : LidEnding)
  | limit
  deriving DecidableEq, Repr

/-- The commands: the rows of spec/opcode_table.json. -/
inductive Instr
  /-- POWER_ON_RESET (R111) with the straps it samples. -/
  | powerOnReset (straps : Straps)
  /-- RESET_PIN (R111) with the straps it samples. -/
  | resetPin (straps : Straps)
  /-- SOFT_RESET (R190) with the straps it samples. -/
  | softReset (straps : Straps)
  /-- SYSTEM_TICK (R70) with PRES, LSNS (engaged = true) and the level of BDQ at the tick (high = true). -/
  | systemTick (pres lsns bdq : Bool)
  /-- S_TRIGGER (R6). -/
  | sTrigger
  /-- BLANK_DEFER_LIMIT (R11). -/
  | blankDeferLimit
  /-- BLANKING_GRANT (R130). -/
  | blankingGrant
  /-- C_TRIGGER (R8). -/
  | cTrigger
  /-- SLOT_C_CONVERSION_END (R9) with the two codes. -/
  | slotCConversionEnd (coilI coilV : Fin 4096)
  /-- CHANNEL_CONVERSION_END (R7) with the code. -/
  | channelConversionEnd (code : Fin 4096)
  /-- CHANNEL_SWAP (R3). -/
  | channelSwap
  /-- POSTURE_PERIOD_TIMER_EXPIRY (R19). -/
  | posturePeriodTimerExpiry
  /-- LID_READ_COMPLETION (R20) with its ending. -/
  | lidReadCompletion (ending : LidEnding)
  /-- LID_READ_TIMEOUT (R20). -/
  | lidReadTimeout
  /-- POSTURE_SWAP (R54): step 1 of the evaluation that the given end of the lid read starts. -/
  | postureSwap (start : EvaluationStart)
  /-- ATTACH_CONFIRMED (R71). -/
  | attachConfirmed
  /-- PRESENCE_LOSS (R72). -/
  | presenceLoss
  /-- TRANSACTION_START (R59); `highFor` is how long the line has read high, in drive ticks (1/32 µs). -/
  | transactionStart (highFor : Nat)
  /-- BASE_CHARACTER_RECEIVED (R62): a character whose stop bit read high, and the drive ticks from the line's release. -/
  | baseCharacterReceived (value : Byte) (time : Nat)
  /-- TRANSACTION_FAILURE (R65) with what failed it. -/
  | transactionFailure (error : TxnError)
  /-- TRANSACTION_DEADLINE (R63): the drive ticks from the line's release, and whether BDQ is low then. -/
  | transactionDeadline (time : Nat) (lineLow : Bool)
  /-- RETRY_TIMER_EXPIRY (R75). -/
  | retryTimerExpiry
  /-- IDLE_LINE_LOW (R77); `highFor` is how long the line had read high before the falling edge, in drive ticks. -/
  | idleLineLow (highFor : Nat)
  /-- ATTENTION (R78). -/
  | attention
  /-- GLITCH (R79). -/
  | glitch
  /-- STUCK_LINE (R79). -/
  | stuckLine
  /-- DUE_TIME (R87) of a schedule slot. -/
  | dueTime (slot : Nat)
  /-- SCHEDULE_SWAP (R84). -/
  | scheduleSwap
  /-- UP_FRAME_START (R109) with the level of SRDY at that moment. -/
  | upFrameStart (srdy : Bool)
  /-- UP_FRAME_END (R109). -/
  | upFrameEnd
  /-- SRDY_RISE (R172). -/
  | srdyRise
  /-- DOWN_FRAME_RECEIVED (R182): the character that completes a good frame. -/
  | downFrameReceived (char : RxChar)
  /-- BAD_DOWN_FRAME (R181): the character that makes the frame bad. -/
  | badDownFrame (char : RxChar)
  /-- DOWN_FRAME_ABANDON (R181) at the given time in nanoseconds. -/
  | downFrameAbandon (time : Nat)
  /-- BAD_KIND (R183): carries out the head of the down buffer. So do the requests below. -/
  | badKind
  /-- TABLE_WRITE (R184). -/
  | tableWrite
  /-- TABLE_COMMIT (R185). -/
  | tableCommit
  /-- TABLE_READ (R186). -/
  | tableRead
  /-- QUERY (R187). -/
  | query
  /-- CLEAR_COUNTERS (R187). -/
  | clearCounters
  /-- BASE_WRITE (R93). -/
  | baseWrite
  /-- DETACH_GRANT (R117). -/
  | detachGrant
  /-- DETACH_DENY (R118). -/
  | detachDeny
  /-- DETACH_RELEASE (R120). -/
  | detachRelease
  /-- CHARGE_CONTROL (R151). -/
  | chargeControl
  /-- SYSTEM_STATE_SLEEPING (R172). -/
  | systemStateSleeping
  /-- SYSTEM_STATE_AWAKE (R172). -/
  | systemStateAwake
  /-- HUB_RESET_LINKS (R189). -/
  | hubResetLinks
  /-- HUB_RESET_ALL (R190). -/
  | hubResetAll
  /-- REQUEST_TIMER_EXPIRY (R119). -/
  | requestTimerExpiry
  /-- FORCED_RELEASE (R121). -/
  | forcedRelease
  /-- PULSE_TIMER_EXPIRY (R122). -/
  | pulseTimerExpiry
  /-- RELEASE_WINDOW_EXPIRY (R124). -/
  | releaseWindowExpiry
  /-- WAIT_TIMER_EXPIRY (R139). -/
  | waitTimerExpiry
  /-- RESONANCE_INTERVAL (R140): the rising edge that ends the 16th resonance period, with its stamp in drive ticks. -/
  | resonanceInterval (stamp : Stamp)
  /-- RESONANCE_TIMEOUT (R140). -/
  | resonanceTimeout
  /-- BURST_TIMER_EXPIRY (R141). -/
  | burstTimerExpiry
  /-- PACKET_COMPLETION (R159) with the change of BCI whose edge completes a packet, and the edge's stamp in µs. -/
  | packetCompletion (change : BciChange) (stamp : Stamp)
  /-- PACKET_ABORT (R159): the edge or the silence that breaks a packet. -/
  | packetAbort (cause : PacketBreak)
  /-- SILENCE_LIMIT (R155) at the given stamp. -/
  | silenceLimit (stamp : Stamp)
  /-- CHARGE_ENTRY (R142). -/
  | chargeEntry
  /-- STAGE_CHANGE (R143). -/
  | stageChange
  /-- PERIOD_BOUNDARY (R129). -/
  | periodBoundary
  /-- CHARGE_SWAP (R135). -/
  | chargeSwap
  /-- STAGE_TIMER_EXPIRY (R143). -/
  | stageTimerExpiry
  /-- PACKET_TIMER_EXPIRY (R146). -/
  | packetTimerExpiry
  /-- RECHECK_TIMER_EXPIRY (R149). -/
  | recheckTimerExpiry
  /-- ACTIVITY_TIMER_EXPIRY (R170). -/
  | activityTimerExpiry
  /-- DEEP_ENTRY (R174). -/
  | deepEntry
  /-- CLOCK_START_END (R176). -/
  | clockStartEnd
  /-- WAKE_PULSE_TIMER_EXPIRY (R178). -/
  | wakePulseTimerExpiry
  /-- BCI_EDGE (R155) with the change of BCI that the edge filter judges, and the stamp of its acceptance in µs. -/
  | bciEdge (change : BciChange) (stamp : Stamp)
  /-- RESONANCE_RISING_EDGE (R154) with its stamp in drive ticks. -/
  | resonanceRisingEdge (stamp : Stamp)
  /-- DOWN_CHARACTER_RECEIVED (R181). -/
  | downCharacterReceived (char : RxChar)
  /-- LINE_RELEASED_FOR_ANSWER (R62). -/
  | lineReleasedForAnswer
  deriving DecidableEq, Repr

end Sys2Proof
end

