-- ==== Sys2Proof/WellFormed.lean ====
section
/-!
DEFINITION. Which commands name something the part has. Every operand type but the slot number already holds exactly the
values the pins and links can bring; a slot number outside 0..11 names no slot of the SCHEDULE table.
-/

namespace Sys2Proof

/-- The schedule slots are numbered 0 to 11 (05, "The SCHEDULE table"). Every other command is well-formed as it stands. -/
def Instr.wellFormed : Instr → Bool
  | .dueTime slot => decide (slot < Config.slots)
  | _ => true

end Sys2Proof
end

