-- ==== Sys2Proof/Decode.lean ====
section
/-!
DEFINITION. The command a word of spec/opcode_table.json spells. No row of this part's table has bits ("fields" is empty and
no row carries a match): a command reaches the hub as an occurrence on a pin, a link or a timer, not as a word. So no word
spells a command.
-/

namespace Sys2Proof

/-- No row of the table gives bits, so every word spells none. -/
def decodeTableWord (_nbits _w : Nat) : Option Instr := none

end Sys2Proof
end

