-- ==== Sys2Proof/Machine/Types.lean ====
section
/-!
DEFINITION. The named alternatives of the manual: states, modes, codes, sources. Each type names the rule whose words its
constructors are; the byte that stands for a constructor on the system link is in Machine/Codes.lean.
-/

namespace Sys2Proof.Machine

/-- The eight postures (00_scope.md, "Postures"). -/
inductive Posture
  | unknown | detached | closed | laptop | flat | stand | tent | tablet
  deriving DecidableEq, Repr

/-- The hinge record's status (R31); `noAngle` is the manual's NONE. -/
inductive HingeStatus
  | noAngle | held | fresh
  deriving DecidableEq, Repr

/-- The screen rotation, in degrees (R32). -/
inductive Rotation
  | r0 | r90 | r180 | r270
  deriving DecidableEq, Repr

/-- A row's rotation mode (R39). -/
inductive RotationMode
  | free | lock0 | lock180
  deriving DecidableEq, Repr

/-- The cause a POSTURE notice carries (R52). -/
inductive PostureCause
  | link | hall | zone | angle
  deriving DecidableEq, Repr

/-- The cause a ROTATION notice carries (R33, R35). -/
inductive RotationCause
  | lock | free
  deriving DecidableEq, Repr

/-- The base link states (04, "The link states"). -/
inductive LinkState
  | absent | attaching | identify | running | fault | listen
  deriving DecidableEq, Repr

/-- The two base link rates: 250 kbit/s and 1 Mbit/s (R56). -/
inductive LinkRate
  | k250 | m1
  deriving DecidableEq, Repr

/-- The assigned base functions 0..7 (00_scope.md, "Base functions"). -/
inductive BaseFn
  | id | keys | pointer | motion | power | button | light | indicator
  deriving DecidableEq, Repr

/-- The seven errors that end a transaction (R65). -/
inductive LineError
  | physical | bit | framing | length | check | refused | timeout
  deriving DecidableEq, Repr

/-- The detach states (07, the table of states). -/
inductive DetachState
  | absent | latched | requested | releasing | released
  deriving DecidableEq, Repr

/-- The detach button as DLU knows it (R113). -/
inductive ButtonState
  | released | pressed | unknown
  deriving DecidableEq, Repr

/-- What started a release (R113). -/
inductive ReleaseSource
  | grant | software | forced
  deriving DecidableEq, Repr

/-- The outcomes a DETACH notice carries (R126). -/
inductive DetachOutcome
  | attached | requested | notAllowed | denied | timedOut | releasing | aborted | detached
  deriving DecidableEq, Repr

/-- The charger states (08, "The charger"). -/
inductive ChargerState
  | off | wait | ident | charge | paused | done | fault
  deriving DecidableEq, Repr

/-- The charger's fault reasons (R136). -/
inductive FaultReason
  | noPen | foreignObject | stageTime | overcurrent | penFault
  deriving DecidableEq, Repr

/-- The kinds of an identification burst (R136). -/
inductive BurstKind
  | full | recheck
  deriving DecidableEq, Repr

/-- PCH's blanking state (R130); `idle` is the manual's "none". -/
inductive Blanking
  | idle | requested | inForce
  deriving DecidableEq, Repr

/-- The capture unit's modes (R153). -/
inductive CaptureMode
  | off | resonance | edge
  deriving DecidableEq, Repr

/-- The decoder's states (09, "The decoder"). -/
inductive DecoderState
  | hunt | preamble | data
  deriving DecidableEq, Repr

/-- The classes of an interval between edges (R156). -/
inductive IntervalClass
  | short | long | violation
  deriving DecidableEq, Repr

/-- Slot S of the converter (R4). -/
inductive SlotS
  | idle | deferring | blankWait | ready | scanning
  deriving DecidableEq, Repr

/-- Slot C of the converter (R4). -/
inductive SlotC
  | idle | converting
  deriving DecidableEq, Repr

/-- Why slot C holds a trigger: for the CHANNEL swap (R3) or for the scan's end under policy HOLD (R8). -/
inductive HeldTrigger
  | forSwap | forScan
  deriving DecidableEq, Repr

/-- Slot C's policy when slot S is scanning (R1, R8). -/
inductive SlotCPolicy
  | ignore | hold
  deriving DecidableEq, Repr

/-- A channel's window state (R14). -/
inductive WindowState
  | unset | inside | outside
  deriving DecidableEq, Repr

/-- A channel's window mode (R1). -/
inductive WindowMode
  | off | inside | outside
  deriving DecidableEq, Repr

/-- The actions of a ROUTE cell (R99). -/
inductive RouteAction
  | forward | drop | coalesce
  deriving DecidableEq, Repr

/-- The system processor's state as SPM knows it (R169). -/
inductive SystemState
  | awake | advised | asleep | waking
  deriving DecidableEq, Repr

/-- The hub power state (R169). -/
inductive HubPower
  | run | doze | deep
  deriving DecidableEq, Repr

/-- A sleep depth (R167, R172). -/
inductive Depth
  | doze | deep
  deriving DecidableEq, Repr

/-- The eight wake sources (R167, R177). -/
inductive WakeSource
  | keys | pointer | button | penInsert | penRemove | lidOpen | baseAttach | baseDetach
  deriving DecidableEq, Repr

/-- The advice of a SLEEP notice (R171). -/
inductive Advice
  | advise | withdrawn
  deriving DecidableEq, Repr

/-- The reason of a SLEEP notice that advises (R171). -/
inductive AdviceReason
  | idle | posture
  deriving DecidableEq, Repr

/-- The event codes of an EVENT notice (R191, 11 "EVENT notices"). -/
inductive EventCode
  | por | pinReset | softReset | baseFault | converterFault | latchSense | lspFault | counterSaturated
  deriving DecidableEq, Repr

/-- The eight notice kinds, in notice order (00_scope.md, "Notice kinds"). -/
inductive NoticeKind
  | posture | rotation | angle | pen | detach | sleep | wake | event
  deriving DecidableEq, Repr

/-- The reply codes (00_scope.md, "Reply codes"). -/
inductive ReplyCode
  | ok | badKind | badLength | badTable | badRow | badValue | busy | late | baseAbsent | full | notPending
  deriving DecidableEq, Repr

/-- The six configuration tables (00_scope.md, "Tables and images"). -/
inductive TableId
  | route | posture | schedule | channel | charge | policy
  deriving DecidableEq, Repr

/-- The query subjects (R191). -/
inductive Subject
  | status | posture | pen | base | converter | counters
  deriving DecidableEq, Repr

/-- The three system link rates the straps select (R179). -/
inductive LinkSpeed
  | mbit1 | mbit2 | mbit3
  deriving DecidableEq, Repr

/-- The receive framer's states (R181). -/
inductive FramerState
  | hunt | kind | length | payload | check
  deriving DecidableEq, Repr

/-- How far a HUB_RESET with scope ALL has come (R190): none asked for, its reply queued, its reply's last character sent. -/
inductive ResetAll
  | idle | replyQueued | replySent
  deriving DecidableEq, Repr

/-- The counters of the COUNTERS page but the two of the pen record (R17, R20, R66, R94, R97, R103, R181, R182). -/
inductive Counter
  | mergedS | droppedC | forcedBlank | port
  | physical | bit | framing | length | check | refused | timeout
  | skippedKeys | skippedPointer | skippedMotion | skippedPower | skippedButton
  | writeDiscard | malformed | lost | downCrc | overrun
  deriving DecidableEq, Repr

end Sys2Proof.Machine
end

