-- ==== Sys2Proof/Machine/Codes.lean ====
section
/-!
DEFINITION. How fields become link characters: the CRC-8 of 00_scope.md, R191's encoding of numbers, sets, optional fields
and codes, and the base link's selector (R57).
-/

namespace Sys2Proof.Machine

/-! ### Numbers -/

/-- One character holding a number (R191). -/
def byteOf (n : Nat) : Byte := BitVec.ofNat 8 n

/-- R191: a field of `w` characters is sent low character first. -/
def leBytes : Nat → Nat → List Byte
  | 0, _ => []
  | w + 1, n => byteOf n :: leBytes w (n / 256)

/-- The number whose characters arrive low character first (R191). -/
def leNat : List Byte → Nat
  | [] => 0
  | b :: bs => b.toNat + 256 * leNat bs

/-- R191: a signed value of `w` characters is sent in two's complement. -/
def leSigned (w : Nat) (z : Int) : List Byte := leBytes w (z % (256 ^ w : Nat)).toNat

/-- A signed value read in two's complement from characters sent low character first (R96, R161). -/
def signedOf (bs : List Byte) : Int :=
  if leNat bs < 256 ^ bs.length / 2 then (leNat bs : Int) else (leNat bs : Int) - (256 ^ bs.length : Nat)

/-- R191: an optional field whose range leaves room is sent as all ones when absent. -/
def leOpt (w : Nat) : Option Nat → List Byte
  | some n => leBytes w n
  | none => List.replicate w 0xFF

/-- R191: under a presence character an absent field is sent as zeros. -/
def leZero (w : Nat) : Option Nat → List Byte
  | some n => leBytes w n
  | none => List.replicate w 0

/-- R191: a flag is 00h when clear and 01h when set. -/
def flagByte (b : Bool) : Byte := if b then 1 else 0

/-- R191: a set is one character, bit `n` for the member numbered `n`. -/
def setByte (bits : List Bool) : Byte :=
  byteOf (bits.foldr (fun b acc => (if b then 1 else 0) + 2 * acc) 0)

/-! ### CRC-8 -/

/-- One shift of the check register: a 1 shifted out of the top brings in the polynomial without its top term (11, the
worked example of the check). -/
def crcShift (r : Byte) : Byte := if r.msb then (r <<< 1) ^^^ 0x31 else r <<< 1

/-- The register after one more character, most significant bit first. -/
def crcByte (r c : Byte) : Byte := Nat.repeat crcShift 8 (r ^^^ c)

/-- 00_scope.md, CRC-8: polynomial x^8 + x^5 + x^4 + 1, initial value FFh, not inverted. -/
def crc8 (bs : List Byte) : Byte := bs.foldl crcByte 0xFF

/-! ### Selectors -/

/-- The base function's number (00_scope.md, "Base functions"). -/
def BaseFn.number : BaseFn → Nat
  | .id => 0 | .keys => 1 | .pointer => 2 | .motion => 3 | .power => 4 | .button => 5 | .light => 6 | .indicator => 7

/-- The function a number names; 8..15 are unassigned. -/
def BaseFn.ofNumber : Nat → Option BaseFn
  | 0 => some .id | 1 => some .keys | 2 => some .pointer | 3 => some .motion | 4 => some .power
  | 5 => some .button | 6 => some .light | 7 => some .indicator | _ => none

/-- R57, R58: function in bits 0..3, direction in bit 4, and in bits 5..7 the count of ones of those five. -/
def selector (fn : BaseFn) (write : Bool) : Byte :=
  let five := fn.number + (if write then 16 else 0)
  let ones := ((List.range 5).filter (Nat.testBit five)).length
  byteOf (five + 32 * ones)

/-- 00h acts for a base rate code of 250 kbit/s and 01h for 1 Mbit/s (R73). -/
def LinkRate.ofCode (b : Byte) : LinkRate := if b = 1 then .m1 else .k250

/-- One Tbit in drive ticks of 1/32 µs: 4 µs at 250 kbit/s, 1 µs at 1 Mbit/s (R56). -/
def LinkRate.tbit : LinkRate → Nat
  | .k250 => 128
  | .m1 => 32

/-- Ten bit times of the system link in nanoseconds (R179); 3 Mbit/s is "about 0.333 µs" a bit. -/
def LinkSpeed.charTime : LinkSpeed → Nat
  | .mbit1 => 10000
  | .mbit2 => 5000
  | .mbit3 => 3333

/-! ### Codes, in order from 0: those of R191's code table, and, marked, those that only a layout lists -/

def Posture.code : Posture → Nat
  | .unknown => 0 | .detached => 1 | .closed => 2 | .laptop => 3 | .flat => 4 | .stand => 5 | .tent => 6 | .tablet => 7

/-- The posture a row's code names; a code above 7 names none and no validated row holds one (R40). -/
def Posture.ofCode : Nat → Posture
  | 1 => .detached | 2 => .closed | 3 => .laptop | 4 => .flat | 5 => .stand | 6 => .tent | 7 => .tablet | _ => .unknown

def HingeStatus.code : HingeStatus → Nat
  | .noAngle => 0 | .held => 1 | .fresh => 2

def Rotation.code : Rotation → Nat
  | .r0 => 0 | .r90 => 1 | .r180 => 2 | .r270 => 3

/-- The rotation in degrees (R32). -/
def Rotation.degrees : Rotation → Nat
  | .r0 => 0 | .r90 => 90 | .r180 => 180 | .r270 => 270

/-- In the order of the layout of the POSTURE notice, from 0: DESIGN CHOICE, notes/assumptions/45.md. -/
def PostureCause.code : PostureCause → Nat
  | .link => 0 | .hall => 1 | .zone => 2 | .angle => 3

/-- In the order of the layout of the ROTATION notice, from 0: DESIGN CHOICE, notes/assumptions/45.md. -/
def RotationCause.code : RotationCause → Nat
  | .lock => 0 | .free => 1

def LinkState.code : LinkState → Nat
  | .absent => 0 | .attaching => 1 | .identify => 2 | .running => 3 | .fault => 4 | .listen => 5

def LinkRate.code : LinkRate → Nat
  | .k250 => 0 | .m1 => 1

def DetachState.code : DetachState → Nat
  | .absent => 0 | .latched => 1 | .requested => 2 | .releasing => 3 | .released => 4

/-- In the order of the layout of the STATUS page, from 0: DESIGN CHOICE, notes/assumptions/45.md. -/
def ButtonState.code : ButtonState → Nat
  | .released => 0 | .pressed => 1 | .unknown => 2

/-- In the order of the layout of the DETACH notice, from 0: DESIGN CHOICE, notes/assumptions/45.md. -/
def ReleaseSource.code : ReleaseSource → Nat
  | .grant => 0 | .software => 1 | .forced => 2

/-- In the order of the layout of the DETACH notice, from 0: DESIGN CHOICE, notes/assumptions/45.md. -/
def DetachOutcome.code : DetachOutcome → Nat
  | .attached => 0 | .requested => 1 | .notAllowed => 2 | .denied => 3 | .timedOut => 4 | .releasing => 5
  | .aborted => 6 | .detached => 7

def ChargerState.code : ChargerState → Nat
  | .off => 0 | .wait => 1 | .ident => 2 | .charge => 3 | .paused => 4 | .done => 5 | .fault => 6

def FaultReason.code : FaultReason → Nat
  | .noPen => 0 | .foreignObject => 1 | .stageTime => 2 | .overcurrent => 3 | .penFault => 4

/-- In the order of the layout of the PEN page, from 0: DESIGN CHOICE, notes/assumptions/45.md. -/
def BurstKind.code : BurstKind → Nat
  | .full => 0 | .recheck => 1

/-- In the order of the layout of the PEN page, from 0: DESIGN CHOICE, notes/assumptions/45.md. -/
def Blanking.code : Blanking → Nat
  | .idle => 0 | .requested => 1 | .inForce => 2

/-- In the order of the layout of the PEN page, from 0: DESIGN CHOICE, notes/assumptions/45.md. -/
def CaptureMode.code : CaptureMode → Nat
  | .off => 0 | .resonance => 1 | .edge => 2

/-- In the order of the layout of the CONVERTER page, from 0: DESIGN CHOICE, notes/assumptions/45.md. -/
def SlotS.code : SlotS → Nat
  | .idle => 0 | .deferring => 1 | .blankWait => 2 | .ready => 3 | .scanning => 4

/-- Idle 0, converting 1: DESIGN CHOICE, notes/assumptions/45.md. -/
def SlotC.code : SlotC → Nat
  | .idle => 0 | .converting => 1

def WindowState.code : WindowState → Nat
  | .unset => 0 | .inside => 1 | .outside => 2

def WindowMode.ofCode : Nat → WindowMode
  | 1 => .inside | 2 => .outside | _ => .off

def RotationMode.ofCode : Nat → RotationMode
  | 1 => .lock0 | 2 => .lock180 | _ => .free

def RouteAction.ofCode : Nat → RouteAction
  | 1 => .drop | 2 => .coalesce | _ => .forward

def SlotCPolicy.ofCode : Nat → SlotCPolicy
  | 1 => .hold | _ => .ignore

def Depth.ofCode : Nat → Depth
  | 1 => .deep | _ => .doze

def Depth.code : Depth → Nat
  | .doze => 0 | .deep => 1

/-- In the order of the layout of the STATUS page, from 0: DESIGN CHOICE, notes/assumptions/45.md. -/
def SystemState.code : SystemState → Nat
  | .awake => 0 | .advised => 1 | .asleep => 2 | .waking => 3

/-- In the order of the layout of the STATUS page, from 0: DESIGN CHOICE, notes/assumptions/45.md. -/
def HubPower.code : HubPower → Nat
  | .run => 0 | .doze => 1 | .deep => 2

/-- In the order of the layout of the SLEEP notice, from 0: DESIGN CHOICE, notes/assumptions/45.md. -/
def Advice.code : Advice → Nat
  | .advise => 0 | .withdrawn => 1

/-- In the order of the layout of the SLEEP notice, from 0: DESIGN CHOICE, notes/assumptions/45.md. -/
def AdviceReason.code : AdviceReason → Nat
  | .idle => 0 | .posture => 1

def EventCode.code : EventCode → Nat
  | .por => 0 | .pinReset => 1 | .softReset => 2 | .baseFault => 3 | .converterFault => 4 | .latchSense => 5
  | .lspFault => 6 | .counterSaturated => 7

def ReplyCode.code : ReplyCode → Nat
  | .ok => 0 | .badKind => 1 | .badLength => 2 | .badTable => 3 | .badRow => 4 | .badValue => 5 | .busy => 6
  | .late => 7 | .baseAbsent => 8 | .full => 9 | .notPending => 10

/-- Wake sources are numbered 0 to 7 in the order of R167. -/
def WakeSource.index : WakeSource → Nat
  | .keys => 0 | .pointer => 1 | .button => 2 | .penInsert => 3 | .penRemove => 4 | .lidOpen => 5 | .baseAttach => 6
  | .baseDetach => 7

/-- The set holding the one source. -/
def WakeSource.bit (w : WakeSource) : ByteSet := 1 <<< w.index

/-- The up kind of a notice (11, "Frame layouts"). -/
def NoticeKind.upKind : NoticeKind → Nat
  | .posture => 0x10 | .rotation => 0x11 | .angle => 0x12 | .pen => 0x13 | .detach => 0x14 | .sleep => 0x15
  | .wake => 0x16 | .event => 0x17

/-- The notice kinds in notice order. -/
def NoticeKind.all : List NoticeKind := [.posture, .rotation, .angle, .pen, .detach, .sleep, .wake, .event]

/-- Table numbers run from 1 (R191). -/
def TableId.ofNumber : Nat → Option TableId
  | 1 => some .route | 2 => some .posture | 3 => some .schedule | 4 => some .channel | 5 => some .charge
  | 6 => some .policy | _ => none

def TableId.number : TableId → Nat
  | .route => 1 | .posture => 2 | .schedule => 3 | .channel => 4 | .charge => 5 | .policy => 6

def Subject.ofCode : Nat → Option Subject
  | 0 => some .status | 1 => some .posture | 2 => some .pen | 3 => some .base | 4 => some .converter
  | 5 => some .counters | _ => none

/-- The counter that a transaction error increases (R66). -/
def LineError.counter : LineError → Counter
  | .physical => .physical | .bit => .bit | .framing => .framing | .length => .length | .check => .check
  | .refused => .refused | .timeout => .timeout

end Sys2Proof.Machine
end

