-- ==== Sys2Proof/Machine/Tables.lean ====
section
/-!
DEFINITION. The six configuration tables (R1, R38, R39, R81, R82, R99, R132, R133, R167): the fields of each row with their
width and range, the default images, the row encoding (R191), the commits' validation (R2, R40, R83, R100, R134, R168), and
the named view of each row that the owning block reads.
An image is held as its rows' field values, exactly as TABLE_WRITE left them: R184 stores rows "as they stand", so a pending
image may hold a value outside its range, and TABLE_READ gives it back.
-/

namespace Sys2Proof.Machine

/-- The field values of one row, in the order the owner's chapter lists them. -/
abbrev Row := List Nat

/-- The rows of an image by row number; ROUTE, which has no row 0, holds an empty row there. -/
abbrev Image := List Row

/-- A field of a row: its width in characters and the ranges its value may lie in. -/
structure FieldSpec where
  width : Nat
  ranges : List (Nat × Nat)
  deriving DecidableEq, Repr

/-- Whether a value lies in the field's range. -/
def FieldSpec.admits (f : FieldSpec) (n : Nat) : Bool := f.ranges.any fun r => decide (r.1 ≤ n ∧ n ≤ r.2)

/-- A field of `w` characters with one range. -/
def field (w lo hi : Nat) : FieldSpec := ⟨w, [(lo, hi)]⟩

/-- A flag (R191: 00h or 01h). -/
def flagField : FieldSpec := field 1 0 1

/-- The row numbers of a table (R184): the first, which is 1 for ROUTE and 0 for every other table. -/
def TableId.firstRow : TableId → Nat
  | .route => 1
  | _ => 0

/-- The last row number of a table (R184). -/
def TableId.lastRow : TableId → Nat
  | .route => 5 | .posture => 12 | .schedule => 12 | .channel => 8 | .charge => 6 | .policy => 8

/-- The fields of row 0, the table's global fields (R1, R38, R81, R132, R167). -/
def globalFields : TableId → List FieldSpec
  | .route => []
  | .posture => [field 1 0 12, field 1 10 250, field 2 50 1000, field 1 0 4, field 1 2 16, field 2 64 1024, field 1 5 45,
      field 1 0 30, field 2 128 1024, field 2 0 2000, field 2 0 5000]
  | .schedule => [field 1 0 12, field 1 4 21, field 1 1 15, field 1 0 12, field 1 10 40]
  | .channel => [field 2 5 1000, field 2 5 1000, field 2 100 2000, field 1 0 255, flagField, field 1 0 30]
  | .charge => [field 1 1 6, field 2 200 400, field 1 0 31, field 1 1 16, field 1 1 64, field 1 10 100, field 1 1 7,
      field 2 100 5000, field 2 50 1000, field 2 10 600, field 1 0 99, field 2 1600 8000, field 2 1600 8000,
      field 1 1 32, flagField]
  | .policy => [field 2 50 1000, field 2 100 800, field 2 500 10000, field 2 500 10000, field 2 2000 10000,
      field 2 0 1000, field 2 0 1000, field 2 0 1000, field 1 1 50]

/-- The fields of the rows from 1 on (R1, R39, R82, R99, R133, R167). -/
def rowFields : TableId → List FieldSpec
  | .route => List.replicate 8 (field 1 0 2)
  | .posture => [field 1 2 7, field 2 0 359, field 2 0 359, field 2 0 359, field 2 0 359, field 1 0 15, field 2 0 2000,
      field 1 0 2, flagField]
  | .schedule => [field 1 1 5, field 1 0 32, field 2 1 1000, ⟨2, [(0, 0), (10, 5000)]⟩, field 1 1 8, flagField]
  | .channel => [flagField, field 2 0 4095, field 2 0 4095, field 1 0 2, field 1 1 15, flagField]
  | .charge => [field 1 0 100, field 1 0 100, field 2 0 400, field 2 0 400, field 2 10 500, field 2 0 7200]
  | .policy => [field 2 0 3600, flagField, field 1 0 1, field 1 0 255, flagField]

/-- The fields of a row by its number. -/
def fieldsOf (t : TableId) (r : Nat) : List FieldSpec := if r = 0 then globalFields t else rowFields t

/-- The length in characters of a row's encoding (R191). -/
def rowLength (t : TableId) (r : Nat) : Nat := ((fieldsOf t r).map FieldSpec.width).sum

/-- A row's encoding (R191): its fields in order, low character first. -/
def encodeRow (t : TableId) (r : Nat) (row : Row) : List Byte :=
  ((fieldsOf t r).zip row).flatMap fun p => leBytes p.1.width p.2

/-- The field values that characters give, field by field. -/
def decodeFields : List FieldSpec → List Byte → Row
  | [], _ => []
  | f :: fs, bs => leNat (bs.take f.width) :: decodeFields fs (bs.drop f.width)

/-- A row read from its encoding. -/
def decodeRow (t : TableId) (r : Nat) (bs : List Byte) : Row := decodeFields (fieldsOf t r) bs

/-- A row of an image. -/
def Image.row (img : Image) (r : Nat) : Row := img.getD r []

/-- A field of a row of an image, by the row's number and the field's place in the owner's list. -/
def Image.cell (img : Image) (r i : Nat) : Nat := (img.row r).getD i 0

/-! ### Validation -/

/-- Whether every field of the row lies in its range. -/
def fieldsOk (t : TableId) (r : Nat) (row : Row) : Bool :=
  (fieldsOf t r).length == row.length && ((fieldsOf t r).zip row).all fun p => p.1.admits p.2

/-- What else fails a row: R100 for ROUTE, R83 for SCHEDULE, R2 for CHANNEL, R134 for CHARGE. -/
def crossOk (t : TableId) (img : Image) (r : Nat) : Bool :=
  match t with
  | .route => r == 2 || (img.row r).all fun c => c != 2
  | .schedule => r == 0 || !((List.range r).any fun q => q != 0 && img.cell q 0 == img.cell r 0)
  | .channel => r == 0 || (decide (img.cell r 1 ≤ img.cell r 2) && ((r != 1 && r != 2) || img.cell r 5 == 0))
  | .charge =>
    if r = 0 then decide (img.cell 0 11 < img.cell 0 12)
    else decide (img.cell r 0 < img.cell r 1) && decide (img.cell r 2 ≤ img.cell r 3)
      && decide (img.cell r 3 ≤ img.cell 0 1 - 2 * img.cell 0 2)
  | _ => true

/-- Whether a row passes the commit's checks. -/
def rowOk (t : TableId) (img : Image) (r : Nat) : Bool := fieldsOk t r (img.row r) && crossOk t img r

/-- The last row a commit checks: rows beyond the row count, slot count or stage count are not checked (R40, R83, R134). -/
def lastChecked (t : TableId) (img : Image) : Nat :=
  match t with
  | .posture | .schedule | .charge => min (img.cell 0 0) t.lastRow
  | _ => t.lastRow

/-- The rows a commit checks, in order. -/
def checkedRows (t : TableId) (img : Image) : List Nat :=
  (List.range (lastChecked t img + 1)).drop t.firstRow

/-- The first row of the pending image that fails, by the owner's rules (R185). -/
def firstBadRow (t : TableId) (img : Image) : Option Nat := (checkedRows t img).find? fun r => !rowOk t img r

/-! ### Default images -/

/-- R99. -/
def defaultRoute : Image :=
  [[],
   [0, 1, 0, 0, 0, 1, 1, 1],
   [2, 1, 2, 2, 2, 1, 1, 1],
   [1, 1, 1, 1, 1, 1, 1, 1],
   [0, 0, 0, 0, 0, 0, 0, 0],
   [0, 0, 0, 0, 0, 0, 0, 0]]

/-- R38 and R39. -/
def defaultPosture : Image :=
  [[6, 20, 200, 2, 4, 256, 20, 10, 400, 300, 0],
   [3, 25, 165, 315, 45, 5, 200, 1, 1],
   [4, 166, 200, 0, 359, 5, 300, 0, 1],
   [5, 201, 335, 135, 225, 8, 300, 1, 0],
   [6, 201, 335, 46, 134, 8, 300, 2, 0],
   [6, 201, 335, 226, 314, 8, 300, 2, 0],
   [3, 25, 165, 0, 359, 5, 400, 1, 1]]
  ++ List.replicate 6 [3, 0, 359, 0, 359, 0, 0, 0, 0]

/-- R81 and R82. -/
def defaultSchedule : Image :=
  [[5, 16, 4, 2, 20],
   [5, 2, 20, 100, 2, 0],
   [1, 16, 4, 50, 8, 1],
   [2, 8, 8, 0, 4, 1],
   [3, 6, 20, 200, 2, 0],
   [4, 4, 1000, 5000, 1, 0]]
  ++ List.replicate 7 [1, 0, 1000, 0, 1, 0]

/-- R1: the DEEP scan set is HALL_F, HALL_R and GARAGE_P, channels 3, 4 and 5. -/
def defaultChannel : Image :=
  [[10, 100, 500, 0x38, 0, 15],
   [0, 0, 4095, 0, 1, 0],
   [1, 2300, 3500, 2, 2, 0],
   [1, 820, 4095, 2, 4, 0],
   [1, 0, 1100, 1, 3, 1],
   [1, 0, 1100, 1, 3, 1],
   [1, 0, 1400, 1, 3, 1],
   [1, 0, 4095, 0, 1, 0],
   [1, 1990, 2106, 1, 1, 0]]

/-- R132 and R133. -/
def defaultCharge : Image :=
  [[3, 256, 8, 4, 16, 20, 3, 500, 150, 60, 90, 3500, 4700, 8, 1],
   [0, 20, 40, 120, 120, 3600],
   [20, 80, 40, 200, 250, 7200],
   [80, 100, 40, 160, 150, 3600]]
  ++ List.replicate 3 [0, 100, 0, 0, 10, 0]

/-- R167: bit n of a wake mask is the source numbered n. -/
def defaultPolicy : Image :=
  [[250, 350, 2000, 3000, 4000, 600, 300, 150, 10],
   [300, 0, 0, 0xFF, 0],
   [300, 0, 0, 0xFF, 0],
   [0, 1, 1, 0xFC, 1],
   [300, 0, 0, 0xFF, 0],
   [300, 0, 0, 0xFF, 0],
   [300, 0, 0, 0xFF, 0],
   [300, 0, 0, 0xFF, 0],
   [300, 0, 0, 0xFC, 0]]

/-- The default image of a table. -/
def defaultImage : TableId → Image
  | .route => defaultRoute
  | .posture => defaultPosture
  | .schedule => defaultSchedule
  | .channel => defaultChannel
  | .charge => defaultCharge
  | .policy => defaultPolicy

/-! ### The views the owners read -/

/-- The CHANNEL table's global fields (R1); the scan periods are in ms. -/
structure ChannelGlobals where
  periodRun : Nat
  periodDoze : Nat
  periodDeep : Nat
  deepSet : ByteSet
  policy : SlotCPolicy
  deferLimit : Nat
  deriving DecidableEq, Repr

def channelGlobals (img : Image) : ChannelGlobals where
  periodRun := img.cell 0 0
  periodDoze := img.cell 0 1
  periodDeep := img.cell 0 2
  deepSet := BitVec.ofNat 8 (img.cell 0 3)
  policy := .ofCode (img.cell 0 4)
  deferLimit := img.cell 0 5

/-- A channel's row (R1). -/
structure ChannelRow where
  inScan : Bool
  low : Nat
  high : Nat
  mode : WindowMode
  debounce : Nat
  blankCoil : Bool
  deriving DecidableEq, Repr

/-- The row number is the channel number plus one (01, "The CHANNEL table"). -/
def channelRow (img : Image) (ch : Nat) : ChannelRow where
  inScan := img.cell (ch + 1) 0 == 1
  low := img.cell (ch + 1) 1
  high := img.cell (ch + 1) 2
  mode := .ofCode (img.cell (ch + 1) 3)
  debounce := img.cell (ch + 1) 4
  blankCoil := img.cell (ch + 1) 5 == 1

/-- The POSTURE table's global fields (R38); times in ms, angles in degrees, magnitudes in counts. -/
structure PostureGlobals where
  rowCount : Nat
  periodRun : Nat
  periodDoze : Nat
  shift : Nat
  staleLimit : Nat
  mMin : Nat
  amb : Nat
  rotHysteresis : Nat
  tiltMin : Nat
  rotDwell : Nat
  anglePeriod : Nat
  deriving DecidableEq, Repr

def postureGlobals (img : Image) : PostureGlobals where
  rowCount := img.cell 0 0
  periodRun := img.cell 0 1
  periodDoze := img.cell 0 2
  shift := img.cell 0 3
  staleLimit := img.cell 0 4
  mMin := img.cell 0 5
  amb := img.cell 0 6
  rotHysteresis := img.cell 0 7
  tiltMin := img.cell 0 8
  rotDwell := img.cell 0 9
  anglePeriod := img.cell 0 10

/-- A classification row (R39). -/
structure PostureRow where
  posture : Posture
  hingeLo : Nat
  hingeHi : Nat
  baseLo : Nat
  baseHi : Nat
  hysteresis : Nat
  dwell : Nat
  rotation : RotationMode
  detach : Bool
  deriving DecidableEq, Repr

def postureRow (img : Image) (r : Nat) : PostureRow where
  posture := .ofCode (img.cell r 0)
  hingeLo := img.cell r 1
  hingeHi := img.cell r 2
  baseLo := img.cell r 3
  baseHi := img.cell r 4
  hysteresis := img.cell r 5
  dwell := img.cell r 6
  rotation := .ofCode (img.cell r 7)
  detach := img.cell r 8 == 1

/-- The SCHEDULE table's global fields (R81). -/
structure ScheduleGlobals where
  slotCount : Nat
  watermark : Nat
  failLimit : Nat
  writeRank : Nat
  turnaround : Nat
  deriving DecidableEq, Repr

def scheduleGlobals (img : Image) : ScheduleGlobals where
  slotCount := img.cell 0 0
  watermark := img.cell 0 1
  failLimit := img.cell 0 2
  writeRank := img.cell 0 3
  turnaround := img.cell 0 4

/-- A slot's row (R82). -/
structure SlotRow where
  fn : Nat
  maxLength : Nat
  periodRun : Nat
  periodDoze : Nat
  maxOwed : Nat
  backpressure : Bool
  deriving DecidableEq, Repr

/-- A slot's row number is its slot number plus one (05, "The SCHEDULE table"). -/
def slotRow (img : Image) (slot : Nat) : SlotRow where
  fn := img.cell (slot + 1) 0
  maxLength := img.cell (slot + 1) 1
  periodRun := img.cell (slot + 1) 2
  periodDoze := img.cell (slot + 1) 3
  maxOwed := img.cell (slot + 1) 4
  backpressure := img.cell (slot + 1) 5 == 1

/-- The action of a ROUTE cell: a row for the kind and a cell for the posture (R99). -/
def routeCell (img : Image) (kindRow : Nat) (p : Posture) : RouteAction := .ofCode (img.cell kindRow p.code)

/-- The CHARGE table's global fields (R132). -/
structure ChargeGlobals where
  stageCount : Nat
  period : Nat
  deadBand : Nat
  dutyStep : Nat
  divider : Nat
  identBurst : Nat
  identAttempts : Nat
  waitInterval : Nat
  packetTimeout : Nat
  recheckInterval : Nat
  rechargeLevel : Nat
  resonanceLo : Nat
  resonanceHi : Nat
  persistence : Nat
  enabledAtReset : Bool
  deriving DecidableEq, Repr

def chargeGlobals (img : Image) : ChargeGlobals where
  stageCount := img.cell 0 0
  period := img.cell 0 1
  deadBand := img.cell 0 2
  dutyStep := img.cell 0 3
  divider := img.cell 0 4
  identBurst := img.cell 0 5
  identAttempts := img.cell 0 6
  waitInterval := img.cell 0 7
  packetTimeout := img.cell 0 8
  recheckInterval := img.cell 0 9
  rechargeLevel := img.cell 0 10
  resonanceLo := img.cell 0 11
  resonanceHi := img.cell 0 12
  persistence := img.cell 0 13
  enabledAtReset := img.cell 0 14 == 1

/-- A stage's row (R133). -/
structure StageRow where
  levelLo : Nat
  levelHi : Nat
  dutyMin : Nat
  dutyMax : Nat
  currentLimit : Nat
  maxTime : Nat
  deriving DecidableEq, Repr

/-- A stage's row number is its stage index plus one (08, "The CHARGE table"). -/
def stageRow (img : Image) (stage : Nat) : StageRow where
  levelLo := img.cell (stage + 1) 0
  levelHi := img.cell (stage + 1) 1
  dutyMin := img.cell (stage + 1) 2
  dutyMax := img.cell (stage + 1) 3
  currentLimit := img.cell (stage + 1) 4
  maxTime := img.cell (stage + 1) 5

/-- The POLICY table's global fields (R167); times in ms, currents in mA. -/
structure PolicyGlobals where
  latchPulse : Nat
  latchCurrent : Nat
  requestTimeout : Nat
  releaseWindow : Nat
  forcedHold : Nat
  supplyExternal : Nat
  supplyBattery : Nat
  supplyOtherwise : Nat
  wakeWidth : Nat
  deriving DecidableEq, Repr

def policyGlobals (img : Image) : PolicyGlobals where
  latchPulse := img.cell 0 0
  latchCurrent := img.cell 0 1
  requestTimeout := img.cell 0 2
  releaseWindow := img.cell 0 3
  forcedHold := img.cell 0 4
  supplyExternal := img.cell 0 5
  supplyBattery := img.cell 0 6
  supplyOtherwise := img.cell 0 7
  wakeWidth := img.cell 0 8

/-- A posture's POLICY row (R167); the idle timeout is in seconds. -/
structure PolicyRow where
  idleTimeout : Nat
  adviseOnEntry : Bool
  depth : Depth
  wakeMask : ByteSet
  chargeInSleep : Bool
  deriving DecidableEq, Repr

/-- Rows 1 to 8 follow the order of the posture codes (10, "The POLICY table"). -/
def policyRow (img : Image) (p : Posture) : PolicyRow where
  idleTimeout := img.cell (p.code + 1) 0
  adviseOnEntry := img.cell (p.code + 1) 1 == 1
  depth := .ofCode (img.cell (p.code + 1) 2)
  wakeMask := BitVec.ofNat 8 (img.cell (p.code + 1) 3)
  chargeInSleep := img.cell (p.code + 1) 4 == 1

end Sys2Proof.Machine
end

