-- ==== Sys2Proof/Machine/Blocks.lean ====
section
/-!
DEFINITION. The state each block keeps, one structure for each, with its values after power-on reset, RESET# or HUB_RESET ALL
(the tables "State after reset" of the chapters). A reset value that no rule gives names its log entry.
-/

namespace Sys2Proof.Machine

/-! ### Timers -/

/-- A running timer that counts system ticks: the ticks since its start and the duration it was started with (R113, R136). -/
structure Timer where
  elapsed : Nat
  duration : Nat
  deriving DecidableEq, Repr

/-- A timer started now. -/
def Timer.start (duration : Nat) : Timer := ⟨0, duration⟩

/-- One system tick. -/
def Timer.tick (t : Timer) : Timer := { t with elapsed := t.elapsed + 1 }

/-- Whether the timer's count has reached its duration. -/
def Timer.done (t : Timer) : Bool := decide (t.duration ≤ t.elapsed)

/-- The time remaining in ms (R191). -/
def Timer.remaining (t : Timer) : Nat := t.duration - t.elapsed

/-- Whether an optional timer runs and has reached its duration. -/
def timerDone : Option Timer → Bool
  | some t => t.done
  | none => false

/-! ### Pins -/

/-- The input pins as the hub last saw them (00_scope.md, "Pins, supply and clocks"). The outputs LDRV, WAKE#, HBH, HBL, BDQ
and SLTX follow from the blocks' own fields. -/
structure Pins where
  /-- base presence, present = true: sampled once per system tick -/
  pres : Bool
  /-- latch sense, engaged = true: sampled once per system tick (07, LSNS) -/
  lsns : Bool
  /-- SRDY, high = true (R110) -/
  srdy : Bool
  /-- BDQ, high = true, at the last system tick -/
  bdq : Bool
  /-- BCI behind the edge filter (R155) -/
  bci : Bool
  /-- the strap pins, as last sampled (R179) -/
  straps : Straps
  deriving DecidableEq, Repr

/-- The levels State.reset starts from: DESIGN CHOICE, the manual gives none (notes/assumptions/7.md). -/
def Pins.initial : Pins where
  pres := false
  lsns := false
  srdy := false
  bdq := true
  bci := false
  straps := ⟨false, false⟩

/-! ### Counters -/

/-- The counters of the COUNTERS page that belong to no pen record, each 0..255 (R17, R20, R66, R94, R97, R103, R181, R182). -/
structure Counters where
  mergedS : Nat
  droppedC : Nat
  forcedBlank : Nat
  port : Nat
  physical : Nat
  bit : Nat
  framing : Nat
  length : Nat
  check : Nat
  refused : Nat
  timeout : Nat
  skippedKeys : Nat
  skippedPointer : Nat
  skippedMotion : Nat
  skippedPower : Nat
  skippedButton : Nat
  writeDiscard : Nat
  malformed : Nat
  lost : Nat
  downCrc : Nat
  overrun : Nat
  deriving DecidableEq, Repr

/-- Every counter at 0. -/
def Counters.zero : Counters where
  mergedS := 0
  droppedC := 0
  forcedBlank := 0
  port := 0
  physical := 0
  bit := 0
  framing := 0
  length := 0
  check := 0
  refused := 0
  timeout := 0
  skippedKeys := 0
  skippedPointer := 0
  skippedMotion := 0
  skippedPower := 0
  skippedButton := 0
  writeDiscard := 0
  malformed := 0
  lost := 0
  downCrc := 0
  overrun := 0

/-- One counter's value. -/
def Counters.get (c : Counters) : Counter → Nat
  | .mergedS => c.mergedS | .droppedC => c.droppedC | .forcedBlank => c.forcedBlank | .port => c.port
  | .physical => c.physical | .bit => c.bit | .framing => c.framing | .length => c.length | .check => c.check
  | .refused => c.refused | .timeout => c.timeout | .skippedKeys => c.skippedKeys
  | .skippedPointer => c.skippedPointer | .skippedMotion => c.skippedMotion | .skippedPower => c.skippedPower
  | .skippedButton => c.skippedButton | .writeDiscard => c.writeDiscard | .malformed => c.malformed
  | .lost => c.lost | .downCrc => c.downCrc | .overrun => c.overrun

/-- The counters with one of them set. -/
def Counters.set (c : Counters) (k : Counter) (n : Nat) : Counters :=
  match k with
  | .mergedS => { c with mergedS := n } | .droppedC => { c with droppedC := n }
  | .forcedBlank => { c with forcedBlank := n } | .port => { c with port := n }
  | .physical => { c with physical := n } | .bit => { c with bit := n } | .framing => { c with framing := n }
  | .length => { c with length := n } | .check => { c with check := n } | .refused => { c with refused := n }
  | .timeout => { c with timeout := n } | .skippedKeys => { c with skippedKeys := n }
  | .skippedPointer => { c with skippedPointer := n } | .skippedMotion => { c with skippedMotion := n }
  | .skippedPower => { c with skippedPower := n } | .skippedButton => { c with skippedButton := n }
  | .writeDiscard => { c with writeDiscard := n } | .malformed => { c with malformed := n }
  | .lost => { c with lost := n } | .downCrc => { c with downCrc := n } | .overrun => { c with overrun := n }

/-- HUB_RESET LINKS clears the seven error counters (R66), PSC's six (R94), the malformed-answer and the lost-report counter
(R97, R103, R112) and leaves the others. -/
def Counters.clearLinks (c : Counters) : Counters :=
  { c with
    physical := 0, bit := 0, framing := 0, length := 0, check := 0, refused := 0, timeout := 0,
    skippedKeys := 0, skippedPointer := 0, skippedMotion := 0, skippedPower := 0, skippedButton := 0,
    writeDiscard := 0, malformed := 0, lost := 0 }

/-- The counters in the order of the COUNTERS page (11, "Frame layouts"), the pen's two left out. -/
def Counters.page (c : Counters) : List Nat :=
  [c.mergedS, c.droppedC, c.forcedBlank, c.port, c.physical, c.bit, c.framing, c.length, c.check, c.refused, c.timeout,
   c.skippedKeys, c.skippedPointer, c.skippedMotion, c.skippedPower, c.skippedButton, c.writeDiscard, c.malformed, c.lost,
   c.downCrc, c.overrun]

/-! ### Tables -/

/-- One configuration table: its two images and whether it awaits swap (R185). -/
structure Table where
  active : Image
  pending : Image
  awaiting : Bool
  deriving DecidableEq, Repr

/-- Both images hold the defaults (R1, R38, R81, R99, R132, R167), and nothing awaits swap (R185). -/
def Table.initial (t : TableId) : Table := ⟨defaultImage t, defaultImage t, false⟩

/-- The swap: the pending image becomes active, the pending image becomes a copy of it, and the table ceases to await swap
(R185). -/
def Table.swap (t : Table) : Table := ⟨t.pending, t.pending, false⟩

/-- The six tables. -/
structure Tables where
  route : Table
  posture : Table
  schedule : Table
  channel : Table
  charge : Table
  policy : Table
  deriving DecidableEq, Repr

def Tables.initial : Tables where
  route := .initial .route
  posture := .initial .posture
  schedule := .initial .schedule
  channel := .initial .channel
  charge := .initial .charge
  policy := .initial .policy

def Tables.get (t : Tables) : TableId → Table
  | .route => t.route | .posture => t.posture | .schedule => t.schedule | .channel => t.channel | .charge => t.charge
  | .policy => t.policy

def Tables.set (t : Tables) (k : TableId) (v : Table) : Tables :=
  match k with
  | .route => { t with route := v } | .posture => { t with posture := v } | .schedule => { t with schedule := v }
  | .channel => { t with channel := v } | .charge => { t with charge := v } | .policy => { t with policy := v }

/-! ### CNV -/

/-- An entry of the slot S result set (R13). -/
structure ChannelResult where
  reading : Option Nat
  time : TickCount
  deriving DecidableEq, Repr

/-- The slot C result set (R13). -/
structure CoilResult where
  coilI : Option Nat
  coilV : Option Nat
  time : TickCount
  deriving DecidableEq, Repr

/-- The converter (R4, R5, R13, R14, R16). -/
structure Cnv where
  slotS : SlotS
  slotC : SlotC
  /-- the trigger slot C holds (R3, R8) -/
  held : Option HeldTrigger
  /-- an S trigger recorded while the table awaits swap (R3) -/
  recorded : Bool
  /-- system ticks since the last S trigger (R5) -/
  scanTimer : Nat
  /-- system ticks since the scan under way started (R11) -/
  scanTicks : Nat
  /-- the channels of the scan's set not yet converted, in increasing order (R7) -/
  todo : List Nat
  /-- the readings the scan has made so far: channel and code (R13) -/
  readings : List (Nat × Nat)
  resultS : List ChannelResult
  resultC : CoilResult
  windows : List WindowState
  debounce : List Nat
  /-- the converter fault (R16) -/
  fault : Bool
  deriving DecidableEq, Repr

/-- R18. The times beside absent readings are a DESIGN CHOICE (notes/assumptions/9.md). -/
def Cnv.initial : Cnv where
  slotS := .idle
  slotC := .idle
  held := none
  recorded := false
  scanTimer := 0
  scanTicks := 0
  todo := []
  readings := []
  resultS := List.replicate Config.channels ⟨none, 0⟩
  resultC := ⟨none, none, 0⟩
  windows := List.replicate Config.channels .unset
  debounce := List.replicate Config.channels 0
  fault := false

/-! ### PAE and LSP -/

/-- The hinge record (R31). -/
structure Hinge where
  status : HingeStatus
  theta : Option Nat
  phiB : Option Nat
  deriving DecidableEq, Repr

/-- Status NONE, with no angle (R31). -/
def Hinge.empty : Hinge := ⟨.noAngle, none, none⟩

/-- The rotation record's candidate (R32). -/
structure RotationCandidate where
  rotation : Rotation
  since : TickCount
  deriving DecidableEq, Repr

/-- The posture record (R41). -/
structure PostureRecord where
  posture : Posture
  row : Option Nat
  permission : Bool
  changed : TickCount
  deriving DecidableEq, Repr

/-- The candidate record's candidate (R49). -/
structure Candidate where
  posture : Posture
  row : Option Nat
  since : TickCount
  deriving DecidableEq, Repr

/-- The posture and angle engine, with the local sensor port it reads the lid through (R19 to R55). -/
structure Pae where
  /-- the posture period timer's count (R19) -/
  periodTimer : Nat
  /-- the expiry that leaving DEEP brings has yet to be taken (R19) -/
  expiryDue : Bool
  /-- the lid read in progress: the system ticks since its start (R20) -/
  lidRead : Option Nat
  lastLid : Option Axes
  /-- a run of lid read failures is in progress (R20) -/
  lidFailing : Bool
  lidFilter : Option Axes
  baseFilter : Option Axes
  lidAge : Option Nat
  baseAge : Option Nat
  /-- φ_L of the last evaluation (R31) -/
  phiL : Option Nat
  /-- ψ of the last evaluation (R31) -/
  psi : Option Nat
  /-- the lid age of the last evaluation (R31) -/
  evaluatedLidAge : Option Nat
  /-- the base age of the last evaluation (R31) -/
  evaluatedBaseAge : Option Nat
  hinge : Hinge
  rotation : Rotation
  rotCandidate : Option RotationCandidate
  /-- the angle report timer's count (R36) -/
  angleTimer : Nat
  record : PostureRecord
  candidate : Option Candidate
  /-- PAE's copy of the Hall sense (R43) -/
  hallF : Bool
  hallR : Bool
  deriving DecidableEq, Repr

/-- 02 and 03, "State after reset". -/
def Pae.initial : Pae where
  periodTimer := 0
  expiryDue := false
  lidRead := none
  lastLid := none
  lidFailing := false
  lidFilter := none
  baseFilter := none
  lidAge := none
  baseAge := none
  phiL := none
  psi := none
  evaluatedLidAge := none
  evaluatedBaseAge := none
  hinge := .empty
  rotation := .r0
  rotCandidate := none
  angleTimer := 0
  record := ⟨.detached, none, false, 0⟩
  candidate := none
  hallF := false
  hallR := false

/-! ### BLK -/

/-- The base record (R69). -/
structure BaseRecord where
  model : Nat
  revision : Nat
  capability : ByteSet
  maxRate : LinkRate
  deriving DecidableEq, Repr

/-- The transaction in flight (R69). -/
structure Txn where
  fn : BaseFn
  write : Bool
  rate : LinkRate
  /-- a read's max length (R62); a write's length (R64) -/
  limit : Nat
  /-- the characters the hub sends after the lead (R58, R64) -/
  sent : List Byte
  /-- the deadline in Tbit from the line's release, fixed then (R63, R64); absent while the hub still sends -/
  deadline : Option Nat
  /-- the characters received so far (R62) -/
  received : List Byte
  deriving DecidableEq, Repr

/-- A low on BDQ outside any transaction, as R77 and R79 time it. -/
structure LineLow where
  /-- it began on an idle line, or counts as if it had (R77, R80) -/
  onIdle : Bool
  /-- system ticks it has lasted -/
  elapsed : Nat
  /-- attention has been taken from it (R77) -/
  taken : Bool
  /-- the 50 ms intervals already judged as a stuck line (R79) -/
  stuck : Nat
  deriving DecidableEq, Repr

/-- The base link controller (R69). -/
structure Blk where
  link : LinkState
  rate : LinkRate
  record : Option BaseRecord
  txn : Option Txn
  consecutive : Nat
  attempts : Nat
  /-- the retry timer's count (R75); absent while it is stopped -/
  retryTimer : Option Nat
  /-- a retry is due (R75) -/
  retryDue : Bool
  presentCount : Nat
  absentCount : Nat
  attention : Bool
  low : Option LineLow
  deriving DecidableEq, Repr

/-- 04, "State after reset". -/
def Blk.initial : Blk where
  link := .absent
  rate := .k250
  record := none
  txn := none
  consecutive := 0
  attempts := 0
  retryTimer := none
  retryDue := false
  presentCount := 0
  absentCount := 0
  attention := false
  low := none

/-! ### PSC -/

/-- An entry of the base write queue (R92): its function, LIGHT or INDICATOR, and its data, whose number is its length. -/
structure WriteEntry where
  fn : BaseFn
  data : List Byte
  deriving DecidableEq, Repr

/-- The poll scheduler (R85, R86, R92). -/
structure Psc where
  owed : List Nat
  due : List Nat
  writes : List WriteEntry
  deriving DecidableEq, Repr

/-- 05, "State after reset". -/
def Psc.initial : Psc where
  owed := List.replicate Config.slots 0
  due := List.replicate Config.slots 0
  writes := []

/-! ### PCH and BCD -/

/-- The coil driver (R127): the values in effect, the buffered values, and where it stands in its period. -/
structure Driver where
  period : Nat
  dead : Nat
  duty : Nat
  periodB : Nat
  deadB : Nat
  dutyB : Nat
  running : Bool
  periodNo : Nat
  /-- drive ticks since the last period boundary -/
  position : Nat
  /-- this period's compare event has been raised (R131) -/
  compared : Bool
  deriving DecidableEq, Repr

/-- R127. The rule gives no value for the position of a driver that does not run; 0 is the model's: DESIGN CHOICE,
notes/assumptions/47.md. -/
def Driver.initial : Driver where
  period := 256
  dead := 8
  duty := 0
  periodB := 256
  deadB := 8
  dutyB := 0
  running := false
  periodNo := 0
  position := 0
  compared := false

/-- The pause reasons, a set (R136, R147). -/
structure Pauses where
  thermal : Bool
  budget : Bool
  latch : Bool
  supply : Bool
  sleep : Bool
  deriving DecidableEq, Repr

def Pauses.empty : Pauses := ⟨false, false, false, false, false⟩

/-- The pen record (R152); its duty in effect is the driver's, its fault reason and fault code are PCH's. -/
structure PenRecord where
  identity : Option Byte
  battery : Option Nat
  age : Option Nat
  stage : Option Nat
  check : Nat
  violation : Nat
  deriving DecidableEq, Repr

/-- R152: every optional field absent and both counts 0. -/
def PenRecord.fresh : PenRecord := ⟨none, none, none, none, 0, 0⟩

/-- The stage change waiting for its boundary (R136): an entry to CHARGE (R142) or a change of stage (R143). -/
structure Waiting where
  stage : Nat
  entry : Bool
  deriving DecidableEq, Repr

/-- The pen charger (R127, R130, R136, R152). -/
structure Pch where
  driver : Driver
  blanking : Blanking
  state : ChargerState
  enable : Bool
  pauses : Pauses
  faultReason : Option FaultReason
  /-- the pen's fault code, beside the reason PEN_FAULT (R150) -/
  faultCode : Option Byte
  attempts : Nat
  burstKind : BurstKind
  penIdMark : Bool
  waiting : Option Waiting
  waitTimer : Option Timer
  burstTimer : Option Timer
  stageTimer : Option Timer
  packetTimer : Option Timer
  recheckTimer : Option Timer
  /-- system ticks since the entry to IDENT, until the resonance check is judged (R140) -/
  checkTicks : Option Nat
  overcurrent : Nat
  timeouts : Nat
  /-- a regulation step has been written since the CHARGE table began to await swap (R135) -/
  stepped : Bool
  pen : Option PenRecord
  deriving DecidableEq, Repr

/-- 08, "State after reset"; the charging enable is R136's. -/
def Pch.initial (enable : Bool) : Pch where
  driver := .initial
  blanking := .idle
  state := .off
  enable := enable
  pauses := .empty
  faultReason := none
  faultCode := none
  attempts := 0
  burstKind := .full
  penIdMark := false
  waiting := none
  waitTimer := none
  burstTimer := none
  stageTimer := none
  packetTimer := none
  recheckTimer := none
  checkTicks := none
  overcurrent := 0
  timeouts := 0
  stepped := false
  pen := none

/-- The record of the last valid packet (R161). -/
structure LastPacket where
  kind : Byte
  value : Byte
  time : TickCount
  deriving DecidableEq, Repr

/-- The back-channel decoder with its capture unit (R153 to R163). -/
structure Bcd where
  mode : CaptureMode
  edges : Nat
  startStamp : Option Stamp
  decoder : DecoderState
  ones : Nat
  bitCount : Nat
  acc : BitVec 24
  reference : Option Stamp
  half : Bool
  last : Option LastPacket
  /-- the free-running count of drive ticks as last read (R154) -/
  driveCount : Stamp
  /-- the free-running count of microseconds as last read (R155) -/
  microCount : Stamp
  /-- drive ticks into the current microsecond -/
  subMicro : Nat
  deriving DecidableEq, Repr

/-- R163's table; the free-running counts start from 0: DESIGN CHOICE (notes/assumptions/10.md). -/
def Bcd.initial : Bcd where
  mode := .off
  edges := 0
  startStamp := none
  decoder := .hunt
  ones := 0
  bitCount := 0
  acc := 0
  reference := none
  half := false
  last := none
  driveCount := 0
  microCount := 0
  subMicro := 0

/-! ### DLU -/

/-- The detach latch unit (R113). -/
structure Dlu where
  state : DetachState
  requestTimer : Option Timer
  pulseTimer : Option Timer
  windowTimer : Option Timer
  timedOut : Bool
  button : ButtonState
  holdTimer : Option Timer
  source : Option ReleaseSource
  /-- LDRV is driven (R122) -/
  ldrv : Bool
  deriving DecidableEq, Repr

/-- R113. -/
def Dlu.initial : Dlu where
  state := .absent
  requestTimer := none
  pulseTimer := none
  windowTimer := none
  timedOut := false
  button := .unknown
  holdTimer := none
  source := none
  ldrv := false

/-! ### SPM -/

/-- The last POWER report (R164). -/
structure PowerReport where
  battery : Nat
  external : Bool
  deriving DecidableEq, Repr

/-- A clock start in progress (R176): its elapsed ticks and its awake mark. Its other mark is the wake cause. -/
structure ClockStart where
  elapsed : Nat
  awake : Bool
  deriving DecidableEq, Repr

/-- The sleep and power manager (R164, R169); the budget is `Spm.budget`. -/
structure Spm where
  lastPower : Option PowerReport
  supply : Nat
  cap : Nat
  latchClaim : Nat
  stageLimit : Nat
  penClaim : Nat
  system : SystemState
  hub : HubPower
  activityTimer : Nat
  requested : Option Depth
  target : Option Depth
  wakeCause : ByteSet
  /-- the power state at the first wake source (R169) -/
  firstPower : Option Depth
  clock : Option ClockStart
  wakeTimer : Option Timer
  /-- WAKE# is driven low (R178) -/
  wakeLow : Bool
  /-- SPM's copy of HALL_F (R169) -/
  hallF : Bool
  deriving DecidableEq, Repr

/-- R164 and R169: the "otherwise" supply term, stage 0's limit, and the pen claim computed from them. -/
def Spm.initial : Spm where
  lastPower := none
  supply := (policyGlobals defaultPolicy).supplyOtherwise
  cap := 1000
  latchClaim := 0
  stageLimit := (stageRow defaultCharge 0).currentLimit
  penClaim := min (stageRow defaultCharge 0).currentLimit (min (policyGlobals defaultPolicy).supplyOtherwise 1000)
  system := .awake
  hub := .run
  activityTimer := 0
  requested := none
  target := none
  wakeCause := 0
  firstPower := none
  clock := none
  wakeTimer := none
  wakeLow := false
  hallF := false

/-! ### UPQ -/

/-- The report contents of R96. -/
inductive Report
  /-- key number and press (true) or release, in the base's order -/
  | keys (events : List (Nat × Bool))
  /-- `buttons` holds bits 0, 1 and 2: primary, secondary, middle -/
  | pointer (dx dy wheel : Int) (buttons : BitVec 3)
  | motion (axes : Axes)
  | power (report : PowerReport)
  | button (pressed fnLock : Bool)
  deriving DecidableEq, Repr

/-- The pen record as a PEN notice carries it (R152). -/
structure PenFields where
  identity : Option Byte
  battery : Option Nat
  age : Option Nat
  stage : Option Nat
  duty : Nat
  check : Nat
  violation : Nat
  fault : Option FaultReason
  faultCode : Option Byte
  deriving DecidableEq, Repr

/-- A notice with its payload (R36, R35, R52, R108, R126, R152, R171, R178). -/
inductive Notice
  | posture (posture previous : Posture) (row : Option Nat) (permission : Bool) (cause : PostureCause)
      (status : HingeStatus) (theta : Option Nat)
  | rotation (rotation previous : Rotation) (cause : RotationCause) (psi : Option Nat) (posture : Posture)
  | angle (status : HingeStatus) (theta phiB psi : Option Nat) (posture : Posture)
  | pen (state : ChargerState) (pauses : Pauses) (pen : Option PenFields)
  | detach (outcome : DetachOutcome) (source : Option ReleaseSource) (before after : DetachState) (lsns : Bool)
      (posture : Posture)
  | sleep (advice : Advice) (reason : Option AdviceReason) (posture : Posture) (depth : Depth) (idleTimeout : Nat)
  | wake (cause : ByteSet) (power : Option Depth) (posture : Posture)
  | event (code : EventCode) (count : Nat)
  deriving DecidableEq, Repr

/-- A notice's kind. -/
def Notice.kind : Notice → NoticeKind
  | .posture .. => .posture | .rotation .. => .rotation | .angle .. => .angle | .pen .. => .pen | .detach .. => .detach
  | .sleep .. => .sleep | .wake .. => .wake | .event .. => .event

/-- A reply (R183): the request's kind byte, the code and the data; `resetAll` marks the reply of a HUB_RESET with scope ALL,
after which the reset takes effect (R190). -/
structure Reply where
  request : Byte
  code : ReplyCode
  data : List Byte
  resetAll : Bool
  deriving DecidableEq, Repr

/-- An entry's class with its kind and payload (R105). -/
inductive Content
  | report (r : Report)
  | notice (n : Notice)
  | reply (r : Reply)
  deriving DecidableEq, Repr

/-- An entry of the upward queue (R105). -/
structure Entry where
  content : Content
  started : Bool
  deriving DecidableEq, Repr

/-- The upward queue (R105 to R107): its entries head first, the follow-on notices (at most one of a kind), and the reply
places taken. -/
structure Upq where
  entries : List Entry
  followOn : List Notice
  placesTaken : Nat
  deriving DecidableEq, Repr

/-- R111: one EVENT notice with the reset's code and a count of 1. -/
def Upq.initial (code : EventCode) : Upq where
  entries := [⟨.notice (.event code 1), false⟩]
  followOn := []
  placesTaken := 0

/-! ### SLK -/

/-- A good down frame: its kind and payload (R182). -/
structure DownFrame where
  kind : Byte
  payload : List Byte
  deriving DecidableEq, Repr

/-- The receive framer (R181): its state, the characters kept from the start character on, and the payload characters still
due. -/
structure Framer where
  state : FramerState
  kept : List RxChar
  due : Nat
  deriving DecidableEq, Repr

/-- R181: in HUNT with no characters kept. -/
def Framer.hunting : Framer := ⟨.hunt, [], 0⟩

/-- The system link interface (R179 to R190). -/
structure Slk where
  rate : LinkSpeed
  framer : Framer
  down : List DownFrame
  /-- the frame the transmitter is sending, whole (R180) -/
  tx : Option (List Byte)
  resetAll : ResetAll
  deriving DecidableEq, Repr

/-- R179: the rate the straps select. -/
def speedOf (s : Straps) : LinkSpeed := if s.rate1 then .mbit3 else if s.rate0 then .mbit2 else .mbit1

/-- 11, "State after reset". -/
def Slk.initial (straps : Straps) : Slk where
  rate := speedOf straps
  framer := .hunting
  down := []
  tx := none
  resetAll := .idle

end Sys2Proof.Machine
end

