-- ==== Sys2Proof/Machine/State.lean ====
section
/-!
DEFINITION. The whole state of the hub as plain data, the state after reset, and the reasons a command may stop.
-/

namespace Sys2Proof.Machine

/-- The reasons a command stops the machine. -/
inductive Fault
  /-- Raised by DUE_TIME for a slot number outside 0..11 (an ill-formed command, `Instr.wellFormed`): the SCHEDULE table has
  no such slot (05, "The SCHEDULE table"), so no such due time can fall. Safe: the model stops where the hardware has no step. -/
  | noSuchSlot
  deriving DecidableEq, Repr

/-- The reasons a command is refused. -/
inductive Refusal
  /-- Raised by exec alone, for a command without a meaning. No arm of exec raises it: every command has its meaning. Safe. -/
  | notModelled (mnemonic : String)
  deriving DecidableEq, Repr

/-- The hub's state and the queue of commands that wait for it. -/
structure State where
  /-- the commands waiting, first in, first out: the model's own field (notes/assumptions/1.md) -/
  pending : List Instr
  /-- system ticks since the last power-on reset, RESET# or HUB_RESET ALL (R13) -/
  ticks : TickCount
  pins : Pins
  counters : Counters
  tables : Tables
  cnv : Cnv
  pae : Pae
  blk : Blk
  psc : Psc
  pch : Pch
  bcd : Bcd
  dlu : Dlu
  spm : Spm
  upq : Upq
  slk : Slk
  deriving DecidableEq, Repr

/-- The state a power-on reset, RESET# or HUB_RESET ALL leaves (R111, and each chapter's "State after reset"): the code of its
EVENT notice, the charging enable (R136) and the pin levels, whose straps are sampled (R179). -/
def State.afterReset (code : EventCode) (enable : Bool) (pins : Pins) (pending : List Instr) : State where
  pending := pending
  ticks := 0
  pins := pins
  counters := .zero
  tables := .initial
  cnv := .initial
  pae := .initial
  blk := .initial
  psc := .initial
  pch := .initial enable
  bcd := .initial
  dlu := .initial
  spm := .initial
  upq := .initial code
  slk := .initial pins.straps

/-- The hub right after power-on reset, with no command waiting: R111's EVENT notice POR, charging enabled as the default
CHARGE image says (R136). -/
def State.reset : State :=
  .afterReset .por (chargeGlobals defaultCharge).enabledAtReset Pins.initial []

end Sys2Proof.Machine
end

