-- ==== Sys2Proof/Machine/Queue.lean ====
section
/-!
DEFINITION. The upward queue (R101 to R112): appending and merging base reports, issuing notices, queueing replies, the start
and the end of an up frame.
-/

namespace Sys2Proof.Machine

/-! ### What an entry is -/

/-- Whether the entry is a base report. -/
def Entry.isReport (e : Entry) : Bool :=
  match e.content with
  | .report _ => true
  | _ => false

/-- Whether the entry is a reply. -/
def Entry.isReply (e : Entry) : Bool :=
  match e.content with
  | .reply _ => true
  | _ => false

/-- Whether the entry is a notice of the kind. -/
def Entry.isNotice (k : NoticeKind) (e : Entry) : Bool :=
  match e.content with
  | .notice n => n.kind == k
  | _ => false

/-- R106: the count of base reports, one in transmission included. -/
def Upq.reports (u : Upq) : Nat := u.entries.countP Entry.isReport

/-- The notices in the queue. -/
def Upq.notices (u : Upq) (k : NoticeKind) : Nat := u.entries.countP (Entry.isNotice k)

/-- The replies in the queue. -/
def Upq.replies (u : Upq) : Nat := u.entries.countP Entry.isReply

/-- A new entry at the tail. -/
def Upq.append (u : Upq) (c : Content) : Upq := { u with entries := u.entries ++ [⟨c, false⟩] }

/-! ### Notices -/

/-- Whether the entry is a notice of the kind that has not started transmission. -/
def Entry.waits (k : NoticeKind) (e : Entry) : Bool := e.isNotice k && !e.started

/-- R107: a waiting notice of the kind is replaced in place; behind one in transmission the new notice takes the follow-on
place; otherwise it is appended. -/
def Upq.issue (u : Upq) (n : Notice) : Upq :=
  if u.entries.any (Entry.waits n.kind) then
    { u with entries := u.entries.map fun e => if e.waits n.kind then { e with content := .notice n } else e }
  else if u.entries.any (Entry.isNotice n.kind) then
    { u with followOn := u.followOn.filter (fun m => m.kind != n.kind) ++ [n] }
  else
    u.append (.notice n)

/-- The count an EVENT notice carries. -/
def Notice.eventCount : Notice → Nat
  | .event _ c => c
  | _ => 0

/-- The count of the entry, when it is an EVENT notice. -/
def Entry.eventCount (e : Entry) : Nat :=
  match e.content with
  | .notice n => n.eventCount
  | _ => 0

/-- R108: the count of a new EVENT notice is that of the notice it replaces plus one, saturating at 255, and 1 where it
replaces none. -/
def Upq.nextEventCount (u : Upq) : Nat :=
  match u.entries.find? (Entry.waits .event) with
  | some e => min (e.eventCount + 1) 255
  | none =>
    match u.followOn.find? (fun m => m.kind == .event) with
    | some n => min (n.eventCount + 1) 255
    | none => 1

/-! ### Base reports -/

/-- R102: the sums of a merge saturate at ±2047 for dx and dy and at ±127 for the wheel; the buttons are equal. -/
def mergePointer (old new : Report) : Option Report :=
  match old, new with
  | .pointer dx dy w b, .pointer dx' dy' w' b' =>
    if b = b' then
      some (.pointer (clampInt (-2047) 2047 (dx + dx')) (clampInt (-2047) 2047 (dy + dy')) (clampInt (-127) 127 (w + w')) b)
    else none
  | _, _ => none

/-- Whether a report is a POINTER report. -/
def Report.isPointer : Report → Bool
  | .pointer .. => true
  | _ => false

/-- R102 over the entries tail first: the first POINTER entry met is the newest; entries of other kinds do not stop the search.
`none` when the report cannot merge. -/
def mergeNewest (new : Report) : List Entry → Option (List Entry)
  | [] => none
  | e :: rest =>
    match e.content with
    | .report old =>
      if old.isPointer then
        if e.started then none
        else (mergePointer old new).map fun m => { e with content := .report m } :: rest
      else (mergeNewest new rest).map (e :: ·)
    | _ => (mergeNewest new rest).map (e :: ·)

/-- R101, R103: the report is appended, or lost (`none`) when the queue holds 22 base reports. -/
def Upq.forward (u : Upq) (r : Report) : Option Upq :=
  if u.reports < Config.maxReports then some (u.append (.report r)) else none

/-- R102: merged into the newest POINTER entry, or handled as under FORWARD. -/
def Upq.coalesce (u : Upq) (r : Report) : Option Upq :=
  match mergeNewest r u.entries.reverse with
  | some rev => some { u with entries := rev.reverse }
  | none => u.forward r

/-- R112: every base report is removed but one in transmission. -/
def Upq.dropReports (u : Upq) : Upq := { u with entries := u.entries.filter fun e => !e.isReport || e.started }

/-! ### Up frames -/

/-- R109: the head is marked as started. -/
def Upq.startHead (u : Upq) : Upq :=
  match u.entries with
  | e :: rest => { u with entries := { e with started := true } :: rest }
  | [] => u

/-- R109, R107: the head leaves; a reply's place becomes free; the follow-on of a notice's kind is appended. -/
def Upq.finishHead (u : Upq) : Upq :=
  match u.entries with
  | [] => u
  | e :: rest =>
    match e.content with
    | .report _ => { u with entries := rest }
    | .reply _ => { u with entries := rest, placesTaken := u.placesTaken - 1 }
    | .notice n =>
      match u.followOn.find? (fun m => m.kind == n.kind) with
      | none => { u with entries := rest }
      | some m =>
        { u with entries := rest ++ [⟨.notice m, false⟩], followOn := u.followOn.filter (fun f => f.kind != n.kind) }

end Sys2Proof.Machine
end

