-- ==== Sys2Proof/Machine/Ops.lean ====
section
/-!
DEFINITION. The operations several blocks share: notices, events, counters and replies; blanking requests and the capture
unit's clearing; the coil driver, the charger's transitions and its pause reasons; the budget, activity, wake sources and the
hub power state; the latch; a change of posture. Each takes the state and answers the state after it: the hand-overs of the
manual are calls inside them, in the order the manual lists the effects.
-/

namespace Sys2Proof.Machine

/-! ### Views of the active images -/

def State.chan (s : State) : ChannelGlobals := channelGlobals s.tables.channel.active
def State.chanRow (s : State) (ch : Nat) : ChannelRow := channelRow s.tables.channel.active ch
def State.post (s : State) : PostureGlobals := postureGlobals s.tables.posture.active
def State.postRow (s : State) (r : Nat) : PostureRow := postureRow s.tables.posture.active r
def State.sched (s : State) : ScheduleGlobals := scheduleGlobals s.tables.schedule.active
def State.slot (s : State) (i : Nat) : SlotRow := slotRow s.tables.schedule.active i
def State.chg (s : State) : ChargeGlobals := chargeGlobals s.tables.charge.active
def State.stage (s : State) (i : Nat) : StageRow := stageRow s.tables.charge.active i
def State.policy (s : State) : PolicyGlobals := policyGlobals s.tables.policy.active

/-- The posture in force (R41). -/
def State.posture (s : State) : Posture := s.pae.record.posture

/-- The current row of the POLICY table (10, "The POLICY table"). -/
def State.row (s : State) : PolicyRow := policyRow s.tables.policy.active s.posture

/-! ### Notices, events, counters, replies -/

/-- A block issues a notice (R107). -/
def State.notice (s : State) (n : Notice) : State := { s with upq := s.upq.issue n }

/-- An EVENT notice, whose count UPQ forms (R108). -/
def State.event (s : State) (c : EventCode) : State := s.notice (.event c s.upq.nextEventCount)

/-- A counter increases by `n` and saturates at 255; on reaching 255 it queues EVENT COUNTER_SATURATED, once until it is
cleared, because it stays at 255 until then (R17, R20, R66, R94, R97, R103, R181, R182). -/
def State.bumpBy (s : State) (k : Counter) (n : Nat) : State :=
  let old := s.counters.get k
  let new := min (old + n) Config.counterMax
  let t := { s with counters := s.counters.set k new }
  if old < Config.counterMax ∧ new = Config.counterMax then t.event .counterSaturated else t

/-- The counter increases by one. -/
def State.bump (s : State) (k : Counter) : State := s.bumpBy k 1

/-- The elapsed system ticks since a recorded tick count, which wraps (R13). -/
def State.since (s : State) (t : TickCount) : Nat := (s.ticks - t).toNat

/-- R183: the one reply of a request joins the queue. -/
def State.reply (s : State) (kind : Byte) (code : ReplyCode) (data : List Byte := []) : State :=
  { s with upq := s.upq.append (.reply ⟨kind, code, data, false⟩) }

/-- The kind of TABLE_COMMIT, whose reply the swap queues (R185). -/
def commitKind : Byte := 0x41

/-- The swap of a table (R185): the images move and the commit's reply is queued with OK. -/
def State.swapTable (s : State) (t : TableId) : State :=
  ({ s with tables := s.tables.set t (s.tables.get t).swap }).reply commitKind .ok

/-- The pen record as a notice carries it (R152). -/
def State.penFields (s : State) : Option PenFields :=
  s.pch.pen.map fun p =>
    ⟨p.identity, p.battery, p.age, p.stage, s.pch.driver.duty, p.check, p.violation, s.pch.faultReason, s.pch.faultCode⟩

/-- R152: a PEN notice with the charger state, the pause reasons and the whole pen record. -/
def State.penNotice (s : State) : State := s.notice (.pen s.pch.state s.pch.pauses s.penFields)

/-! ### Blanking requests and the capture unit -/

/-- R10, R130: slot S asks PCH for blanking and goes to BLANK_WAIT. -/
def State.requestBlanking (s : State) : State :=
  { s with
    cnv.slotS := .blankWait
    pch.blanking := if s.pch.blanking = .idle then .requested else s.pch.blanking }

/-- R11: the decoder has left DATA, so a postponed request is made at once. -/
def State.dataLeft (s : State) : State := if s.cnv.slotS = .deferring then s.requestBlanking else s

/-- R163: the measurement is abandoned, the decoder returns to HUNT with everything cleared, and the reference becomes
absent. -/
def Bcd.cleared (b : Bcd) (m : CaptureMode) : Bcd :=
  { b with
    mode := m, edges := 0, startStamp := none, decoder := .hunt, ones := 0, bitCount := 0, acc := 0, reference := none
    half := false }

/-- R153, R163: the capture unit goes to a mode with its clearing; a departure from DATA is handed to the converter. -/
def State.capture (s : State) (m : CaptureMode) : State :=
  let t := { s with bcd := s.bcd.cleared m }
  if s.bcd.decoder = .data then t.dataLeft else t

/-! ### The coil driver -/

/-- R128: the outputs turn off, the period in progress is abandoned and the period number becomes 0. The position
of a stopped driver is the model's 0: DESIGN CHOICE, notes/assumptions/47.md. -/
def Driver.stop (d : Driver) : Driver := { d with running := false, periodNo := 0, position := 0, compared := false }

/-- R129: the buffered values take effect together. -/
def Driver.load (d : Driver) : Driver := { d with period := d.periodB, dead := d.deadB, duty := d.dutyB }

/-- R128: a fresh period, which is a period boundary with number 1. -/
def Driver.start (d : Driver) : Driver :=
  { d.load with running := true, periodNo := 1, position := 0, compared := false }

/-- R129, R131: a period boundary while running; the number rises by one and returns to 1 past `n`. -/
def Driver.boundary (d : Driver) (n : Nat) : Driver :=
  { d.load with position := 0, compared := false, periodNo := if n ≤ d.periodNo then 1 else d.periodNo + 1 }

/-- R129: a duty is written; while the driver is not running it takes effect at once. -/
def Driver.writeDuty (d : Driver) (duty : Nat) : Driver :=
  { d with dutyB := duty, duty := if d.running then d.duty else duty }

/-- R127: the high-side switch is on in the first phase of the period. -/
def Driver.hbh (d : Driver) : Bool := d.running && decide (d.position < d.duty)

/-- R127: the low-side switch is on between the two dead bands. -/
def Driver.hbl (d : Driver) : Bool :=
  d.running && decide (d.duty + d.dead ≤ d.position ∧ d.position < d.period - d.dead)

/-- Whether the charger is in IDENT or CHARGE. -/
def ChargerState.drives (c : ChargerState) : Bool := c = .ident || c = .charge

/-- R128: the driver runs while the charger is in IDENT or CHARGE and no blanking is in force. -/
def Pch.settle (p : Pch) : Pch :=
  if p.state.drives && p.blanking != .inForce then
    if p.driver.running then p else { p with driver := p.driver.start }
  else if p.driver.running then { p with driver := p.driver.stop } else p

/-- The highest duty the half-bridge can take: the period less twice the dead band (R129, R144). -/
def State.dutyCeiling (s : State) : Nat := s.chg.period - 2 * s.chg.deadBand

/-- R131, R135: at the swap the new period, dead band and duty take effect together; while the driver runs the swap is a period
boundary, and a new divider sets the period number to 1. -/
def Driver.adopt (d : Driver) (period dead duty oldN newN : Nat) : Driver :=
  let e := { d with periodB := period, deadB := dead, dutyB := duty }
  if d.running then
    let f := e.boundary newN
    if oldN = newN then f else { f with periodNo := 1 }
  else e.load

/-! ### The budget record and the pause reasons -/

/-- R164: the budget is the smaller of the supply term and the system cap. -/
def Spm.budget (p : Spm) : Nat := min p.supply p.cap

/-- R165: the smaller of the stage limit and the budget less the latch claim, or 0 when that difference is negative. -/
def Spm.claim (p : Spm) : Nat := min p.stageLimit (p.budget - p.latchClaim)

/-- Whether no pause reason holds. -/
def Pauses.none (p : Pauses) : Bool := !(p.thermal || p.budget || p.latch || p.supply || p.sleep)

/-- Whether `q` raises a reason that `p` does not hold. -/
def Pauses.raises (p q : Pauses) : Bool :=
  (q.thermal && !p.thermal) || (q.budget && !p.budget) || (q.latch && !p.latch) || (q.supply && !p.supply)
    || (q.sleep && !p.sleep)

/-- R147: BUDGET and LATCH from the pen claim and whether a latch claim is held. -/
def Pauses.forClaim (p : Pauses) (claim : Nat) (latched : Bool) : Pauses :=
  { p with budget := decide (claim < 10) && !latched, latch := decide (claim < 10) && latched }

/-! ### The charger's transitions

A change of charger state can stop the driver, the stop can bring the CHARGE swap, the swap hands the stage limit on, and that can
pause the charger (R135). So the operations that pause are written over the change of state they use, `go`: the swap at a stop uses
the bare change, everything else the one that swaps. -/

/-- A change of charger state: the driver follows (R128). When the charger leaves IDENT or CHARGE the capture unit goes to OFF
(R153) and a waiting stage change is discarded (R138, R142, R148, R150, R151). -/
def State.enterCharger (s : State) (c : ChargerState) : State :=
  let t := { s with pch := ({ s.pch with state := c } : Pch).settle }
  if s.pch.state.drives && !c.drives then ({ t with pch.waiting := none }).capture .off else t

/-- R148: to PAUSED; the recheck timer, which runs in DONE alone, is not among the timers it stops. -/
def State.toPausedBy (go : State → ChargerState → State) (s : State) : State :=
  go
    { s with
      pch.waitTimer := none, pch.burstTimer := none, pch.stageTimer := none, pch.packetTimer := none, pch.waiting := none
      pch.checkTicks := none }
    .paused

/-- R139: to WAIT with the wait timer started and a PEN notice. -/
def State.toWaitBy (go : State → ChargerState → State) (s : State) : State :=
  let t := go s .wait
  ({ t with pch.waitTimer := some (.start t.chg.waitInterval) }).penNotice

/-- R147, R148: the pause reasons change together. A reason raised in WAIT, IDENT or CHARGE takes the charger to PAUSED; an
empty set in PAUSED takes it to WAIT with the attempt count at 0; each change of the set queues a PEN notice. -/
def State.setPausesBy (go : State → ChargerState → State) (s : State) (q : Pauses) : State :=
  if q = s.pch.pauses then s
  else
    let t := { s with pch.pauses := q }
    if s.pch.pauses.raises q && (s.pch.state == .wait || s.pch.state.drives) then (t.toPausedBy go).penNotice
    else if s.pch.state == .paused && q.none then ({ t with pch.attempts := 0 }).toWaitBy go
    else t.penNotice

/-- R165: the budget record with a changed input; the pen claim is computed again, and handed to PCH with whether a latch
claim is held when either changes. -/
def State.rebudgetBy (go : State → ChargerState → State) (s : State) (p : Spm) : State :=
  let q := { p with penClaim := p.claim }
  let t := { s with spm := q }
  if q.penClaim = s.spm.penClaim ∧ (0 < q.latchClaim ↔ 0 < s.spm.latchClaim) then t
  else t.setPausesBy go (t.pch.pauses.forClaim q.penClaim (decide (0 < q.latchClaim)))

/-- R152: PCH hands SPM the current limit of the stage named in the pen record, or of stage 0 when none is named. -/
def State.handLimitBy (go : State → ChargerState → State) (s : State) : State :=
  s.rebudgetBy go { s.spm with stageLimit := (s.stage ((s.pch.pen.bind PenRecord.stage).getD 0)).currentLimit }

/-- R135: the CHARGE swap that a stop of the driver brings. The charger has left IDENT and CHARGE, so no stage change waits, and
the duty is the buffered one clamped to what the new period and dead band allow. -/
def State.swapStopped (s : State) : State :=
  let oldN := s.chg.divider
  let t := s.swapTable .charge
  ({ t with
      pch.stepped := false
      pch.driver := t.pch.driver.adopt t.chg.period t.chg.deadBand (clampNat 0 t.dutyCeiling t.pch.driver.dutyB) oldN t.chg.divider
    } : State).handLimitBy State.enterCharger

/-- A change of charger state with what it brings: when it stops the driver while the CHARGE table awaits swap, the swap is made at
once (R135), and what follows works from the new image. -/
def State.toCharger (s : State) (c : ChargerState) : State :=
  let t := s.enterCharger c
  if s.pch.driver.running && !t.pch.driver.running && t.tables.charge.awaiting then t.swapStopped else t

/-- Every charger timer stops, a waiting stage change is discarded, and the resonance limit ends (R138, R150, R151). -/
def Pch.stopTimers (p : Pch) : Pch :=
  { p with
    waitTimer := none, burstTimer := none, stageTimer := none, packetTimer := none, recheckTimer := none, waiting := none
    checkTicks := none }

/-- R148: to PAUSED. -/
def State.toPaused (s : State) : State := s.toPausedBy State.toCharger

/-- R139: to WAIT. -/
def State.toWait (s : State) : State := s.toWaitBy State.toCharger

/-- R147, R148: the pause reasons change. -/
def State.setPauses (s : State) (q : Pauses) : State := s.setPausesBy State.toCharger q

/-- R165: the budget record changes. -/
def State.rebudget (s : State) (p : Spm) : State := s.rebudgetBy State.toCharger p

/-- R152: the stage limit is handed to SPM. -/
def State.handLimit (s : State) : State := s.handLimitBy State.toCharger

/-- R139: an entry to WAIT from OFF sets the attempt count to 0, and goes to PAUSED instead while a pause reason holds. -/
def State.waitFromOff (s : State) : State :=
  let t := { s with pch.attempts := 0 }
  if s.pch.pauses.none then t.toWait else t.toPaused

/-! ### The supply term and the latch claim -/

/-- R164: the supply term that the last POWER report chooses. -/
def supplyTerm (g : PolicyGlobals) : Option PowerReport → Nat
  | some r => if r.external then g.supplyExternal else if 20 ≤ r.battery then g.supplyBattery else g.supplyOtherwise
  | none => g.supplyOtherwise

/-- R164: the last POWER report changes, and the supply term with it. -/
def State.setPower (s : State) (r : Option PowerReport) : State :=
  s.rebudget { s.spm with lastPower := r, supply := supplyTerm s.policy r }

/-- R166: the latch claim takes a value, granted at once. -/
def State.setLatchClaim (s : State) (mA : Nat) : State := s.rebudget { s.spm with latchClaim := mA }

/-! ### SPM: SLEEP, the clock start, the hub power state -/

/-- R173, R174, R175: the current row's charge-in-sleep flag set together with a pen present. -/
def State.chargesInSleep (s : State) : Bool := s.row.chargeInSleep && s.pch.pen.isSome

/-- R173: when SPM raises SLEEP. -/
def State.sleepWanted (s : State) : Bool :=
  s.spm.hub == .deep || (s.spm.system == .asleep && s.spm.target == some .deep && !s.chargesInSleep)

/-- R173: SLEEP is judged again. -/
def State.judgeSleep (s : State) : State := s.setPauses { s.pch.pauses with sleep := s.sleepWanted }

/-- R73, R75: BLK asks for a hub power state in which transactions run while it is in IDENTIFY and while a retry is due. -/
def State.linkAsks (s : State) : Bool := s.blk.link == .identify || (s.blk.link == .fault && s.blk.retryDue)

/-- R175, R176: in DEEP a clock start begins, unless one is in progress. -/
def State.startClock (s : State) : State :=
  if s.spm.hub = .deep ∧ s.spm.clock = none then { s with spm.clock := some ⟨0, false⟩ } else s

/-- R175: what brings the hub out of DEEP besides a wake source. -/
def State.deepBarred (s : State) : Bool :=
  s.spm.target == some .doze || s.linkAsks || s.chargesInSleep
    || !(s.dlu.state == .latched || s.dlu.state == .absent)

/-- R175: a clock start toward DOZE when one of its conditions holds in DEEP. -/
def State.leaveDeep (s : State) : State := if s.deepBarred then s.startClock else s

/-- R85: a slot is capable when the link is RUNNING, the slot lies within the slot count and the base has its function. -/
def State.capable (s : State) (i : Nat) : Bool :=
  s.blk.link == .running && decide (i < s.sched.slotCount)
    && (match s.blk.record with
        | some r => r.capability.getLsbD (s.slot i).fn
        | none => false)

/-- R86: whether a slot is polled in a hub power state. -/
def State.polledIn (s : State) (h : HubPower) (i : Nat) : Bool :=
  match h with
  | .run => true
  | .doze => (s.slot i).periodDoze != 0
  | .deep => false

/-- R86: on entry to DOZE the owed count of every slot with a doze period of 0 becomes 0. -/
def State.owedInDoze (s : State) : List Nat :=
  (List.range s.psc.owed.length).map fun i => if s.polledIn .doze i then s.psc.owed.getD i 0 else 0

/-- A change of the hub power state between RUN and DOZE (R172, R86). The posture period, the due timers' periods and the scan
period follow from the hub power state itself (R5, R19, R86). -/
def State.setHub (s : State) (h : HubPower) : State :=
  if h = .doze ∧ s.spm.hub ≠ .doze then { s with spm.hub := h, psc.owed := s.owedInDoze } else { s with spm.hub := h }

/-! ### SPM: activity and wake sources -/

/-- R171: a SLEEP notice with the posture in force and the current row's depth and idle timeout. -/
def State.sleepNotice (s : State) (a : Advice) (r : Option AdviceReason) : State :=
  s.notice (.sleep a r s.posture s.row.depth s.row.idleTimeout)

/-- R170, R171: an activity sets the activity timer to 0 and, in AWAKE or ADVISED, settles the advice. -/
def State.activity (s : State) (postureChange : Bool) : State :=
  let t := { s with spm.activityTimer := 0 }
  match s.spm.system with
  | .awake =>
    if postureChange && s.row.adviseOnEntry then
      ({ t with spm.system := .advised }).sleepNotice .advise (some .posture)
    else t
  | .advised =>
    if postureChange && s.row.adviseOnEntry then t.sleepNotice .advise (some .posture)
    else ({ t with spm.system := .awake }).sleepNotice .withdrawn none
  | _ => t

/-- The depth that names a hub power state at the first wake source (R169). -/
def HubPower.depth : HubPower → Depth
  | .deep => .deep
  | _ => .doze

/-- R169, R177: the source joins the wake cause; joining an empty cause it records the power state it was taken in. -/
def Spm.join (p : Spm) (w : WakeSource) : Spm :=
  { p with
    wakeCause := p.wakeCause ||| w.bit
    firstPower := if p.wakeCause = 0 then some p.hub.depth else p.firstPower }

/-- R178: a WAKE notice with the whole cause, issued only in WAKING or at an entry to AWAKE with a cause (R176). -/
def State.wakeNotice (s : State) : State := s.notice (.wake s.spm.wakeCause s.spm.firstPower s.posture)

/-- R172, R177, R178: WAKING with the hub in RUN; the depths become absent, and WAKE# is driven low for the wake pulse width. -/
def State.intoWaking (s : State) : State :=
  let t := s.setHub .run
  { t with
    spm.system := .waking, spm.requested := none, spm.target := none
    spm.wakeTimer := some (.start s.policy.wakeWidth), spm.wakeLow := true }

/-- R170, R172: AWAKE with the hub in RUN; the depths become absent and the activity timer starts from 0. -/
def State.intoAwake (s : State) : State :=
  let t := s.setHub .run
  { t with spm.system := .awake, spm.requested := none, spm.target := none, spm.activityTimer := 0 }

/-- Entry to WAKING: a WAKE notice is queued (R178), and SLEEP is judged again (R173). -/
def State.toWaking (s : State) : State := s.intoWaking.wakeNotice.judgeSleep

/-- Entry to AWAKE: SLEEP is judged again (R173). -/
def State.toAwake (s : State) : State := s.intoAwake.judgeSleep

/-- R177: a wake source acts by system state, hub power state and the current row's wake mask. -/
def State.wakeSource (s : State) (w : WakeSource) : State :=
  let inMask := s.row.wakeMask.getLsbD w.index
  match s.spm.system with
  | .awake | .advised => s
  | .asleep =>
    if s.spm.hub = .deep then
      if inMask then ({ s with spm := s.spm.join w }).startClock else s.startClock
    else if inMask then ({ s with spm := s.spm.join w }).toWaking else s
  | .waking => if inMask then ({ s with spm := s.spm.join w }).wakeNotice else s

/-- R172: while the system state is ASLEEP the target depth is DEEP when both the requested depth and the current row's depth
are, and DOZE otherwise. -/
def State.formTarget (s : State) : State :=
  if s.spm.system = .asleep then
    { s with spm.target := if s.spm.requested = some .deep ∧ s.row.depth = .deep then some .deep else some .doze }
  else s

/-- R51, R171 to R175: SPM is handed the new posture: an activity, the target depth formed again, SLEEP judged again, and a
clock start where the new row calls for one. -/
def State.spmPosture (s : State) : State := (s.activity true).formTarget.judgeSleep.leaveDeep

/-! ### DLU -/

/-- R126: a DETACH notice, which SPM takes as activity when it is queued. -/
def State.detachNotice (s : State) (o : DetachOutcome) (src : Option ReleaseSource) (before : DetachState) : State :=
  (s.notice (.detach o src before s.dlu.state s.pins.lsns s.posture)).activity false

/-- R122: entry to RELEASING. -/
def State.toReleasing (s : State) (src : ReleaseSource) : State :=
  let before := s.dlu.state
  let t := { s with dlu.state := .releasing, dlu.timedOut := false, dlu.source := some src, dlu.requestTimer := none }
  let u := (t.detachNotice .releasing (some src) before).setLatchClaim s.policy.latchCurrent
  ({ u with dlu.ldrv := true, dlu.pulseTimer := some (.start s.policy.latchPulse) }).leaveDeep

/-- R122, R123: the pulse ends: LDRV stops, the claim is withdrawn to 0, the pulse timer stops. -/
def State.endPulse (s : State) : State :=
  ({ s with dlu.ldrv := false, dlu.pulseTimer := none }).setLatchClaim 0

/-- R125: a waiting request ends with outcome ABORTED. -/
def State.abortRequest (s : State) : State :=
  ({ s with dlu.state := .latched, dlu.requestTimer := none }).detachNotice .aborted none .requested

/-- R123, R125: DLU's reaction to a new posture: only CLOSED acts, on REQUESTED and on a pulse. -/
def State.dluPosture (s : State) : State :=
  if s.posture = .closed then
    match s.dlu.state with
    | .requested => s.abortRequest
    | .releasing =>
      let t := s.endPulse
      ({ t with dlu.state := .latched, dlu.source := none }).detachNotice .aborted none .releasing
    | _ => s
  else s

/-- R115: the base link leaves RUNNING: no report can say whether the button is held. -/
def State.forgetButton (s : State) : State := { s with dlu.button := .unknown, dlu.holdTimer := none }

/-! ### A change of posture -/

/-- R41: the permission of a posture without a row. -/
def rowlessPermission (p : Posture) : Bool := p == .tablet

/-- R51, R52: the record takes the new posture; then the POSTURE notice, SPM and DLU, in that order. -/
def State.changePosture (s : State) (p : Posture) (row : Option Nat) (permission : Bool) (cause : PostureCause) : State :=
  let previous := s.posture
  let t := { s with pae.record := ⟨p, row, permission, s.ticks⟩ }
  ((t.notice (.posture p previous row permission cause s.pae.hinge.status s.pae.hinge.theta)).spmPosture).dluPosture

end Sys2Proof.Machine
end

