-- ==== Sys2Proof/Machine/Charger.lean ====
section
/-!
DEFINITION. The pen charger (R127 to R152): identification, stages, regulation, faults and control, the CHARGE swap, the period
boundary with everything made at it, and the charger's own commands.
-/

namespace Sys2Proof.Machine

/-! ### Stages and duties -/

/-- R141: the last stage within the stage count whose level_lo is at most `b`; stage 0 when there is none. -/
def chosenStage (img : Image) (b : Nat) : Nat :=
  ((List.range (chargeGlobals img).stageCount).filter fun i => decide ((stageRow img i).levelLo ≤ b)).getLastD 0

/-- The chosen stage for the pen record's battery level (R141). -/
def State.chosen (s : State) : Nat :=
  match s.pch.pen.bind PenRecord.battery with
  | some b => chosenStage s.tables.charge.active b
  | none => 0

/-- R144: the duty clamp of a stage. -/
def State.clampDuty (s : State) (stage d : Nat) : Nat :=
  clampNat (s.stage stage).dutyMin (min (s.stage stage).dutyMax s.dutyCeiling) d

/-- R144: the stage in force for a regulation step: the waiting stage; otherwise stage 0 in IDENT and the pen record's stage in
CHARGE. -/
def State.stageInForce (s : State) : Nat :=
  match s.pch.waiting with
  | some w => w.stage
  | none => if s.pch.state = .charge then (s.pch.pen.bind PenRecord.stage).getD 0 else 0

/-- A stage's timer: started with its max stage time, or stopped when that is 0 (R142). -/
def State.stageTimerFor (s : State) (stage : Nat) : Option Timer :=
  if (s.stage stage).maxTime = 0 then none else some (.start ((s.stage stage).maxTime * 1000))

/-! ### Identification, charge, rest and fault -/

/-- R140: entry to IDENT with a burst of a kind. The PEN notice follows the worked example (notes/assumptions/13.md). -/
def State.toIdent (s : State) (kind : BurstKind) : State :=
  let p : Pch :=
    { s.pch with
      state := .ident, burstKind := kind, penIdMark := false, burstTimer := some (.start s.chg.identBurst)
      waitTimer := none, recheckTimer := none, packetTimer := none, waiting := none, checkTicks := some 0
      driver := s.pch.driver.writeDuty (s.stage 0).dutyMin }
  (({ s with pch := p.settle }).capture .resonance).penNotice

/-- R142: the entry to CHARGE at a stage, made at its boundary. -/
def State.toCharge (s : State) (stage : Nat) : State :=
  let t := s.toCharger .charge
  (({ t with
      pch.pen := t.pch.pen.map fun (p : PenRecord) => { p with stage := some stage }
      pch.stageTimer := s.stageTimerFor stage
      pch.packetTimer := some (.start s.chg.packetTimeout)
      pch.attempts := 0, pch.overcurrent := 0, pch.timeouts := 0, pch.waiting := none }).handLimit).penNotice

/-- R143: a change of stage, made at its boundary. -/
def State.toStage (s : State) (stage : Nat) : State :=
  (({ s with
      pch.pen := s.pch.pen.map fun (p : PenRecord) => { p with stage := some stage }
      pch.stageTimer := s.stageTimerFor stage
      pch.overcurrent := 0, pch.waiting := none }).handLimit).penNotice

/-- The entry or the stage change that waits for its boundary is made (R142, R143). -/
def State.makeWaiting (s : State) : State :=
  match s.pch.waiting with
  | some w => if w.entry then s.toCharge w.stage else s.toStage w.stage
  | none => s

/-- R149: entry to DONE. -/
def State.toDone (s : State) : State :=
  let t := s.toCharger .done
  ({ t with
      pch.burstTimer := none, pch.stageTimer := none, pch.packetTimer := none, pch.waiting := none
      pch.checkTicks := none, pch.attempts := 0
      pch.recheckTimer := some (.start (t.chg.recheckInterval * 1000)) }).penNotice

/-- R150: entry to FAULT with its reason, and the pen's fault code beside PEN_FAULT. -/
def State.toFault (s : State) (r : FaultReason) (code : Option Byte := none) : State :=
  let t := s.toCharger .fault
  ({ t with pch := { t.pch.stopTimers with faultReason := some r, faultCode := code } }).penNotice

/-! ### The pen comes and goes -/

/-- R137: the converter hands over GARAGE_P active. -/
def State.penInserted (s : State) : State :=
  let t := (({ s with pch.pen := some .fresh }).handLimit).penNotice
  let u := (((t.wakeSource .penInsert).activity false).judgeSleep).leaveDeep
  if u.pch.enable ∧ u.pch.state = .off then u.waitFromOff else u

/-- R138, R161: the converter hands over GARAGE_P inactive. -/
def State.penRemoved (s : State) : State :=
  let t := s.toCharger .off
  let u :=
    { t with
      pch := { t.pch.stopTimers with
        faultReason := none, faultCode := none, attempts := 0, overcurrent := 0, timeouts := 0, pen := none }
      bcd.last := none }
  ((((u.handLimit.penNotice).wakeSource .penRemove).activity false).judgeSleep).leaveDeep

/-! ### Control -/

/-- R151: charging is disabled. -/
def State.disable (s : State) : State :=
  let s := { s with pch.enable := false }
  if s.pch.state = .off then s.penNotice
  else
    let t := s.toCharger .off
    (({ t with
        pch := { t.pch.stopTimers with
          faultReason := none, faultCode := none, attempts := 0, overcurrent := 0, timeouts := 0
          pen := t.pch.pen.map fun (p : PenRecord) => { p with stage := none } } }).handLimit).penNotice

/-- R151: charging is enabled. -/
def State.enableCharging (s : State) : State :=
  let s := { s with pch.enable := true }
  if s.pch.state = .off ∧ s.pch.pen.isSome then s.waitFromOff else s

/-- R151: the system cap goes to SPM first, which clamps it to 1000 (R164); then the enable flag is applied. -/
def State.chargeControl (s : State) (enable : Bool) (cap : Nat) : State :=
  let t := s.rebudget { s.spm with cap := min cap 1000 }
  match enable, t.pch.enable with
  | false, true => t.disable
  | true, false => t.enableCharging
  | _, _ => t

/-! ### Regulation -/

/-- A regulation step writes a buffered duty (R129, R144). -/
def State.writeStep (s : State) (duty : Nat) : State :=
  { s with pch.driver := s.pch.driver.writeDuty duty, pch.stepped := true }

/-- R145: a slot C result in IDENT or CHARGE; in any other state it is ignored. -/
def State.regulate (s : State) (coilI : Nat) : State :=
  if s.pch.state.drives then
    let stage := s.stageInForce
    let limit := min (s.stage stage).currentLimit s.spm.penClaim
    let duty := s.pch.driver.dutyB
    if 2 * limit < coilI then
      let t := s.writeStep (s.clampDuty stage (duty - s.chg.dutyStep))
      if duty = (s.stage stage).dutyMin then
        let u := { t with pch.overcurrent := s.pch.overcurrent + 1 }
        if s.chg.persistence ≤ u.pch.overcurrent then u.toFault .overcurrent else u
      else { t with pch.overcurrent := 0 }
    else { s.writeStep duty with pch.overcurrent := 0 }
  else s

/-- R144: an ADJUST packet in CHARGE with its signed value. -/
def State.adjust (s : State) (v : Int) : State :=
  let duty := (s.pch.driver.dutyB : Int) + clampInt (-8) 8 v * (s.chg.dutyStep : Int)
  s.writeStep (s.clampDuty s.stageInForce duty.toNat)

/-! ### Packets -/

/-- The pen record with a field changed; a change of identity or battery queues a PEN notice (R152). -/
def State.setPen (s : State) (p : PenRecord) : State :=
  let t := { s with pch.pen := some p }
  match s.pch.pen with
  | some old => if old.identity = p.identity ∧ old.battery = p.battery then t else t.penNotice
  | none => t

/-- R141, R142: the entry to CHARGE at the chosen stage waits for its boundary, with that stage's duty_min written. -/
def State.awaitCharge (s : State) (b : Nat) : State :=
  let stage := chosenStage s.tables.charge.active b
  { s with
    pch.burstTimer := none, pch.waiting := some ⟨stage, true⟩
    pch.driver := s.pch.driver.writeDuty (s.stage stage).dutyMin }

/-- R141: a BATTERY packet in IDENT. -/
def State.batteryInIdent (s : State) (b : Nat) : State :=
  match s.pch.burstKind with
  | .full => if s.pch.penIdMark then s.awaitCharge b else s
  | .recheck =>
    if b < s.chg.rechargeLevel then s.awaitCharge b else ({ s with pch.burstTimer := none }).toDone

/-- R143: a BATTERY packet in CHARGE. -/
def State.batteryInCharge (s : State) (b : Nat) : State :=
  let stage := s.stageInForce
  if b < (s.stage stage).levelHi then s
  else if stage + 1 < s.chg.stageCount then
    { s with
      pch.waiting := some ⟨stage + 1, false⟩
      pch.driver := s.pch.driver.writeDuty (s.clampDuty (stage + 1) s.pch.driver.dutyB) }
  else s.toDone

/-- R161: a valid packet is delivered: it is recorded, the pen record's age becomes 0, and in CHARGE the packet timer starts
again and the timeout count becomes 0 (R146); then its kind acts (R141, R143, R144, R150). The record keeps the value as the pen sent
it, also a battery level above 100: DESIGN CHOICE, notes/assumptions/48.md. -/
def State.deliver (s : State) (kind value : Byte) : State :=
  let t : State :=
    { s with
      bcd.last := some ⟨kind, value, s.ticks⟩
      pch.pen := s.pch.pen.map fun (p : PenRecord) => { p with age := some 0 } }
  let t : State :=
    if t.pch.state = .charge then
      { t with pch.packetTimer := some (.start t.chg.packetTimeout), pch.timeouts := 0 }
    else t
  match t.pch.pen, t.pch.state.drives with
  | some p, true =>
    if kind = 1 then
      let u : State := t.setPen { p with identity := some value }
      if u.pch.state = .ident ∧ u.pch.burstKind = .full then { u with pch.penIdMark := true } else u
    else if kind = 2 then
      let b := min value.toNat 100
      let u : State := t.setPen { p with battery := some b }
      if u.pch.state = .ident then u.batteryInIdent b else u.batteryInCharge b
    else if kind = 3 then
      if t.pch.state = .charge then t.adjust (signedOf [value]) else t
    else if kind = 4 then t.toDone
    else if kind = 5 then t.toFault .penFault (some value)
    else t
  | _, _ => t

/-! ### The CHARGE swap and the period boundary -/

/-- R135: the duty written with the new image: the duty_min of a waiting entry's stage, the buffered duty clamped to a waiting
stage's range, stage 0's duty_min in IDENT, the buffered duty clamped to the stage's range in CHARGE, and otherwise the
buffered duty clamped to what the new period and dead band allow. -/
def State.swapDuty (s : State) : Nat :=
  match s.pch.waiting with
  | some w => if w.entry then (s.stage w.stage).dutyMin else s.clampDuty w.stage s.pch.driver.dutyB
  | none =>
    match s.pch.state with
    | .ident => (s.stage 0).dutyMin
    | .charge => s.clampDuty s.stageInForce s.pch.driver.dutyB
    | _ => clampNat 0 s.dutyCeiling s.pch.driver.dutyB

/-- R135: in CHARGE a stage index at or above the new stage count is chosen anew, its duty is the new stage's duty_min, and its
timer starts again. -/
def State.rechoose (s : State) : State :=
  match s.pch.state, s.pch.waiting, s.pch.pen.bind PenRecord.stage with
  | .charge, none, some i =>
    if s.chg.stageCount ≤ i then
      let stage := s.chosen
      { s with
        pch.pen := s.pch.pen.map fun (p : PenRecord) => { p with stage := some stage }
        pch.stageTimer := s.stageTimerFor stage
        pch.driver.dutyB := (s.stage stage).dutyMin }
    else s
  | _, _, _ => s

/-- R135: the CHARGE swap. -/
def State.swapCharge (s : State) : State :=
  let oldN := s.chg.divider
  let t := s.swapTable .charge
  let t :=
    { t with
      pch.stepped := false
      pch.waiting := t.pch.waiting.map fun (w : Waiting) => if t.chg.stageCount ≤ w.stage then { w with stage := t.chosen } else w }
  let t := t.rechoose
  let t := { t with pch.driver := t.pch.driver.adopt t.chg.period t.chg.deadBand t.swapDuty oldN t.chg.divider }
  t.makeWaiting.handLimit

/-- R10, R130, R154: the grant: the outputs are off, slot S goes to SCANNING or READY, and a resonance measurement starts afresh.
When it stops the driver while the CHARGE table awaits swap, the swap is made at once (R135). -/
def State.grantBlanking (s : State) : State :=
  let t :=
    { s with
      pch := ({ s.pch with blanking := .inForce } : Pch).settle
      cnv.slotS :=
        if s.cnv.slotS = .blankWait then (if s.cnv.slotC = .idle then .scanning else .ready) else s.cnv.slotS
      bcd.edges := if s.bcd.mode = .resonance then 0 else s.bcd.edges
      bcd.startStamp := if s.bcd.mode = .resonance then none else s.bcd.startStamp }
  if s.pch.driver.running && t.tables.charge.awaiting then t.swapCharge else t

/-- R129, R131, R135, R142, R143: a period boundary of the running driver: the CHARGE swap when a regulation step has been
written since its commit, otherwise the buffered values; then a waiting entry or stage change. -/
def State.boundary (s : State) : State :=
  if s.tables.charge.awaiting ∧ s.pch.stepped then s.swapCharge
  else ({ s with pch.driver := s.pch.driver.boundary s.chg.divider }).makeWaiting

/-- R130: the boundary, and the grant of blanking requested before it. -/
def State.periodBoundary (s : State) : State :=
  let t := s.boundary
  if t.pch.blanking = .requested then t.grantBlanking else t

/-! ### The commands -/

/-- PERIOD_BOUNDARY (R129): no period runs while the driver is stopped. -/
def execPeriodBoundary (s : State) : Host.Outcome State Fault Refusal :=
  .next (if s.pch.driver.running then s.periodBoundary else s)

/-- BLANKING_GRANT (R130): at a period boundary while the driver runs, and at once while it is stopped. -/
def execBlankingGrant (s : State) : Host.Outcome State Fault Refusal :=
  .next <|
    if s.pch.blanking = .requested then
      if s.pch.driver.running then s.periodBoundary else s.grantBlanking
    else s

/-- CHARGE_ENTRY (R142): a waiting entry is made at a period boundary while the driver runs, and at once while blanking is in
force. -/
def execChargeEntry (s : State) : Host.Outcome State Fault Refusal :=
  .next <|
    match s.pch.waiting with
    | some w => if w.entry then (if s.pch.driver.running then s.periodBoundary else s.makeWaiting) else s
    | none => s

/-- STAGE_CHANGE (R143): a waiting change of stage, made as an entry is. -/
def execStageChange (s : State) : Host.Outcome State Fault Refusal :=
  .next <|
    match s.pch.waiting with
    | some w => if w.entry then s else (if s.pch.driver.running then s.periodBoundary else s.makeWaiting)
    | none => s

/-- CHARGE_SWAP (R135): at the boundary of the first regulation step after the commit, or at once while the driver is
stopped. -/
def execChargeSwap (s : State) : Host.Outcome State Fault Refusal :=
  .next <|
    if s.tables.charge.awaiting then
      if s.pch.driver.running then (if s.pch.stepped then s.periodBoundary else s) else s.swapCharge
    else s

/-- WAIT_TIMER_EXPIRY (R139). -/
def execWaitTimerExpiry (s : State) : Host.Outcome State Fault Refusal :=
  .next (if s.pch.state = .wait ∧ timerDone s.pch.waitTimer then s.toIdent .full else s)

/-- RESONANCE_TIMEOUT (R140): 2 ms without an interval, counted in system ticks. -/
def execResonanceTimeout (s : State) : Host.Outcome State Fault Refusal :=
  .next <|
    match s.pch.checkTicks with
    | some n =>
      if s.pch.state = .ident ∧ s.bcd.mode = .resonance ∧ Config.resonanceTicks ≤ n then s.toFault .foreignObject else s
    | none => s

/-- R141: a failed burst. The driver stops first, which may bring a CHARGE swap (R135); the attempt count is then judged. The
manual says that the next burst is FULL: the burst kind becomes so at the failure itself, also on the way to FAULT: DESIGN CHOICE,
notes/assumptions/42.md. -/
def State.burstFailed (s : State) : State :=
  let t := ({ s with pch.burstTimer := none, pch.checkTicks := none, pch.burstKind := .full }).toCharger .wait
  let n := min (t.pch.attempts + 1) 7
  let u := { t with pch.attempts := n }
  if u.chg.identAttempts ≤ n then u.toFault .noPen
  else if u.pch.pauses.none then u.toWait else u.toPaused

/-- BURST_TIMER_EXPIRY (R141). -/
def execBurstTimerExpiry (s : State) : Host.Outcome State Fault Refusal :=
  .next (if s.pch.state = .ident ∧ timerDone s.pch.burstTimer then s.burstFailed else s)

/-- STAGE_TIMER_EXPIRY (R143). -/
def execStageTimerExpiry (s : State) : Host.Outcome State Fault Refusal :=
  .next (if s.pch.state = .charge ∧ timerDone s.pch.stageTimer then s.toFault .stageTime else s)

/-- R146: no valid packet has come for the packet timeout. -/
def State.packetTimedOut (s : State) : State :=
  let n := min (s.pch.timeouts + 1) Config.packetTimeouts
  let t := { s with pch.timeouts := n, pch.packetTimer := some (.start s.chg.packetTimeout) }
  if n = Config.packetTimeouts then ({ t with pch.attempts := 0 }).toIdent .full else t

/-- PACKET_TIMER_EXPIRY (R146). -/
def execPacketTimerExpiry (s : State) : Host.Outcome State Fault Refusal :=
  .next (if s.pch.state = .charge ∧ timerDone s.pch.packetTimer then s.packetTimedOut else s)

/-- RECHECK_TIMER_EXPIRY (R149). -/
def execRecheckTimerExpiry (s : State) : Host.Outcome State Fault Refusal :=
  .next <|
    if s.pch.state = .done ∧ timerDone s.pch.recheckTimer then
      if s.pch.pauses.none then s.toIdent .recheck
      else { s with pch.recheckTimer := some (.start (s.chg.recheckInterval * 1000)) }
    else s

end Sys2Proof.Machine
end

