-- ==== Sys2Proof/Machine/BackChannel.lean ====
section
/-!
DEFINITION. The back-channel decoder with its capture unit (R153 to R163): the resonance measurement, edges and intervals, bits, the
decoder's states, packets and their counts.
-/

namespace Sys2Proof.Machine

/-! ### The resonance measurement -/

/-- R140: the charger judges the interval of 16 resonance periods; a pass brings EDGE mode (R153). -/
def State.judgeInterval (s : State) (ticks : Nat) : State :=
  if s.chg.resonanceLo ≤ ticks ∧ ticks ≤ s.chg.resonanceHi then ({ s with pch.checkTicks := none }).capture .edge
  else s.toFault .foreignObject

/-- R154: whether rising edges on the fast path are taken. -/
def State.takesRising (s : State) : Bool :=
  s.bcd.mode == .resonance && s.pch.blanking != .inForce && decide (s.bcd.edges < 16)

/-- R154: a rising edge; the 16th after the start forms the interval, modulo 65536. -/
def State.risingEdge (s : State) (stamp : Stamp) : State :=
  match s.bcd.startStamp with
  | none => { s with bcd.startStamp := some stamp, bcd.edges := 0 }
  | some start =>
    let t := { s with bcd.edges := s.bcd.edges + 1 }
    if t.bcd.edges = 16 then t.judgeInterval (stamp - start).toNat else t

/-! ### Intervals and bits -/

/-- R156. -/
def classOf (interval : Nat) : IntervalClass :=
  if 188 ≤ interval ∧ interval ≤ 312 then .short
  else if 375 ≤ interval ∧ interval ≤ 625 then .long
  else .violation

/-- What an interval gives the decoder (R157): no bit yet, a bit, or a violation. -/
inductive Symbol
  | half
  | bit (one : Bool)
  | violation
  deriving DecidableEq, Repr

/-- R157: the half-cell mark and a class. -/
def symbolOf (mark : Bool) (c : IntervalClass) : Symbol :=
  match mark, c with
  | false, .long => .bit false
  | false, .short => .half
  | true, .short => .bit true
  | true, .long => .violation
  | _, .violation => .violation

/-! ### The decoder -/

/-- R157, R158: a return to HUNT clears the ones count, the bit count, the accumulator and the half-cell mark. -/
def Bcd.toHunt (b : Bcd) : Bcd := { b with decoder := .hunt, ones := 0, bitCount := 0, acc := 0, half := false }

/-- R160: a pen's count rises by one and saturates at 255; reaching 255 queues EVENT COUNTER_SATURATED. -/
def State.penCount (s : State) (old : Nat) (set : PenRecord → Nat → PenRecord) : State :=
  let t := { s with pch.pen := s.pch.pen.map fun (p : PenRecord) => set p (min (old + 1) Config.counterMax) }
  if old + 1 = Config.counterMax then t.event .counterSaturated else t

/-- R159: the CHECK count rises. -/
def State.checkFailed (s : State) : State :=
  match s.pch.pen with
  | some p => s.penCount p.check fun q n => { q with check := n }
  | none => s

/-- R159: the violation count rises. -/
def State.packetBroken (s : State) : State :=
  match s.pch.pen with
  | some p => s.penCount p.violation fun q n => { q with violation := n }
  | none => s

/-- R158, R159: a violation in the decoder's state; a packet in DATA is aborted and counted. -/
def State.violation (s : State) : State :=
  let t := { s with bcd := s.bcd.toHunt }
  if s.bcd.decoder = .data then t.dataLeft.packetBroken else t

/-- R159: the 24th bit completes a packet: kind, value and check, each least significant bit first. -/
def State.complete (s : State) (acc : BitVec 24) : State :=
  let kind : Byte := acc.truncate 8
  let value : Byte := (acc >>> 8).truncate 8
  let check : Byte := (acc >>> 16).truncate 8
  let t := ({ s with bcd := s.bcd.toHunt }).dataLeft
  if check = ~~~(kind ^^^ value) then t.deliver kind value else t.checkFailed

/-- R159: the accumulator with a bit placed at the position of the bit count. -/
def Bcd.placed (b : Bcd) (one : Bool) : BitVec 24 := if one then b.acc ||| (1#24 <<< b.bitCount) else b.acc

/-- R158, R159: a bit in the decoder's state. -/
def State.takeBit (s : State) (one : Bool) : State :=
  match s.bcd.decoder with
  | .hunt => if one then { s with bcd.decoder := .preamble, bcd.ones := 1 } else s
  | .preamble =>
    if one then { s with bcd.ones := min (s.bcd.ones + 1) 15 }
    else if 6 ≤ s.bcd.ones then { s with bcd.decoder := .data, bcd.bitCount := 0, bcd.acc := 0 }
    else { s with bcd := s.bcd.toHunt }
  | .data =>
    let acc := s.bcd.placed one
    if s.bcd.bitCount + 1 = 24 then s.complete acc
    else { s with bcd.acc := acc, bcd.bitCount := s.bcd.bitCount + 1 }

/-- R157: a classified interval acts. -/
def State.takeSymbol (s : State) (y : Symbol) : State :=
  match y with
  | .half => { s with bcd.half := true }
  | .bit one => ({ s with bcd.half := false }).takeBit one
  | .violation => s.violation

/-! ### Edges and silence -/

/-- R155: whether edges are taken: EDGE mode with no blanking in force. -/
def State.takesEdges (s : State) : Bool := s.bcd.mode == .edge && s.pch.blanking != .inForce

/-- R155: silence is a violation, after which the reference is absent. -/
def State.silence (s : State) : State := ({ s with bcd.reference := none }).violation

/-- The interval that an edge or a moment ends, when a reference is set (R155). -/
def Bcd.interval (b : Bcd) (stamp : Stamp) : Option Nat := b.reference.map fun r => (stamp - r).toNat

/-- R155: an edge. One that comes past the silence limit ends a silence, which is taken first. -/
def State.edge (s : State) (stamp : Stamp) : State :=
  match s.bcd.interval stamp with
  | none => { s with bcd.reference := some stamp }
  | some n =>
    if Config.silenceLimit ≤ n then { s.silence with bcd.reference := some stamp }
    else ({ s with bcd.reference := some stamp }).takeSymbol (symbolOf s.bcd.half (classOf n))

/-- R155: the edge filter: a change of level counts once the new level has held for 16 µs. `pins.bci` is the level as the filter has
accepted it last (notes/assumptions/5.md). -/
def State.accepts (s : State) (c : BciChange) : Bool := c.level != s.pins.bci && decide (Config.edgeHold ≤ c.held)

/-- The level and the microsecond count as an accepted edge shows them. -/
def State.seeBci (s : State) (c : BciChange) (stamp : Stamp) : State :=
  { s with pins.bci := c.level, bcd.microCount := stamp }

/-- Whether an edge at the stamp completes a packet (R159). -/
def State.completes (s : State) (stamp : Stamp) : Bool :=
  match s.bcd.interval stamp with
  | some n =>
    s.takesEdges && s.bcd.decoder == .data && s.bcd.bitCount == 23
      && (match symbolOf s.bcd.half (classOf n) with
          | .bit _ => true
          | _ => false)
  | none => false

/-- Whether an edge at the stamp breaks a packet (R159). -/
def State.breaks (s : State) (stamp : Stamp) : Bool :=
  match s.bcd.interval stamp with
  | some n => s.takesEdges && s.bcd.decoder == .data && symbolOf s.bcd.half (classOf n) == .violation
  | none => false

/-- Whether the silence limit has been reached at the stamp (R155). -/
def State.silent (s : State) (stamp : Stamp) : Bool :=
  match s.bcd.interval stamp with
  | some n => s.bcd.mode == .edge && decide (Config.silenceLimit ≤ n)
  | none => false

/-! ### The commands -/

/-- RESONANCE_RISING_EDGE (R154). -/
def execResonanceRisingEdge (stamp : Stamp) (s : State) : Host.Outcome State Fault Refusal :=
  .next <|
    let t := { s with bcd.driveCount := stamp }
    if t.takesRising then t.risingEdge stamp else t

/-- RESONANCE_INTERVAL (R154, R140): the rising edge that ends the 16th period. -/
def execResonanceInterval (stamp : Stamp) (s : State) : Host.Outcome State Fault Refusal :=
  .next <|
    if s.takesRising && s.bcd.startStamp.isSome && decide (s.bcd.edges = 15) then
      ({ s with bcd.driveCount := stamp }).risingEdge stamp
    else s

/-- BCI_EDGE (R155): a change that the filter accepts; a shorter one, or none, is not an edge. -/
def execBciEdge (change : BciChange) (stamp : Stamp) (s : State) : Host.Outcome State Fault Refusal :=
  .next <|
    if s.accepts change then
      let t := s.seeBci change stamp
      if t.takesEdges then t.edge stamp else t
    else s

/-- PACKET_COMPLETION (R159, R161): the edge that completes a packet. -/
def execPacketCompletion (change : BciChange) (stamp : Stamp) (s : State) : Host.Outcome State Fault Refusal :=
  .next (if s.accepts change && s.completes stamp then (s.seeBci change stamp).edge stamp else s)

/-- PACKET_ABORT (R159): the edge or the silence that breaks a packet. -/
def execPacketAbort (cause : PacketBreak) (s : State) : Host.Outcome State Fault Refusal :=
  .next <|
    match cause with
    | .edge change stamp => if s.accepts change && s.breaks stamp then (s.seeBci change stamp).edge stamp else s
    | .silence stamp =>
      if s.silent stamp && s.bcd.decoder == .data then ({ s with bcd.microCount := stamp }).silence else s

/-- SILENCE_LIMIT (R155): 626 µs have passed from the reference with no edge. -/
def execSilenceLimit (stamp : Stamp) (s : State) : Host.Outcome State Fault Refusal :=
  .next (if s.silent stamp then ({ s with bcd.microCount := stamp }).silence else s)

end Sys2Proof.Machine
end

