-- ==== Sys2Proof/Machine/Angle.lean ====
section
/-!
DEFINITION. The arctangent unit (R25 to R27), the filters and sample ages (R22 to R24), the hinge record (R29, R30) and angle
ranges (R39, R47): the arithmetic of the posture and angle engine.
-/

namespace Sys2Proof.Machine

/-! ### The arctangent unit -/

/-- T of R26: the tangent of k degrees times 4096, rounded, for k = 0 to 45. -/
def tanTable : List Nat :=
  [0, 71, 143, 215, 286, 358, 431, 503, 576, 649,
   722, 796, 871, 946, 1021, 1098, 1175, 1252, 1331, 1410,
   1491, 1572, 1655, 1739, 1824, 1910, 1998, 2087, 2178, 2270,
   2365, 2461, 2559, 2660, 2763, 2868, 2976, 3087, 3200, 3317,
   3437, 3561, 3688, 3820, 3955, 4096]

/-- T[k]. -/
def tanAt (k : Nat) : Nat := tanTable.getD k 0

/-- R26: the k for which T[k] ≤ q < T[k+1]. -/
def tanIndex (q : Nat) : Nat := (tanTable.filter fun t => decide (t ≤ q)).length - 1

/-- R26: the angle of 0..45 degrees whose tangent is nearest to q/4096; a tie gives the larger. -/
def octantAngle (q : Nat) : Nat :=
  if q = 4096 then 45
  else
    let k := tanIndex q
    if q - tanAt k < tanAt (k + 1) - q then k else k + 1

/-- R25: the ratio of the smaller magnitude to the larger, times 4096, rounded toward zero. -/
def tanRatio (au av : Nat) : Nat := min au av * 4096 / max au av

/-- R27: the direction of a pair from its octant angle; `none` for the degenerate pair (R25). -/
def arctangent (u v : Int) : Option Nat :=
  let au := u.natAbs
  let av := v.natAbs
  let a := octantAngle (tanRatio au av)
  if 0 ≤ u ∧ 0 < v then some (if au ≤ av then a else 90 - a)
  else if 0 < u ∧ v ≤ 0 then some (if av ≤ au then 90 + a else 180 - a)
  else if u ≤ 0 ∧ v < 0 then some (if au ≤ av then 180 + a else 270 - a)
  else if u < 0 ∧ 0 ≤ v then some (if av ≤ au then 270 + a else (360 - a) % 360)
  else none

/-! ### Samples, ages and filters -/

/-- R20, R21: each axis of a sample is clamped to −8191..+8191. -/
def clampAxes (a : Axes) : Axes :=
  ⟨clampInt (-8191) 8191 a.x, clampInt (-8191) 8191 a.y, clampInt (-8191) 8191 a.z⟩

/-- R22: a source is young while its age is present and below the stale limit. -/
def young (limit : Nat) (age : Option Nat) : Bool :=
  match age with
  | some a => decide (a < limit)
  | none => false

/-- R23: one axis of the filter with a present state; the quotient rounds toward minus infinity. -/
def filterAxis (k : Nat) (f sample : Int) : Int := f + (sample - f) / (2 ^ k : Nat)

/-- R23: the filter states of one sensor after a new sample. -/
def filterStep (k : Nat) (isYoung : Bool) (f : Option Axes) (sample : Axes) : Axes :=
  match f with
  | some g =>
    if isYoung then ⟨filterAxis k g.x sample.x, filterAxis k g.y sample.y, filterAxis k g.z sample.z⟩ else sample
  | none => sample

/-- R22: an age at the end of an evaluation. -/
def olderAge (age : Option Nat) : Option Nat := age.map fun a => min (a + 1) 255

/-- R21: a base sample is delivered. -/
def State.baseSample (s : State) (axes : Axes) : State :=
  { s with
    pae.baseFilter :=
      some (filterStep s.post.shift (young s.post.staleLimit s.pae.baseAge) s.pae.baseFilter (clampAxes axes))
    pae.baseAge := some 0 }

/-- R23, R22: the lid filters take a sample; the age just before is judged by the stale limit given (R37). -/
def State.lidSample (s : State) (axes : Axes) (limit : Nat) : State :=
  { s with
    pae.lidFilter := some (filterStep s.post.shift (young limit s.pae.lidAge) s.pae.lidFilter axes)
    pae.lidAge := some 0 }

/-! ### Directions and the hinge record -/

/-- R28 step 3: φ_L and ψ from the lid filters. -/
def State.directions (s : State) : State :=
  { s with
    pae.phiL := s.pae.lidFilter.bind fun f => arctangent f.y f.z
    pae.psi := s.pae.lidFilter.bind fun f => arctangent f.x f.y }

/-- R28 step 3: φ_B from the base filters. -/
def Pae.phiB (p : Pae) : Option Nat := p.baseFilter.bind fun f => arctangent f.y f.z

/-- R29: the in-plane magnitude of a sensor. -/
def inPlane (f : Option Axes) : Nat :=
  match f with
  | some a => max a.y.natAbs a.z.natAbs
  | none => 0

/-- R29: the hinge angle. -/
def hingeAngle (phiB phiL : Nat) : Nat := (180 + phiB + 360 - phiL) % 360

/-- R29: the conditions for a FRESH result. -/
def State.freshAngle (s : State) : Bool :=
  s.blk.link != .absent && young s.post.staleLimit s.pae.lidAge && young s.post.staleLimit s.pae.baseAge
    && decide (s.post.mMin ≤ inPlane s.pae.lidFilter) && decide (s.post.mMin ≤ inPlane s.pae.baseFilter)

/-- R30: a status of FRESH becomes HELD with its values kept. -/
def Hinge.hold (h : Hinge) : Hinge := if h.status = .fresh then { h with status := .held } else h

/-- R29, R30: step 4 of an evaluation. -/
def State.hingeStep (s : State) : State :=
  let h : Hinge :=
    match s.freshAngle, s.pae.phiB, s.pae.phiL with
    | true, some b, some l => ⟨.fresh, some (hingeAngle b l), some b⟩
    | _, _, _ => if s.blk.link = .absent then .empty else s.pae.hinge.hold
  { s with pae.hinge := h }

/-! ### Angle ranges -/

/-- R39: whether a range of angles contains one; with lo above hi it wraps through 0. -/
def inAngles (lo hi x : Nat) : Bool := if lo ≤ hi then decide (lo ≤ x ∧ x ≤ hi) else decide (lo ≤ x ∨ x ≤ hi)

/-- R47: whether a range widened by a hysteresis contains an angle. -/
def inWidened (lo hi h x : Nat) : Bool :=
  let n := (hi + 360 - lo) % 360 + 1
  if 360 ≤ n + 2 * h then true else inAngles ((lo + 360 - h) % 360) ((hi + h) % 360) x

/-- R39: a row matches when θ and φ_B lie in its ranges. -/
def PostureRow.holds (r : PostureRow) (theta phiB : Nat) : Bool :=
  inAngles r.hingeLo r.hingeHi theta && inAngles r.baseLo r.baseHi phiB

/-- R47: the row widened by its hysteresis. -/
def PostureRow.holdsWidened (r : PostureRow) (theta phiB : Nat) : Bool :=
  inWidened r.hingeLo r.hingeHi r.hysteresis theta && inWidened r.baseLo r.baseHi r.hysteresis phiB

/-- R34: the angular distance of two directions, 0..180. -/
def angularDistance (a b : Nat) : Nat :=
  let d := max a b - min a b
  min d (360 - d)

/-- R34: the rotation nearest to ψ; of two equally near the smaller. -/
def nearestRotation (psi : Nat) : Rotation :=
  if psi ≤ 45 ∨ 315 ≤ psi then .r0 else if psi ≤ 135 then .r90 else if psi ≤ 225 then .r180 else .r270

end Sys2Proof.Machine
end

