-- ==== Sys2Proof/Machine/Posture.lean ====
section
/-!
DEFINITION. The posture and angle engine (R19 to R55): the lid read, the posture evaluation in its eight steps, the POSTURE swap,
and the engine's own commands.
-/

namespace Sys2Proof.Machine

/-! ### Step 1: the POSTURE swap -/

/-- R54: the first row within the row count with a posture code. -/
def State.firstRowOf (s : State) (p : Posture) : Option Nat :=
  ((List.range (s.post.rowCount + 1)).drop 1).find? fun r => (s.postRow r).posture == p

/-- R54: the row of the posture record under a new image. -/
def State.rowUnder (s : State) : Option Nat :=
  let p := s.posture
  match s.pae.record.row with
  | some r => if 1 ≤ r ∧ r ≤ s.post.rowCount ∧ (s.postRow r).posture = p then some r else s.firstRowOf p
  | none => s.firstRowOf p

/-- R41: the detach permission of a posture with its row. -/
def State.permissionOf (s : State) (p : Posture) (row : Option Nat) : Bool :=
  match row with
  | some r => (s.postRow r).detach
  | none => rowlessPermission p

/-- R37, R54: the POSTURE swap; a report period that goes to or comes from 0 sets the angle report timer's count to 0. -/
def State.swapPosture (s : State) : State :=
  let t := s.swapTable .posture
  let row := t.rowUnder
  { t with
    pae.candidate := none
    pae.record := { t.pae.record with row := row, permission := t.permissionOf t.posture row }
    pae.angleTimer := if s.post.anglePeriod = 0 ∨ t.post.anglePeriod = 0 then 0 else t.pae.angleTimer }

/-! ### Step 5: the classification -/

/-- R44: what the Hall copy proposes. -/
def hallProposal (front rear : Bool) : Option Posture :=
  match front, rear with
  | true, false => some .closed
  | false, true => some .tablet
  | true, true => some .unknown
  | false, false => none

/-- R48: the first row within the row count that matches. -/
def State.scanRows (s : State) (theta phiB : Nat) : Option Nat :=
  ((List.range (s.post.rowCount + 1)).drop 1).find? fun r => (s.postRow r).holds theta phiB

/-- R46: whether an angle lies in the ambiguous zone. -/
def State.inZone (s : State) (theta : Nat) : Bool := decide (theta ≤ s.post.amb) || decide (360 - s.post.amb ≤ theta)

/-- R47: whether the row the record names matches when widened. -/
def State.currentRowHolds (s : State) (theta phiB : Nat) : Bool :=
  match s.pae.record.row with
  | some r => (s.postRow r).holdsWidened theta phiB
  | none => false

/-- A proposal of step 5: a posture, its row and the cause its adoption reports (R49, R52). -/
abbrev Proposal := Posture × Option Nat × PostureCause

/-- R46 to R48: what a FRESH angle proposes. -/
def State.proposeByAngle (s : State) (theta phiB : Nat) : Option Proposal :=
  if s.inZone theta then
    match s.posture with
    | .closed | .tablet | .unknown => none
    | _ => some (.unknown, none, .zone)
  else if s.currentRowHolds theta phiB then none
  else (s.scanRows theta phiB).map fun r => ((s.postRow r).posture, some r, .angle)

/-- R44 to R48: the proposal of this evaluation; `none` when the posture is kept or held. -/
def State.proposal (s : State) : Option Proposal :=
  if s.blk.link = .absent then none
  else
    match hallProposal s.pae.hallF s.pae.hallR with
    | some p => if p = s.posture then none else some (p, none, .hall)
    | none =>
      match s.pae.hinge.status, s.pae.hinge.theta, s.pae.hinge.phiB with
      | .fresh, some theta, some phiB => s.proposeByAngle theta phiB
      | _, _, _ => none

/-- R50: a candidate is adopted. -/
def State.adopt (s : State) (p : Posture) (row : Option Nat) (cause : PostureCause) : State :=
  let t := { s with pae.candidate := none }
  let permission := s.permissionOf p row
  if p = s.posture then { t with pae.record := { t.pae.record with row := row, permission := permission } }
  else t.changePosture p row permission cause

/-- R49: the tick count at which the proposal was first made. -/
def State.firstProposed (s : State) (p : Posture) (row : Option Nat) : TickCount :=
  match s.pae.candidate with
  | some c => if c.posture = p ∧ c.row = row then c.since else s.ticks
  | none => s.ticks

/-- R50: the dwell of a candidate. -/
def State.dwellOf (s : State) (row : Option Nat) : Nat :=
  match row with
  | some r => (s.postRow r).dwell
  | none => Config.rowlessDwell

/-- R49, R50: a proposal makes or keeps the candidate, and the dwell is checked. -/
def State.propose (s : State) (p : Posture) (row : Option Nat) (cause : PostureCause) : State :=
  let start := s.firstProposed p row
  if s.dwellOf row ≤ s.since start then s.adopt p row cause
  else { s with pae.candidate := some ⟨p, row, start⟩ }

/-- Step 5 of an evaluation (R44 to R50). -/
def State.classify (s : State) : State :=
  match s.proposal with
  | some (p, row, cause) => s.propose p row cause
  | none => { s with pae.candidate := none }

/-! ### Step 6: the rotation -/

/-- R32: how the rotation is treated; `none` when it is held. -/
def State.rotationTreatment (s : State) : Option RotationMode :=
  match s.posture with
  | .detached | .unknown | .closed => none
  | _ =>
    match s.pae.record.row with
    | some r => some (s.postRow r).rotation
    | none => some .free

/-- A change of rotation with its notice (R33, R35). -/
def State.turn (s : State) (r : Rotation) (cause : RotationCause) : State :=
  ({ s with pae.rotation := r }).notice (.rotation r s.pae.rotation cause s.pae.psi s.posture)

/-- R33: a lock. -/
def State.lockRotation (s : State) (r : Rotation) : State :=
  let t := { s with pae.rotCandidate := none }
  if r = s.pae.rotation then t else t.turn r .lock

/-- R34: the larger of the magnitudes of lid filter x and lid filter y. -/
def lidTilt (f : Option Axes) : Nat :=
  match f with
  | some a => max a.x.natAbs a.y.natAbs
  | none => 0

/-- R34: the rotation that a free evaluation proposes, if any. -/
def State.rotationProposal (s : State) : Option Rotation :=
  match s.pae.psi with
  | none => none
  | some psi =>
    if young s.post.staleLimit s.pae.lidAge ∧ s.post.tiltMin ≤ lidTilt s.pae.lidFilter ∧
        45 + s.post.rotHysteresis < angularDistance psi s.pae.rotation.degrees then
      some (nearestRotation psi)
    else none

/-- R34: the tick count at which a rotation was first proposed. -/
def State.rotationSince (s : State) (r : Rotation) : TickCount :=
  match s.pae.rotCandidate with
  | some c => if c.rotation = r then c.since else s.ticks
  | none => s.ticks

/-- R34, R35: a free rotation. -/
def State.freeRotation (s : State) : State :=
  match s.rotationProposal with
  | none => { s with pae.rotCandidate := none }
  | some r =>
    let start := s.rotationSince r
    if s.post.rotDwell ≤ s.since start then ({ s with pae.rotCandidate := none }).turn r .free
    else { s with pae.rotCandidate := some ⟨r, start⟩ }

/-- Step 6 of an evaluation (R32 to R35). -/
def State.rotate (s : State) : State :=
  match s.rotationTreatment with
  | none => { s with pae.rotCandidate := none }
  | some .lock0 => s.lockRotation .r0
  | some .lock180 => s.lockRotation .r180
  | some .free => s.freeRotation

/-! ### Steps 7 and 8, and the evaluation -/

/-- Step 7 of an evaluation (R36). -/
def State.angleStep (s : State) : State :=
  if 0 < s.post.anglePeriod ∧ s.post.anglePeriod ≤ s.pae.angleTimer then
    ({ s with pae.angleTimer := 0 }).notice
      (.angle s.pae.hinge.status s.pae.hinge.theta s.pae.hinge.phiB s.pae.psi s.posture)
  else s

/-- Step 8 of an evaluation: the ages it used become those of the last evaluation (R31; DESIGN CHOICE, notes/assumptions/39.md), and
every age that is present goes on by one (R22). -/
def State.ageStep (s : State) : State :=
  { s with
    pae.evaluatedLidAge := s.pae.lidAge
    pae.evaluatedBaseAge := s.pae.baseAge
    pae.lidAge := olderAge s.pae.lidAge
    pae.baseAge := olderAge s.pae.baseAge }

/-- R28: the posture evaluation. The stale limit that judges the lid's filter is the one before a swap (R37). -/
def State.evaluate (s : State) (sample : Option Axes) : State :=
  let limit := s.post.staleLimit
  let t := if s.tables.posture.awaiting then s.swapPosture else s
  let t :=
    match sample with
    | some a => t.lidSample a limit
    | none => t
  t.directions.hingeStep.classify.rotate.angleStep.ageStep

/-! ### The lid read -/

/-- R20: a read ends with a sample. -/
def State.lidCompleted (s : State) (axes : Axes) : State :=
  ({ s with pae.lidRead := none, pae.lidFailing := false, pae.lastLid := some (clampAxes axes) }).evaluate
    (some (clampAxes axes))

/-- R20: a read fails; the first failure of a run queues EVENT LSP_FAULT. -/
def State.lidFailed (s : State) : State :=
  let t := { s with pae.lidRead := none, pae.lidFailing := true }
  ((if s.pae.lidFailing then t else t.event .lspFault).bump .port).evaluate none

/-- How a read ends (R20). -/
def State.lidEnds (s : State) : LidEnding → State
  | .sample axes => s.lidCompleted axes
  | .noAcknowledge => s.lidFailed
  | .notReady => s.lidFailed

/-- R20: what the accelerometer brings to a read in progress, within 2 ms of its start; at exactly 2 ms the sender decides which ending
comes (notes/assumptions/34.md). -/
def State.takeLidEnding (s : State) (ending : LidEnding) : State :=
  match s.pae.lidRead with
  | some n => if n ≤ Config.lidReadTicks then s.lidEnds ending else s
  | none => s

/-- R20: the read has not completed 2 ms after it started. -/
def State.takeLidLimit (s : State) : State :=
  match s.pae.lidRead with
  | some n => if Config.lidReadTicks ≤ n then s.lidFailed else s
  | none => s

/-! ### The commands -/

/-- R19: the posture period of the hub power state. -/
def State.posturePeriod (s : State) : Nat := if s.spm.hub = .run then s.post.periodRun else s.post.periodDoze

/-- POSTURE_PERIOD_TIMER_EXPIRY (R19): the count has reached the period, or the hub has just left DEEP. -/
def execPosturePeriodTimerExpiry (s : State) : Host.Outcome State Fault Refusal :=
  .next <|
    if s.spm.hub ≠ .deep ∧ (s.pae.expiryDue ∨ s.posturePeriod ≤ s.pae.periodTimer) then
      { s with pae.periodTimer := 0, pae.expiryDue := false, pae.lidRead := some 0 }
    else s

/-- LID_READ_COMPLETION (R20). -/
def execLidReadCompletion (ending : LidEnding) (s : State) : Host.Outcome State Fault Refusal :=
  .next (s.takeLidEnding ending)

/-- LID_READ_TIMEOUT (R20). -/
def execLidReadTimeout (s : State) : Host.Outcome State Fault Refusal := .next s.takeLidLimit

/-- POSTURE_SWAP (R54): the evaluation whose step 1 makes the swap; the swap is no step of its own (R28). -/
def execPostureSwap (start : EvaluationStart) (s : State) : Host.Outcome State Fault Refusal :=
  .next <|
    if s.tables.posture.awaiting then
      match start with
      | .completion ending => s.takeLidEnding ending
      | .limit => s.takeLidLimit
    else s

end Sys2Proof.Machine
end

