-- ==== Sys2Proof/Machine/Latch.lean ====
section
/-!
DEFINITION. The detach latch unit (R113 to R126): the button, the request, the pulse and the release window. The entry to RELEASING
and the ends that a posture brings are in Machine/Ops.lean; the entry to ABSENT is in Machine/BaseLink.lean.
-/

namespace Sys2Proof.Machine

/-- R116, R120: whether the posture record lets a press or a software release through. -/
def State.mayDetach (s : State) : Bool :=
  s.posture != .closed && s.posture != .unknown && s.pae.record.permission

/-- R116: a press in LATCHED that is not refused. -/
def State.toRequested (s : State) : State :=
  ({ s with
      dlu.state := .requested, dlu.requestTimer := some (.start s.policy.requestTimeout)
      dlu.timedOut := false }).detachNotice .requested none .latched

/-- R115, R116: a BUTTON report with the button pressed. -/
def State.buttonPressed (s : State) : State :=
  if s.dlu.button = .pressed then s
  else
    let t := { s with dlu.button := .pressed, dlu.holdTimer := some (.start s.policy.forcedHold) }
    if s.dlu.state = .latched then
      if s.mayDetach then t.toRequested else t.detachNotice .notAllowed none .latched
    else t

/-- R115: a BUTTON report with the button released. -/
def State.buttonReleased (s : State) : State := { s with dlu.button := .released, dlu.holdTimer := none }

/-- R114: the base link enters RUNNING while the detach state is ABSENT; `identified` tells a link that came from IDENTIFY. -/
def State.attach (s : State) (identified : Bool) : State :=
  let t := { s with dlu.state := .latched }
  let t := if s.pins.lsns then t else t.event .latchSense
  let t := if identified then t.detachNotice .attached none .absent else t
  t.wakeSource .baseAttach

/-- R123, R124: the base link enters ABSENT in any detach state but ABSENT. -/
def State.detached (s : State) : State :=
  (({ s with dlu := .initial }).setLatchClaim 0 |>.detachNotice .detached none s.dlu.state).wakeSource .baseDetach

/-! ### The commands -/

/-- REQUEST_TIMER_EXPIRY (R119). -/
def execRequestTimerExpiry (s : State) : Host.Outcome State Fault Refusal :=
  .next <|
    if s.dlu.state = .requested ∧ timerDone s.dlu.requestTimer then
      ({ s with dlu.state := .latched, dlu.requestTimer := none, dlu.timedOut := true }).detachNotice
        .timedOut none .requested
    else s

/-- FORCED_RELEASE (R121): judged once for each press, when the hold timer reaches its duration. -/
def execForcedRelease (s : State) : Host.Outcome State Fault Refusal :=
  .next <|
    if timerDone s.dlu.holdTimer ∧ s.dlu.button = .pressed then
      let t := { s with dlu.holdTimer := none }
      if (s.dlu.state = .latched ∨ s.dlu.state = .requested) ∧ s.posture ≠ .closed then t.toReleasing .forced else t
    else s

/-- PULSE_TIMER_EXPIRY (R122): the pulse ends, the release window begins, and LSNS is sampled. -/
def execPulseTimerExpiry (s : State) : Host.Outcome State Fault Refusal :=
  .next <|
    if s.dlu.state = .releasing ∧ timerDone s.dlu.pulseTimer then
      let t := s.endPulse
      let t := { t with dlu.state := .released, dlu.windowTimer := some (.start s.policy.releaseWindow) }
      if s.pins.lsns then t.event .latchSense else t
    else s

/-- RELEASE_WINDOW_EXPIRY (R124): the base is still present; the latch counts as closed again, and LSNS is sampled. -/
def execReleaseWindowExpiry (s : State) : Host.Outcome State Fault Refusal :=
  .next <|
    if s.dlu.state = .released ∧ timerDone s.dlu.windowTimer then
      let t :=
        ({ s with dlu.state := .latched, dlu.windowTimer := none, dlu.source := none }).detachNotice
          .aborted none .released
      if s.pins.lsns then t else t.event .latchSense
    else s

end Sys2Proof.Machine
end

