-- ==== Sys2Proof/Machine/Router.lean ====
section
/-!
DEFINITION. The report router (R95 to R104): reading an answer, internal delivery, the ROUTE action, activity and wake sources.
-/

namespace Sys2Proof.Machine

/-! ### Reading an answer -/

/-- R96, R97: the key events of an answer; `none` when an event is malformed. -/
def readEvents : List Byte → Option (List (Nat × Bool))
  | [] => some []
  | [_] => none
  | key :: state :: rest =>
    if key.toNat < 128 ∧ (state = 0 ∨ state = 1) then
      (readEvents rest).map ((key.toNat, state == 1) :: ·)
    else none

/-- R96: a POINTER answer. -/
def readPointer : List Byte → Option Report
  | [a, b, c, d, w, k] =>
    some (.pointer (clampInt (-2047) 2047 (signedOf [a, b])) (clampInt (-2047) 2047 (signedOf [c, d]))
      (clampInt (-127) 127 (signedOf [w])) (k.truncate 3))
  | _ => none

/-- R96: a MOTION answer. -/
def readMotion : List Byte → Option Report
  | [a, b, c, d, e, f] => some (.motion (clampAxes ⟨signedOf [a, b], signedOf [c, d], signedOf [e, f]⟩))
  | _ => none

/-- R96: a POWER answer. -/
def readPower : List Byte → Option Report
  | [level, flags] => some (.power ⟨min level.toNat 100, flags.getLsbD 0⟩)
  | _ => none

/-- R96, R97: a BUTTON answer. -/
def readButton : List Byte → Option Report
  | [state, flags] => if state = 0 ∨ state = 1 then some (.button (state == 1) (flags.getLsbD 0)) else none
  | _ => none

/-- R96, R97: an answer that is not empty, read as the report of its function; `none` when it is malformed. -/
def readReport (fn : BaseFn) (data : List Byte) : Option Report :=
  match fn with
  | .keys => if data.length ≤ 16 then (readEvents data).map .keys else none
  | .pointer => readPointer data
  | .motion => readMotion data
  | .power => readPower data
  | .button => readButton data
  | _ => none

/-! ### The steps of the routing -/

/-- R98: step 3, internal delivery. -/
def State.deliverReport (s : State) : Report → State
  | .motion axes => s.baseSample axes
  | .power p => s.setPower (some p)
  | .button pressed _ => if pressed then s.buttonPressed else s.buttonReleased
  | _ => s

/-- R101, R103: the report is forwarded, or lost and counted. -/
def State.forward (s : State) (r : Report) : State :=
  match s.upq.forward r with
  | some u => { s with upq := u }
  | none => s.bump .lost

/-- R102: the report is merged or forwarded, or lost and counted. -/
def State.coalesce (s : State) (r : Report) : State :=
  match s.upq.coalesce r with
  | some u => { s with upq := u }
  | none => s.bump .lost

/-- R101 to R103: step 4, the action. -/
def State.applyAction (s : State) (a : RouteAction) (r : Report) : State :=
  match a with
  | .forward => s.forward r
  | .drop => s
  | .coalesce => s.coalesce r

/-- R104: step 5, activity and wake sources. -/
def State.handOn (s : State) (a : RouteAction) (r : Report) : State :=
  match r with
  | .keys _ => (if a = .drop then s else s.activity false).wakeSource .keys
  | .pointer .. => (if a = .drop then s else s.activity false).wakeSource .pointer
  | .button true _ => s.wakeSource .button
  | _ => s

/-- The ROUTE row of a report's kind (R99). -/
def Report.row : Report → Nat
  | .keys _ => 1
  | .pointer .. => 2
  | .motion _ => 3
  | .power _ => 4
  | .button .. => 5

/-- R95: the routing of one response record. -/
def State.route (s : State) (fn : BaseFn) (data : List Byte) : State :=
  if data.isEmpty then s
  else
    match readReport fn data with
    | none => s.bump .malformed
    | some r =>
      let action := routeCell s.tables.route.active r.row s.posture
      ((s.deliverReport r).applyAction action r).handOn action r

end Sys2Proof.Machine
end

