-- ==== Sys2Proof/Machine/Scheduler.lean ====
section
/-!
DEFINITION. The poll scheduler (R84 to R94): owed counts and due times, blocking, the choice of the next transaction, its settlement,
and the base write queue.
-/

namespace Sys2Proof.Machine

/-! ### Owed counts -/

/-- R85: the link has entered RUNNING: every capable slot polled in the hub power state is owed one poll, and every due timer
starts from 0. -/
def State.startPolls (s : State) : State :=
  { s with
    psc.owed := (List.range Config.slots).map fun i => if s.capable i && s.polledIn s.spm.hub i then 1 else 0
    psc.due := List.replicate Config.slots 0 }

/-- R85: the link leaves RUNNING: every owed count and every due timer is 0. -/
def State.stopPolls (s : State) : State :=
  { s with psc.owed := List.replicate Config.slots 0, psc.due := List.replicate Config.slots 0 }

/-- R92: the write queue is flushed; a counted flush raises the write discard counter by its entries. -/
def State.flushWrites (s : State) (counted : Bool) : State :=
  let t := { s with psc.writes := [] }
  if counted then t.bumpBy .writeDiscard s.psc.writes.length else t

/-- The slot within the slot count that names a function; a validated image holds each function at most once (R83). -/
def State.slotOf (s : State) (fn : BaseFn) : Option Nat :=
  (List.range s.sched.slotCount).find? fun i => (s.slot i).fn == fn.number

/-- A slot's owed count. -/
def State.owed (s : State) (i : Nat) : Nat := s.psc.owed.getD i 0

/-- R88: an attention reaches the BUTTON slot, if it is capable. -/
def State.attentionPoll (s : State) : State :=
  match s.slotOf .button with
  | some i => if s.capable i then { s with psc.owed := s.psc.owed.set i (max 1 (s.owed i)) } else s
  | none => s

/-- R87: the skipped counter of a slot's function. -/
def skippedCounter : Nat → Counter
  | 1 => .skippedKeys
  | 2 => .skippedPointer
  | 3 => .skippedMotion
  | 4 => .skippedPower
  | _ => .skippedButton

/-- R87: a due time. -/
def State.dueTime (s : State) (i : Nat) : State :=
  let t := { s with psc.due := s.psc.due.set i 0 }
  if s.owed i < (s.slot i).maxOwed then { t with psc.owed := s.psc.owed.set i (s.owed i + 1) }
  else t.bump (skippedCounter (s.slot i).fn)

/-- R86: the period of a slot's due timer in the hub power state. -/
def State.duePeriod (s : State) (i : Nat) : Nat :=
  if s.spm.hub = .doze then (s.slot i).periodDoze else (s.slot i).periodRun

/-- R86: whether a slot's due timer runs: the slot is capable and polled in the hub power state. -/
def State.dueRuns (s : State) (i : Nat) : Bool := s.capable i && s.polledIn s.spm.hub i

/-! ### The choice -/

/-- R89: backpressure. -/
def State.blocked (s : State) (i : Nat) : Bool := (s.slot i).backpressure && decide (s.sched.watermark ≤ s.upq.reports)

/-- R89: a slot is eligible. -/
def State.eligible (s : State) (i : Nat) : Bool := decide (0 < s.owed i) && !s.blocked i

/-- R174: some schedule slot is eligible. -/
def State.anyEligible (s : State) : Bool := (List.range s.sched.slotCount).any s.eligible

/-- R57, R62: a read transaction whose lead begins now. -/
def readTxn (fn : BaseFn) (rate : LinkRate) (limit : Nat) : Txn := ⟨fn, false, rate, limit, [selector fn false], none, []⟩

/-- R64: a write transaction: the selector, L, the data and the check, back to back. -/
def writeTxn (e : WriteEntry) (rate : LinkRate) : Txn :=
  let body := byteOf e.data.length :: e.data
  ⟨e.fn, true, rate, e.data.length, selector e.fn true :: body ++ [crc8 body], none, []⟩

/-- R90: a slot's poll, when the slot is eligible. -/
def State.pollOf (s : State) (i : Nat) : Option Txn :=
  if s.eligible i then (BaseFn.ofNumber (s.slot i).fn).map fun fn => readTxn fn s.blk.rate (s.slot i).maxLength else none

/-- R89, R90: the head of the write queue, eligible whenever the queue is not empty. -/
def State.headWrite (s : State) : Option Txn := s.psc.writes.head?.map fun e => writeTxn e s.blk.rate

/-- R90: the candidates in order: the slots in table order, with the write before the slot whose number is the write rank, or
after the last slot. -/
def State.candidates (s : State) : List (Option Txn) :=
  let slots := (List.range s.sched.slotCount).map s.pollOf
  slots.take s.sched.writeRank ++ s.headWrite :: slots.drop s.sched.writeRank

/-- R90: the first eligible candidate. -/
def State.choice (s : State) : Option Txn := s.candidates.findSome? id

/-- R91: a poll or a write has ended. Where an entry to DOZE (R86) has taken the slot's owed count to 0 while its poll was in flight, 0
stays 0: DESIGN CHOICE, notes/assumptions/41.md. -/
def State.settlePoll (s : State) (t : Txn) : State :=
  if t.write then { s with psc.writes := s.psc.writes.tail }
  else
    match s.slotOf t.fn with
    | some i => { s with psc.owed := s.psc.owed.set i (s.owed i - 1) }
    | none => s

/-! ### The commands -/

/-- DUE_TIME (R86, R87): the slot's due timer has reached its period. A slot number that names no slot is a fault
(`Instr.wellFormed`). -/
def execDueTime (slot : Nat) (s : State) : Host.Outcome State Fault Refusal :=
  if slot < Config.slots then
    .next (if s.dueRuns slot && decide (s.duePeriod slot ≤ s.psc.due.getD slot 0) then s.dueTime slot else s)
  else .fault .noSuchSlot

/-- SCHEDULE_SWAP (R84): the table awaits swap and no transaction is in flight. What the end of a transaction brings has come before: a
swap at the end of a successful ID read clears the polls that the entry to RUNNING owed (R85): DESIGN CHOICE, notes/assumptions/46.md. -/
def execScheduleSwap (s : State) : Host.Outcome State Fault Refusal :=
  .next (if s.tables.schedule.awaiting ∧ s.blk.txn = none then (s.swapTable .schedule).stopPolls else s)

end Sys2Proof.Machine
end

