-- ==== Sys2Proof/Machine/BaseLink.lean ====
section
/-!
DEFINITION. The base link controller (R56 to R80): the link states and what each entry brings, transactions with their characters,
deadlines and errors, presence, attention and lows on the line.
-/

namespace Sys2Proof.Machine

/-! ### Link states -/

/-- R85, R115: what leaving RUNNING brings to the poll scheduler and the latch unit. -/
def State.leaveRunning (s : State) : State := s.stopPolls.forgetButton

/-- R74, R76, R78, R85, R114: the link enters RUNNING; `identified` tells a link that came from IDENTIFY. -/
def State.enterRunning (s : State) (identified : Bool) : State :=
  let t :=
    { s with
      blk.link := .running, blk.consecutive := 0, blk.retryTimer := none, blk.retryDue := false
      blk.attention := false }
  let t := t.startPolls
  let t := if s.blk.attention then t.attentionPoll else t
  if s.dlu.state = .absent then t.attach identified else t

/-- R68, R74, R75, R79, R85, R92, R115, R125: the link enters FAULT. -/
def State.enterFault (s : State) : State :=
  let t :=
    ({ s with
        blk.link := .fault, blk.rate := .k250, blk.consecutive := 0, blk.retryTimer := some 0
        blk.retryDue := false }).event .baseFault
  let t := t.leaveRunning.flushWrites true
  if t.dlu.state = .requested then t.abortRequest else t

/-- R22, R24, R30, R42: what the engine takes from a link that has become ABSENT. -/
def State.paeAbsent (s : State) : State :=
  let t := { s with pae.hinge := .empty, pae.baseFilter := none, pae.baseAge := none, pae.candidate := none }
  if s.posture = .detached then
    { t with pae.record := { t.pae.record with row := none, permission := false } }
  else t.changePosture .detached none false .link

/-- R72: the link enters ABSENT, with its effects in the rule's order. The flush is counted but after HUB_RESET LINKS (R92). -/
def State.enterAbsent (s : State) (counted : Bool) : State :=
  let t := ({ s with blk := .initial }).leaveRunning.flushWrites counted
  let t := t.paeAbsent
  let t := if s.dlu.state = .absent then t else t.detached
  t.setPower none

/-- R70 to R72: PRES is sampled at a system tick. ATTACH_CONFIRMED and PRESENCE_LOSS take what the counts bring. -/
def State.samplePresence (s : State) (pres : Bool) : State :=
  match s.blk.link with
  | .absent =>
    if pres then
      ({ s with blk.link := .attaching, blk.presentCount := 0, blk.absentCount := 0 }).changePosture
        .unknown none false .link
    else s
  | .attaching =>
    if pres then
      { s with blk.presentCount := min (s.blk.presentCount + 1) Config.attachTicks, blk.absentCount := 0 }
    else { s with blk.presentCount := 0, blk.absentCount := min (s.blk.absentCount + 1) Config.lossTicks }
  | _ =>
    { s with blk.absentCount := if pres then 0 else min (s.blk.absentCount + 1) Config.lossTicks }

/-! ### The end of a transaction -/

/-- R73: the base record that five characters of an ID answer give. -/
def readRecord (data : List Byte) : BaseRecord where
  model := leNat (data.take 2)
  revision := (data.getD 2 0).toNat
  capability := data.getD 3 0 &&& 0xFE
  maxRate := .ofCode (data.getD 4 0)

/-- R74, R75: a successful ID read. -/
def State.identified (s : State) (data : List Byte) : State :=
  let r := readRecord data
  ({ s with blk.record := some r, blk.rate := r.maxRate }).enterRunning (s.blk.link == LinkState.identify)

/-- R62, R64, R67, R91: a transaction succeeds: the poll or write is settled, the consecutive-failure count becomes 0, and a
read's response record is handed to the router. -/
def State.succeed (s : State) (t : Txn) (data : List Byte) : State :=
  let u := { s with blk.txn := none }
  if t.fn = .id then u.identified data
  else
    let v := u.settlePoll t
    let v := { v with blk.consecutive := 0 }
    if t.write then v else v.route t.fn data

/-- R73, R74: an attempt of IDENTIFY fails. -/
def State.attemptFailed (s : State) : State :=
  let t := { s with blk.attempts := min (s.blk.attempts + 1) Config.identifyAttempts }
  if Config.identifyAttempts ≤ t.blk.attempts then t.enterFault else t

/-- R68: a poll or a write fails. -/
def State.pollFailed (s : State) : State :=
  let t := { s with blk.consecutive := min (s.blk.consecutive + 1) 15 }
  if s.sched.failLimit ≤ t.blk.consecutive then t.enterFault else t

/-- R65 to R68, R91: a transaction fails with an error; `low` is the low that goes on after its end, if any (R79, R80). -/
def State.fail (s : State) (t : Txn) (e : LineError) (low : Option LineLow) : State :=
  let u := ({ s with blk.txn := none, blk.low := low }).bump e.counter
  if t.fn = .id then
    if u.blk.link = .identify then u.attemptFailed else { u with blk.retryTimer := some 0, blk.retryDue := false }
  else (u.settlePoll t).pollFailed

/-- A low that begins now. -/
def LineLow.start (onIdle : Bool) : LineLow := ⟨onIdle, 0, false, 0⟩

/-- R79: a low that a transaction's end leaves on the line. -/
def tailLow (lineLow : Bool) : Option LineLow := if lineLow then some (.start false) else none

/-! ### Characters -/

/-- What a received character decides (R62, R64). -/
inductive Verdict
  | more
  | success (data : List Byte)
  | failure (e : LineError)
  deriving DecidableEq, Repr

/-- R62, R73: whether a length character is within the read's limits. -/
def lengthOk (t : Txn) (l : Nat) : Bool :=
  decide (l ≤ t.limit) && decide (l ≤ 32) && (t.fn != .id || decide (5 ≤ l))

/-- R62: a character of a read's answer. -/
def judgeRead (t : Txn) (c : Byte) : Verdict :=
  match t.received with
  | [] => if lengthOk t c.toNat then .more else .failure .length
  | l :: data =>
    if data.length < l.toNat then .more
    else if crc8 (l :: data) = c then .success data
    else .failure .check

/-- R64: the status character of a write. -/
def judgeStatus (c : Byte) : Verdict := if c = 0xA5 then .success [] else .failure .refused

/-- The judgement of a character whose stop bit read high (R62, R64). -/
def judgeChar (t : Txn) (c : Byte) : Verdict := if t.write then judgeStatus c else judgeRead t c

/-- The transaction that receives, when a moment lies no later than its deadline: at the same instant either may be first
(R63). Times count drive ticks from the line's release. -/
def State.receiving (s : State) (time : Nat) : Option Txn :=
  match s.blk.txn with
  | some t =>
    match t.deadline with
    | some d => if time ≤ d * t.rate.tbit then some t else none
    | none => none
  | none => none

/-- R62, R64: a received character acts. -/
def State.takeChar (s : State) (t : Txn) (c : Byte) : State :=
  match judgeChar t c with
  | .more => { s with blk.txn := some { t with received := t.received ++ [c] } }
  | .success data => s.succeed t data
  | .failure e => s.fail t e none

/-- The transaction whose characters the hub is still sending. -/
def State.sending (s : State) : Option Txn :=
  match s.blk.txn with
  | some t => if t.deadline = none then some t else none
  | none => none

/-- R63, R64: the deadline of the transaction, in Tbit from the line's release. -/
def State.deadlineFor (s : State) (t : Txn) : Nat :=
  s.sched.turnaround + (if t.write then 12 else 12 * (t.limit + 2))

/-! ### Starting a transaction -/

/-- R73, R75: an ID read at 250 kbit/s with max length 8. -/
def idRead : Txn := readTxn .id .k250 8

/-- R59: the transaction that is wanted now; none in DEEP. -/
def State.wanted (s : State) : Option Txn :=
  if s.spm.hub = .deep then none
  else
    match s.blk.link with
    | .running => s.choice
    | .identify => some idRead
    | .fault => if s.blk.retryDue then some idRead else none
    | _ => none

/-- R77, R79: a low on the idle line that has been judged neither as attention nor as a glitch. -/
def LineLow.unjudged (l : LineLow) : Bool := l.onIdle && !l.taken

/-- R59: no transaction is in flight, no low waits for its judgement, and the line has read high for 12 Tbit at the rate of the
next transaction. -/
def State.lineIdle (s : State) (highFor : Nat) (rate : LinkRate) : Bool :=
  s.blk.txn.isNone && !(s.blk.low.any LineLow.unjudged) && decide (Config.idleTbit * rate.tbit ≤ highFor)

/-- The rate the next transaction would use (R56, R59). -/
def State.nextRate (s : State) : LinkRate := if s.blk.link = .running ∨ s.blk.link = .listen then s.blk.rate else .k250

/-- The link states in which lows on the line are timed (R77, R79). -/
def LinkState.timesLows : LinkState → Bool
  | .running | .fault | .listen | .identify => true
  | _ => false

/-! ### The commands -/

/-- ATTACH_CONFIRMED (R71): the link enters IDENTIFY, whose request brings the hub out of DEEP (R73, R175). -/
def execAttachConfirmed (s : State) : Host.Outcome State Fault Refusal :=
  .next <|
    if s.blk.link = .attaching ∧ Config.attachTicks ≤ s.blk.presentCount then
      ({ s with blk.link := .identify, blk.attempts := 0 }).leaveDeep
    else s

/-- PRESENCE_LOSS (R72). -/
def execPresenceLoss (s : State) : Host.Outcome State Fault Refusal :=
  .next (if s.blk.link ≠ .absent ∧ Config.lossTicks ≤ s.blk.absentCount then s.enterAbsent true else s)

/-- TRANSACTION_START (R59): what is wanted starts at a moment the line is idle; a SCHEDULE table that awaits swap is swapped
first (R84). A due retry is due until it starts (R75). -/
def execTransactionStart (highFor : Nat) (s : State) : Host.Outcome State Fault Refusal :=
  .next <|
    match s.wanted with
    | some t =>
      if s.lineIdle highFor t.rate && !s.tables.schedule.awaiting then
        { s with blk.txn := some t, blk.low := none, blk.retryDue := false }
      else s
    | none => s

/-- LINE_RELEASED_FOR_ANSWER (R62, R63, R64): the hub has sent its last character and receives; the deadline is fixed. -/
def execLineReleasedForAnswer (s : State) : Host.Outcome State Fault Refusal :=
  .next <|
    match s.sending with
    | some t => { s with blk.txn := some { t with deadline := some (s.deadlineFor t) } }
    | none => s

/-- BASE_CHARACTER_RECEIVED (R62): a character completes with its stop bit high. -/
def execBaseCharacterReceived (value : Byte) (time : Nat) (s : State) : Host.Outcome State Fault Refusal :=
  .next <|
    match s.receiving time with
    | some t => s.takeChar t value
    | none => s

/-- A received character that fails the transaction (R62, R64). -/
def State.failChar (s : State) (t : Txn) (c : Byte) : State :=
  match judgeChar t c with
  | .failure e => s.fail t e none
  | _ => s

/-- TRANSACTION_FAILURE (R65): every failure but TIMEOUT. -/
def execTransactionFailure (error : TxnError) (s : State) : Host.Outcome State Fault Refusal :=
  .next <|
    match error with
    | .leadHigh =>
      match s.sending with
      | some t => s.fail t .physical none
      | none => s
    | .gapLow =>
      match s.sending with
      | some t => s.fail t .bit (some (.start true))
      | none => s
    | .sentWrong lineLow =>
      match s.sending with
      | some t => s.fail t .bit (tailLow lineLow)
      | none => s
    | .stopLow time =>
      match s.receiving time with
      | some t => s.fail t .framing (some (.start false))
      | none => s
    | .judged value time =>
      match s.receiving time with
      | some t => s.failChar t value
      | none => s

/-- The transaction whose deadline has come (R63, R64). -/
def State.overdue (s : State) (time : Nat) : Option Txn :=
  match s.blk.txn with
  | some t =>
    match t.deadline with
    | some d => if d * t.rate.tbit ≤ time then some t else none
    | none => none
  | none => none

/-- TRANSACTION_DEADLINE (R63): the transaction fails with TIMEOUT. -/
def execTransactionDeadline (time : Nat) (lineLow : Bool) (s : State) : Host.Outcome State Fault Refusal :=
  .next <|
    match s.overdue time with
    | some t => s.fail t .timeout (tailLow lineLow)
    | none => s

/-- RETRY_TIMER_EXPIRY (R75): a retry is due; in DEEP the link asks for a power state in which transactions run. -/
def execRetryTimerExpiry (s : State) : Host.Outcome State Fault Refusal :=
  .next <|
    match s.blk.retryTimer with
    | some n =>
      if s.blk.link = .fault ∧ Config.retryTicks ≤ n then
        ({ s with blk.retryTimer := none, blk.retryDue := true }).leaveDeep
      else s
    | none => s

/-- IDLE_LINE_LOW (R77, R79): a low begins outside a transaction; it is timed as one on the idle line when the line had been high
for 12 Tbit. One that begins in ATTACHING is not timed, and lasting into IDENTIFY it is never timed: DESIGN CHOICE,
notes/assumptions/40.md. -/
def execIdleLineLow (highFor : Nat) (s : State) : Host.Outcome State Fault Refusal :=
  .next <|
    if s.blk.link.timesLows && s.blk.txn.isNone && !(s.blk.low.any LineLow.unjudged) then
      { s with blk.low := some (.start (s.lineIdle highFor s.nextRate)) }
    else s

/-- R78: attention acts by link state. -/
def State.attention (s : State) : State :=
  match s.blk.link with
  | .running => s.attentionPoll
  | .listen => ({ s with blk.attention := true }).wakeSource .button
  | .fault =>
    let t := { s with blk.attention := true, blk.retryDue := true, blk.retryTimer := none }
    (if s.spm.hub = .deep then t.wakeSource .button else t).leaveDeep
  | .identify => { s with blk.attention := true }
  | _ => s

/-- ATTENTION (R77, R78): a low on the idle line has lasted 1 ms and the line is still low. -/
def execAttention (s : State) : Host.Outcome State Fault Refusal :=
  .next <|
    match s.blk.low with
    | some l =>
      if l.unjudged && !s.pins.bdq && decide (Config.attentionTicks ≤ l.elapsed) then
        ({ s with blk.low := some { l with taken := true } }).attention
      else s
    | none => s

/-- GLITCH (R79): a low on the idle line ends before 1 ms, which at most one system tick can have seen. -/
def execGlitch (s : State) : Host.Outcome State Fault Refusal :=
  .next <|
    match s.blk.low with
    | some l =>
      if l.unjudged && decide (l.elapsed ≤ Config.attentionTicks) then ({ s with blk.low := none }).bump .physical else s
    | none => s

/-- R79: a stuck line acts by link state. -/
def State.stuck (s : State) : State :=
  match s.blk.link with
  | .running | .listen => (s.bump .physical).enterFault
  | .identify => (s.bump .physical).attemptFailed
  | _ => s

/-- STUCK_LINE (R79): a low has lasted 50 ms, or a further 50 ms; the attention of a low on the idle line is taken before. -/
def execStuckLine (s : State) : Host.Outcome State Fault Refusal :=
  .next <|
    match s.blk.low with
    | some l =>
      if !l.unjudged && decide (Config.stuckTicks * (l.stuck + 1) ≤ l.elapsed) then
        ({ s with blk.low := some { l with stuck := l.stuck + 1 } }).stuck
      else s
    | none => s

end Sys2Proof.Machine
end

