-- ==== Sys2Proof/Machine/Converter.lean ====
section
/-!
DEFINITION. The converter (R1 to R18): S and C triggers, scans and their completion, the window update with its hand-overs to the
readers, and the CHANNEL swap.
-/

namespace Sys2Proof.Machine

/-! ### Windows -/

/-- The channel that reads the internal reference (01, "Channels"). -/
def vref : Nat := 7

/-- The window state a mode makes active. -/
def WindowMode.activeState : WindowMode → Option WindowState
  | .off => none
  | .inside => some .inside
  | .outside => some .outside

/-- A channel's window state. -/
def Cnv.window (c : Cnv) (ch : Nat) : WindowState := c.windows.getD ch .unset

/-- R15: whether a channel is active. -/
def State.active (s : State) (ch : Nat) : Bool := (s.chanRow ch).mode.activeState == some (s.cnv.window ch)

/-- R169, R177: SPM's copy of HALL_F is updated; from active to inactive it is the LID_OPEN wake source. -/
def State.hallToSpm (s : State) (active : Bool) : State :=
  let t := { s with spm.hallF := active }
  if s.spm.hallF && !active then t.wakeSource .lidOpen else t

/-- R15: a channel's readers are informed of its window state or activity as they stand. -/
def State.inform (s : State) (ch : Nat) : State :=
  let outside := s.cnv.window ch == .outside
  match ch with
  | 1 => s.setPauses { s.pch.pauses with supply := outside }
  | 2 => s.setPauses { s.pch.pauses with thermal := outside }
  | 3 => ({ s with pae.hallF := s.active 3 }).hallToSpm (s.active 3)
  | 4 => { s with pae.hallR := s.active 4 }
  | 5 => if s.active 5 then s.penInserted else s.penRemoved
  | _ => s

/-- The readers of several channels are informed, in increasing channel order. -/
def State.informAll (s : State) (chs : List Nat) : State := chs.foldl State.inform s

/-- R14: the window state and the debounce counter after one reading. -/
def debounceStep (row : ChannelRow) (state : WindowState) (count reading : Nat) : WindowState × Nat :=
  let side : WindowState := if row.low ≤ reading ∧ reading ≤ row.high then .inside else .outside
  if state = .unset then (side, 0)
  else if state = side then (state, 0)
  else if row.debounce ≤ count + 1 then (side, 0)
  else (state, count + 1)

/-- R14: one channel's part of the window update; VREF and a channel with mode OFF take no part. -/
def State.updateWindow (s : State) (ch reading : Nat) : State :=
  let row := s.chanRow ch
  if ch = vref ∨ row.mode = .off then s
  else
    let r := debounceStep row (s.cnv.window ch) (s.cnv.debounce.getD ch 0) reading
    { s with cnv.windows := s.cnv.windows.set ch r.1, cnv.debounce := s.cnv.debounce.set ch r.2 }

/-- R14, R15: the window update of a scan's readings, and the hand-over of every change it made. -/
def State.updateWindows (s : State) (readings : List (Nat × Nat)) : State :=
  let t := readings.foldl (fun u p => u.updateWindow p.1 p.2) s
  t.informAll ((List.range Config.channels).filter fun ch => s.cnv.window ch != t.cnv.window ch)

/-- R16: the judgement of a VREF reading; the window update that follows is withheld while the fault stands. -/
def State.judgeVref (s : State) (reading : Option Nat) : State :=
  let row := s.chanRow vref
  match reading with
  | none => s
  | some v =>
    if row.mode = .off then s
    else if v < row.low ∨ row.high < v then
      if s.cnv.fault then s else ({ s with cnv.fault := true }).event .converterFault
    else if s.cnv.fault then { s with cnv.fault := false, cnv.debounce := List.replicate Config.channels 0 }
    else s

/-! ### Scans -/

/-- R7: the channel set of a scan that starts now, in increasing channel order. -/
def State.scanSet (s : State) : List Nat :=
  (List.range Config.channels).filter fun ch =>
    (if s.spm.hub = .deep then s.chan.deepSet.getLsbD ch else (s.chanRow ch).inScan) || (ch == vref && s.cnv.fault)

/-- R10, R12: whether a channel set contains a channel whose blank-coil flag is set. -/
def State.needsBlanking (s : State) (chs : List Nat) : Bool := chs.any fun ch => (s.chanRow ch).blankCoil

/-- R6, R7, R10, R11: a scan starts. A scan with an empty set completes at once and changes no reading or window state. -/
def State.startScan (s : State) : State :=
  let set := s.scanSet
  if set.isEmpty then s
  else
    let t := { s with cnv.todo := set, cnv.readings := [], cnv.scanTicks := 0 }
    if s.needsBlanking set then
      if s.bcd.decoder = .data ∧ 0 < s.chan.deferLimit then { t with cnv.slotS := .deferring } else t.requestBlanking
    else { t with cnv.slotS := if s.cnv.slotC = .idle then .scanning else .ready }

/-- R6: an S trigger. -/
def State.takeS (s : State) : State :=
  if s.cnv.slotS = .idle then
    if s.tables.channel.awaiting then { s with cnv.recorded := true } else s.startScan
  else s.bump .mergedS

/-- R3, R9: a held C trigger is served; with the driver stopped it is discarded and counted. -/
def State.serveHeld (s : State) : State :=
  let t := { s with cnv.held := none }
  if s.pch.driver.running then { t with cnv.slotC := .converting } else t.bump .droppedC

/-- R13: the readings enter the result set together, with the time of the completion. -/
def State.storeReadings (s : State) (readings : List (Nat × Nat)) : State :=
  { s with cnv.resultS := readings.foldl (fun r p => r.set p.1 ⟨some p.2, s.ticks⟩) s.cnv.resultS }

/-- R6, R9, R13, R14, R16: a scan completes: its readings are stored, VREF is judged, the window update is made unless the
fault withholds it, slot S is idle, and a trigger held for the scan's end takes the core. That it does so after the hand-overs is
the model's choice: DESIGN CHOICE, notes/assumptions/38.md. -/
def State.completeScan (s : State) (readings : List (Nat × Nat)) : State :=
  let t := ({ s with cnv.slotS := .idle, cnv.todo := [], cnv.readings := [] }).storeReadings readings
  let t : State := t.judgeVref ((readings.find? fun p => p.1 == vref).map (·.2))
  let t : State := if t.cnv.fault then t else t.updateWindows readings
  if t.cnv.held = some .forScan then t.serveHeld else t

/-- R12, R128, R130: slot S releases the blanking, and the driver starts a fresh period where it may run. -/
def State.releaseBlanking (s : State) : State :=
  { s with pch := ({ s.pch with blanking := .idle } : Pch).settle }

/-! ### C triggers -/

/-- R8, R3: a C trigger. -/
def State.takeC (s : State) : State :=
  match s.cnv.slotC, s.cnv.held with
  | .converting, _ => s.bump .droppedC
  | .idle, some _ => s.bump .droppedC
  | .idle, none =>
    if s.tables.channel.awaiting then { s with cnv.held := some .forSwap }
    else if s.cnv.slotS = .scanning then
      match s.chan.policy with
      | .ignore => s.bump .droppedC
      | .hold => { s with cnv.held := some .forScan }
    else { s with cnv.slotC := .converting }

/-! ### The CHANNEL swap -/

/-- R3: the converter is idle; a trigger held for the swap does not keep it from being so. -/
def State.converterIdle (s : State) : Bool :=
  s.cnv.slotS == .idle && s.cnv.slotC == .idle && s.cnv.held != some .forScan && s.pch.blanking == .idle

/-- R3: a channel whose new mode is OFF takes the state UNSET. -/
def State.settleOff (s : State) : State :=
  { s with cnv.windows :=
      (List.range s.cnv.windows.length).map fun ch => if (s.chanRow ch).mode = .off then .unset else s.cnv.window ch }

/-- R15: whether a swap changes what the channel's readers know: a state lost to the mode OFF, or an inverted active sense. -/
def swapInforms (before after : State) (ch : Nat) : Bool :=
  (before.cnv.window ch != .unset && (after.chanRow ch).mode == .off) || before.active ch != after.active ch

/-- R3: the CHANNEL swap, and the recorded and held triggers served after it under the new image, the held C trigger
first. -/
def State.swapChannel (s : State) : State :=
  let t : State := (s.swapTable .channel).settleOff
  let row := t.chanRow vref
  let t : State :=
    { t with
      cnv.debounce := List.replicate Config.channels 0
      cnv.fault := t.cnv.fault && row.mode != WindowMode.off && row.inScan }
  let t := t.informAll ((List.range Config.channels).filter (swapInforms s t))
  let t := if t.cnv.held = some .forSwap then t.serveHeld else t
  if t.cnv.recorded then ({ t with cnv.recorded := false }).takeS else t

/-! ### The commands -/

/-- R5: the scan period of the hub power state, in system ticks. -/
def State.scanPeriod (s : State) : Nat :=
  match s.spm.hub with
  | .run => s.chan.periodRun
  | .doze => s.chan.periodDoze
  | .deep => s.chan.periodDeep

/-- S_TRIGGER (R5, R6): the scan timer has reached the period of the hub power state. -/
def execSTrigger (s : State) : Host.Outcome State Fault Refusal :=
  .next (if s.scanPeriod ≤ s.cnv.scanTimer then ({ s with cnv.scanTimer := 0 }).takeS else s)

/-- BLANK_DEFER_LIMIT (R11): the limit runs out while the decoder is still in DATA. -/
def execBlankDeferLimit (s : State) : Host.Outcome State Fault Refusal :=
  .next <|
    if s.cnv.slotS = .deferring ∧ s.bcd.decoder = .data ∧ s.chan.deferLimit ≤ s.cnv.scanTicks then
      s.requestBlanking.bump .forcedBlank
    else s

/-- C_TRIGGER (R8, R131): the compare event of a period whose number is N, half the duty in effect after its boundary; once a
period. -/
def execCTrigger (s : State) : Host.Outcome State Fault Refusal :=
  .next <|
    if s.pch.driver.running ∧ s.pch.driver.periodNo = s.chg.divider ∧ s.pch.driver.compared = false then
      ({ s with pch.driver.position := max s.pch.driver.position (s.pch.driver.duty / 2), pch.driver.compared := true }).takeC
    else s

/-- SLOT_C_CONVERSION_END (R9, R6, R145): the results are stored and handed to PCH, and a READY scan takes the core. -/
def execSlotCConversionEnd (coilI coilV : Fin 4096) (s : State) : Host.Outcome State Fault Refusal :=
  .next <|
    if s.cnv.slotC = .converting then
      ({ s with
          cnv.slotC := .idle
          cnv.resultC := ⟨some coilI.val, some coilV.val, s.ticks⟩
          cnv.slotS := if s.cnv.slotS = SlotS.ready then SlotS.scanning else s.cnv.slotS }).regulate coilI.val
    else s

/-- One conversion of a scan ends (R7): the last blank-coil channel releases the blanking (R12), and the last channel
completes the scan (R13). -/
def State.convert (s : State) (ch : Nat) (rest : List Nat) (code : Nat) : State :=
  let t := { s with cnv.todo := rest, cnv.readings := s.cnv.readings ++ [(ch, code)] }
  let t := if (s.chanRow ch).blankCoil && !s.needsBlanking rest then t.releaseBlanking else t
  if rest.isEmpty then t.completeScan t.cnv.readings else t

/-- CHANNEL_CONVERSION_END (R7). -/
def execChannelConversionEnd (code : Fin 4096) (s : State) : Host.Outcome State Fault Refusal :=
  .next <|
    match s.cnv.slotS, s.cnv.todo with
    | .scanning, ch :: rest => s.convert ch rest code.val
    | _, _ => s

/-- CHANNEL_SWAP (R3): the table awaits swap and the converter is idle. -/
def execChannelSwap (s : State) : Host.Outcome State Fault Refusal :=
  .next (if s.tables.channel.awaiting && s.converterIdle then s.swapChannel else s)

end Sys2Proof.Machine
end

