-- ==== Sys2Proof/Machine/Power.lean ====
section
/-!
DEFINITION. The sleep and power manager's own steps (R170 to R178): the idle timer, what the system processor says of itself, entry to
DEEP, the end of a clock start and the end of a wake pulse.
-/

namespace Sys2Proof.Machine

/-! ### SYSTEM_STATE and SRDY -/

/-- R176: SYSTEM_STATE with awake in DEEP: the awake mark of a clock start, which begins if none is in progress. -/
def Spm.markAwake (p : Spm) : Spm :=
  { p with clock := some ⟨match p.clock with
                          | some c => c.elapsed
                          | none => 0, true⟩ }

/-- R172: SYSTEM_STATE with awake; it is activity (R170). -/
def State.systemAwake (s : State) : State :=
  let t := s.activity false
  match s.spm.system with
  | .awake | .advised => t
  | .asleep => if s.spm.hub = .deep then { t with spm := t.spm.markAwake } else t.toAwake
  | .waking => t.toAwake

/-- R172: SYSTEM_STATE with sleeping and a depth. -/
def State.systemSleeping (s : State) (d : Depth) : State :=
  let t := if s.spm.system = .asleep then s else ({ s with spm.system := .asleep }).setHub .doze
  let t :=
    { t with
      spm.requested := some d, spm.wakeCause := 0, spm.firstPower := none
      spm.clock := t.spm.clock.map fun (c : ClockStart) => { c with awake := false } }
  t.formTarget.judgeSleep.leaveDeep

/-! ### DEEP -/

/-- R174: the conditions for DEEP. -/
def State.deepReady (s : State) : Bool :=
  s.spm.system == .asleep && s.spm.target == some .deep && s.spm.hub != .deep
    && s.blk.txn.isNone && s.psc.writes.isEmpty && !s.anyEligible
    && !s.linkAsks
    && s.converterIdle
    && !s.pch.state.drives
    && !s.chargesInSleep
    && (s.dlu.state == .latched || s.dlu.state == .absent) && s.dlu.holdTimer.isNone
    && s.slk.tx.isNone

/-- R20, R22, R30, R53: what the posture and angle engine takes from the entry to DEEP. -/
def Pae.enterDeep (p : Pae) : Pae :=
  { p with
    expiryDue := false, lidRead := none, candidate := none, hinge := p.hinge.hold
    lidAge := p.lidAge.map fun _ => 255
    baseAge := p.baseAge.map fun _ => 255 }

/-- R174, R76, R85, R115, R173: the entry to DEEP. -/
def State.enterDeep (s : State) : State :=
  let t := { s with spm.hub := .deep, pae := s.pae.enterDeep }
  let t := if s.blk.link = .running then ({ t with blk.link := .listen }).leaveRunning else t
  t.judgeSleep

/-- R19, R76: the hub has left DEEP: the posture period timer expires at once, and a link in LISTEN goes to RUNNING. -/
def State.leftDeep (s : State) : State :=
  let t := { s with pae.expiryDue := true }
  if s.blk.link = .listen then t.enterRunning false else t

/-- R176: the destination of a clock start: AWAKE, with a WAKE notice when there is a wake cause; else WAKING, with one; else DOZE. -/
def State.settleDestination (s : State) (awake : Bool) : State :=
  if awake then (if s.spm.wakeCause = 0 then s.intoAwake else s.intoAwake.wakeNotice)
  else if s.spm.wakeCause ≠ 0 then s.intoWaking.wakeNotice
  else s.setHub .doze

/-- R176: the end of a clock start: the destination is settled, the change of hub power state is handed over, and then SLEEP is judged
again (R173). -/
def State.clockStarted (s : State) (awake : Bool) : State :=
  ((({ s with spm.clock := none }).settleDestination awake).leftDeep).judgeSleep

/-! ### The commands -/

/-- ACTIVITY_TIMER_EXPIRY (R170): the count has reached the idle timeout of the current row; a timeout of 0 never expires. -/
def execActivityTimerExpiry (s : State) : Host.Outcome State Fault Refusal :=
  .next <|
    if s.spm.system = .awake ∧ 0 < s.row.idleTimeout ∧ s.row.idleTimeout * 1000 ≤ s.spm.activityTimer then
      ({ s with spm.system := .advised }).sleepNotice .advise (some .idle)
    else s

/-- SRDY_RISE (R172): in ASLEEP and WAKING it has the effect of SYSTEM_STATE with awake. -/
def execSrdyRise (s : State) : Host.Outcome State Fault Refusal :=
  .next <|
    let t := { s with pins.srdy := true }
    if s.spm.system = .asleep ∨ s.spm.system = .waking then t.systemAwake else t

/-- DEEP_ENTRY (R174). -/
def execDeepEntry (s : State) : Host.Outcome State Fault Refusal := .next (if s.deepReady then s.enterDeep else s)

/-- CLOCK_START_END (R176): 2 ms after the clock start began. -/
def execClockStartEnd (s : State) : Host.Outcome State Fault Refusal :=
  .next <|
    match s.spm.clock with
    | some c => if Config.clockStartTicks ≤ c.elapsed then s.clockStarted c.awake else s
    | none => s

/-- WAKE_PULSE_TIMER_EXPIRY (R178): WAKE# is released. -/
def execWakePulseTimerExpiry (s : State) : Host.Outcome State Fault Refusal :=
  .next (if timerDone s.spm.wakeTimer then { s with spm.wakeTimer := none, spm.wakeLow := false } else s)

end Sys2Proof.Machine
end

