-- ==== Sys2Proof/Machine/Frames.lean ====
section
/-!
DEFINITION. What leaves the hub as characters: the payloads of up frames, whole frames, and the QUERY pages (R180, R187, R191, and 11,
"Frame layouts").
-/

namespace Sys2Proof.Machine

/-! ### Small encodings -/

/-- One character for a number. -/
def b1 (n : Nat) : List Byte := leBytes 1 n

/-- An optional code, FFh when absent (R191). -/
def optCode (o : Option Nat) : List Byte := leOpt 1 o

/-- A timer: its remaining time in ms, all ones when stopped (R191). -/
def timerBytes (t : Option Timer) : List Byte := leOpt 4 (t.map Timer.remaining)

/-- The set of pause reasons (R191). -/
def pauseSet (p : Pauses) : Byte := setByte [p.thermal, p.budget, p.latch, p.supply, p.sleep]

/-! ### Payloads of up frames -/

/-- The up kind of a base report. -/
def Report.upKind (r : Report) : Nat := r.row

/-- The payload of a base report. -/
def Report.payload : Report → List Byte
  | .keys events => byteOf events.length :: events.flatMap fun e => [byteOf e.1, flagByte e.2]
  | .pointer dx dy wheel buttons => leSigned 2 dx ++ leSigned 2 dy ++ leSigned 1 wheel ++ [buttons.zeroExtend 8]
  | .motion a => leSigned 2 a.x ++ leSigned 2 a.y ++ leSigned 2 a.z
  | .power p => [byteOf p.battery, setByte [p.external]]
  | .button pressed fnLock => [flagByte pressed, setByte [fnLock]]

/-- The pen record from its presence character on; `last` is bit 6, which only the PEN page uses. -/
def penBytes (pen : Option PenFields) (last : Bool) : List Byte :=
  match pen with
  | some p =>
    setByte [true, p.identity.isSome, p.battery.isSome, p.age.isSome, p.stage.isSome, p.fault.isSome, last]
      :: [p.identity.getD 0] ++ leZero 1 p.battery ++ leZero 2 p.age ++ leZero 1 p.stage ++ leBytes 2 p.duty
      ++ b1 p.check ++ b1 p.violation ++ leZero 1 (p.fault.map FaultReason.code) ++ [p.faultCode.getD 0]
  | none => setByte [false, false, false, false, false, false, last] :: List.replicate 11 0

/-- The payload of a notice. -/
def Notice.payload : Notice → List Byte
  | .posture p prev row perm cause status theta =>
    b1 p.code ++ b1 prev.code ++ b1 (row.getD 0) ++ [flagByte perm] ++ b1 cause.code ++ b1 status.code ++ leOpt 2 theta
  | .rotation r prev cause psi p => b1 r.code ++ b1 prev.code ++ b1 cause.code ++ leOpt 2 psi ++ b1 p.code
  | .angle status theta phiB psi p => b1 status.code ++ leOpt 2 theta ++ leOpt 2 phiB ++ leOpt 2 psi ++ b1 p.code
  | .pen state pauses record => b1 state.code ++ [pauseSet pauses] ++ penBytes record false
  | .detach outcome source before after lsns p =>
    b1 outcome.code ++ optCode (source.map ReleaseSource.code) ++ b1 before.code ++ b1 after.code ++ [flagByte lsns]
      ++ b1 p.code
  | .sleep advice reason p depth timeout =>
    b1 advice.code ++ optCode (reason.map AdviceReason.code) ++ b1 p.code ++ b1 depth.code ++ leBytes 2 timeout
  | .wake cause power p => [cause] ++ optCode (power.map Depth.code) ++ b1 p.code
  | .event code count => b1 code.code ++ b1 count

/-- The kind character of an entry's frame. -/
def Content.upKind : Content → Nat
  | .report r => r.upKind
  | .notice n => n.kind.upKind
  | .reply _ => 0x20

/-- The payload of an entry's frame. -/
def Content.payload : Content → List Byte
  | .report r => r.payload
  | .notice n => n.payload
  | .reply r => r.request :: byteOf r.code.code :: r.data

/-- R180: the whole frame: A5h, kind, length, payload and the check over kind, length and payload. -/
def frameOf (kind : Byte) (payload : List Byte) : List Byte :=
  let body := kind :: byteOf payload.length :: payload
  0xA5 :: body ++ [crc8 body]

/-- The frame of an entry. -/
def Content.frame (c : Content) : List Byte := frameOf (byteOf c.upKind) c.payload

/-! ### QUERY pages -/

/-- The entry in transmission. -/
def Upq.sendingEntry (u : Upq) : Option Entry := u.entries.find? Entry.started

/-- The notices in the queue. -/
def Upq.noticeCount (u : Upq) : Nat := (NoticeKind.all.map u.notices).sum

/-- The activity timer's count as four characters hold it; past them it is a free value (notes/assumptions/17.md). While the timer is
stopped the count it stopped at is shown, and not FFFFFFFFh: DESIGN CHOICE, notes/assumptions/43.md. -/
def State.activityShown (s : State) : Nat :=
  if s.spm.activityTimer < 4294967296 then s.spm.activityTimer else (Config.longActivity s.spm.activityTimer).toNat

/-- R105: the kind of an entry: a base report's and a notice's is its frame's, a reply's is that of the request answered. -/
def Content.kind : Content → Byte
  | .report r => byteOf r.upKind
  | .notice n => byteOf n.kind.upKind
  | .reply r => r.request

/-- STATUS, page 0. The kind in transmission is the entry's (R105, R106). The hub power state at the first wake source is sent as
DOZE 0, DEEP 1: DESIGN CHOICE, notes/assumptions/44.md. -/
def State.statusPage (s : State) : List Byte :=
  b1 s.upq.reports ++ b1 s.upq.noticeCount ++ b1 s.upq.replies ++ b1 s.upq.placesTaken
    ++ [(s.upq.sendingEntry.map fun e => e.content.kind).getD 0]
    ++ [setByte (NoticeKind.all.map fun k => s.upq.followOn.any fun n => n.kind == k)]
    ++ b1 s.slk.down.length
    ++ [setByte [false, s.tables.route.awaiting, s.tables.posture.awaiting, s.tables.schedule.awaiting,
        s.tables.channel.awaiting, s.tables.charge.awaiting, s.tables.policy.awaiting]]
    ++ b1 s.dlu.state.code ++ [flagByte s.pins.lsns, flagByte s.dlu.timedOut] ++ b1 s.dlu.button.code
    ++ timerBytes s.dlu.requestTimer ++ timerBytes s.dlu.pulseTimer ++ timerBytes s.dlu.windowTimer
    ++ timerBytes s.dlu.holdTimer
    ++ b1 s.spm.system.code ++ b1 s.spm.hub.code ++ leBytes 4 s.activityShown
    ++ optCode (s.spm.requested.map Depth.code) ++ optCode (s.spm.target.map Depth.code)
    ++ [s.spm.wakeCause] ++ optCode (s.spm.firstPower.map Depth.code)
    ++ optCode (s.spm.clock.map ClockStart.elapsed) ++ [flagByte ((s.spm.clock.map ClockStart.awake).getD false)]
    ++ b1 ((s.spm.wakeTimer.map Timer.remaining).getD 0) ++ [flagByte s.spm.hallF]
    ++ optCode (s.spm.lastPower.map PowerReport.battery)
    ++ [setByte [(s.spm.lastPower.map PowerReport.external).getD false]]
    ++ leBytes 2 s.spm.supply ++ leBytes 2 s.spm.cap ++ leBytes 2 s.spm.budget ++ leBytes 2 s.spm.latchClaim
    ++ leBytes 2 s.spm.stageLimit ++ leBytes 2 s.spm.penClaim

/-- The elapsed time in ms since a tick count, as two characters hold it; past them it is a free value
(notes/assumptions/17.md). -/
def State.elapsed2 (s : State) (t : TickCount) : Nat :=
  if s.since t < 65536 then s.since t else (Config.longElapsed (s.since t)).toNat

/-- R31: POSTURE, page 0. φ_L, ψ and the two sample ages are those of the last evaluation. -/
def State.posturePage (s : State) : List Byte :=
  let p := s.pae
  let lid : Axes := p.lastLid.getD ⟨0, 0, 0⟩
  setByte [p.lastLid.isSome, p.phiL.isSome, p.psi.isSome, p.evaluatedLidAge.isSome, p.evaluatedBaseAge.isSome,
      p.candidate.isSome]
    :: leSigned 2 lid.x ++ leSigned 2 lid.y ++ leSigned 2 lid.z
    ++ b1 p.hinge.status.code ++ leOpt 2 p.hinge.theta ++ leOpt 2 p.hinge.phiB
    ++ leZero 2 p.phiL ++ leZero 2 p.psi ++ leZero 1 p.evaluatedLidAge ++ leZero 1 p.evaluatedBaseAge
    ++ b1 p.rotation.code ++ optCode (p.rotCandidate.map fun c => c.rotation.code)
    ++ leOpt 2 (p.rotCandidate.map fun c => s.elapsed2 c.since)
    ++ b1 p.record.posture.code ++ optCode p.record.row ++ [flagByte p.record.permission]
    ++ leBytes 4 p.record.changed.toNat
    ++ (match p.candidate with
        | some c => b1 c.posture.code ++ optCode c.row ++ leBytes 2 (s.elapsed2 c.since)
        | none => List.replicate 4 0)
    ++ [setByte [p.hallF, p.hallR]]

/-- PEN, page 0. -/
def State.penPage (s : State) : List Byte :=
  let p := s.pch
  b1 p.state.code ++ [flagByte p.enable, pauseSet p.pauses] ++ optCode (p.faultReason.map FaultReason.code)
    ++ b1 p.attempts ++ b1 p.burstKind.code ++ [flagByte p.penIdMark] ++ optCode (p.waiting.map Waiting.stage)
    ++ timerBytes p.waitTimer ++ timerBytes p.burstTimer ++ timerBytes p.stageTimer ++ timerBytes p.packetTimer
    ++ timerBytes p.recheckTimer
    ++ b1 p.overcurrent ++ b1 p.timeouts
    ++ leBytes 2 p.driver.period ++ b1 p.driver.dead ++ leBytes 2 p.driver.duty ++ [flagByte p.driver.running]
    ++ b1 p.blanking.code ++ b1 s.bcd.mode.code
    ++ penBytes s.penFields s.bcd.last.isSome
    ++ (match s.bcd.last with
        | some l => l.kind :: l.value :: leBytes 4 l.time.toNat
        | none => List.replicate 6 0)

/-- BASE, page 0. -/
def State.basePage (s : State) : List Byte :=
  b1 s.blk.link.code ++ b1 s.blk.rate.code
    ++ (match s.blk.record with
        | some r => 1 :: leBytes 2 r.model ++ b1 r.revision ++ [r.capability] ++ b1 r.maxRate.code
        | none => List.replicate 6 0)
    ++ optCode (s.blk.txn.map fun t => t.fn.number) ++ optCode (s.blk.txn.map fun t => if t.write then 1 else 0)
    ++ b1 s.counters.physical ++ b1 s.counters.bit ++ b1 s.counters.framing ++ b1 s.counters.length
    ++ b1 s.counters.check ++ b1 s.counters.refused ++ b1 s.counters.timeout
    ++ b1 s.blk.consecutive ++ b1 s.blk.attempts ++ optCode s.blk.retryTimer ++ b1 s.blk.presentCount
    ++ b1 s.blk.absentCount ++ [flagByte s.blk.attention]
    ++ b1 s.psc.writes.length
    ++ (s.psc.writes.map (fun (w : WriteEntry) => byteOf w.fn.number) ++ List.replicate Config.writePlaces 0xFF).take Config.writePlaces

/-- BASE, page 1. -/
def State.slotsPage (s : State) : List Byte :=
  byteOf s.sched.slotCount :: (List.range s.sched.slotCount).flatMap fun i =>
    [byteOf (s.slot i).fn, byteOf (s.owed i), setByte [s.capable i, s.blocked i]]

/-- CONVERTER, page 0. -/
def State.scanPage (s : State) : List Byte :=
  (s.cnv.resultS.flatMap fun r => leOpt 2 r.reading) ++ s.cnv.resultS.flatMap fun r => leBytes 4 r.time.toNat

/-- CONVERTER, page 1. -/
def State.coilPage (s : State) : List Byte :=
  leOpt 2 s.cnv.resultC.coilI ++ leOpt 2 s.cnv.resultC.coilV ++ leBytes 4 s.cnv.resultC.time.toNat
    ++ (s.cnv.windows.map fun w => byteOf w.code)
    ++ [setByte ((List.range Config.channels).map s.active)]
    ++ s.cnv.debounce.map byteOf
    ++ [flagByte s.cnv.fault] ++ b1 s.cnv.slotS.code ++ b1 s.cnv.slotC.code
    ++ [setByte [s.cnv.recorded, s.cnv.held.isSome]]
    ++ b1 s.counters.mergedS ++ b1 s.counters.droppedC ++ b1 s.counters.forcedBlank

/-- COUNTERS, page 0: the pen's counts are 00h with no pen. -/
def State.countersPage (s : State) : List Byte :=
  s.counters.page.map byteOf
    ++ b1 ((s.pch.pen.map PenRecord.check).getD 0) ++ b1 ((s.pch.pen.map PenRecord.violation).getD 0)

/-- R187: a subject's page by its number; `none` when the subject has no such page. -/
def State.page (s : State) (subject : Subject) (number : Nat) : Option (List Byte) :=
  match subject, number with
  | .status, 0 => some s.statusPage
  | .posture, 0 => some s.posturePage
  | .pen, 0 => some s.penPage
  | .base, 0 => some s.basePage
  | .base, 1 => some s.slotsPage
  | .converter, 0 => some s.scanPage
  | .converter, 1 => some s.coilPage
  | .counters, 0 => some s.countersPage
  | _, _ => none

end Sys2Proof.Machine
end

