-- ==== Sys2Proof/Machine/SystemLink.lean ====
section
/-!
DEFINITION. The system link's frames (R179 to R182, R109, R110): the receive framer with its rescan, the down buffer, and the start and
the end of an up frame.
-/

namespace Sys2Proof.Machine

/-! ### The receive framer -/

/-- What a character does to the framer (R181): it goes on, it has a good frame, or the frame is bad. -/
inductive FrameStep
  | goOn (f : Framer)
  | good (frame : DownFrame)
  | bad
  deriving DecidableEq, Repr

/-- The characters of the frame under reception after its start character. -/
def Framer.body (f : Framer) : List Byte := (f.kept.drop 1).map RxChar.value

/-- R181: a character kept in a state. -/
def Framer.keep (f : Framer) (c : RxChar) (state : FramerState) (due : Nat) : FrameStep := .goOn ⟨state, f.kept ++ [c], due⟩

/-- R181: one character acts by the framer's state. -/
def Framer.act (f : Framer) (c : RxChar) : FrameStep :=
  match f.state with
  | .hunt => if c.value = 0xA5 ∧ c.stopHigh then .goOn ⟨.kind, [c], 0⟩ else .goOn .hunting
  | .kind => if c.stopHigh then f.keep c .length 0 else .bad
  | .length =>
    if c.stopHigh ∧ c.value.toNat ≤ Config.maxPayload then
      f.keep c (if c.value = 0 then .check else .payload) c.value.toNat
    else .bad
  | .payload => if c.stopHigh then f.keep c (if f.due ≤ 1 then .check else .payload) (f.due - 1) else .bad
  | .check =>
    if c.stopHigh ∧ crc8 f.body = c.value then .good ⟨f.body.headD 0, f.body.drop 2⟩ else .bad

/-- R181: whether the frame under reception is abandoned by a moment: more than 100 µs after its last character's stop bit. -/
def Framer.lapsed (f : Framer) (speed : LinkSpeed) (time : Nat) : Bool :=
  match f.state, f.kept.getLast? with
  | .hunt, _ => false
  | _, some c => decide (c.time + speed.charTime + Config.abandonGap < time)
  | _, none => false

/-- The framer as a character finds it: a lapsed frame is dropped without a rescan (R181). -/
def Framer.before (f : Framer) (speed : LinkSpeed) (c : RxChar) : Framer :=
  if f.lapsed speed c.time then .hunting else f

/-- R182: a good frame is offered to the down buffer. -/
def State.offer (s : State) (f : DownFrame) : State :=
  if s.slk.down.length < Config.downPlaces then { s with slk.down := s.slk.down ++ [f] } else s.bump .overrun

/-- R181: characters in turn. A bad frame is counted, and the hunt goes on through what it had kept after its start character,
with the original arrival times. Each turn takes one unit of fuel. -/
def State.hunt : Nat → State → List RxChar → State
  | 0, s, _ => s
  | _, s, [] => s
  | n + 1, s, c :: rest =>
    let f := s.slk.framer.before s.slk.rate c
    match f.act c with
    | .goOn g => ({ s with slk.framer := g }).hunt n rest
    | .good frame => (({ s with slk.framer := .hunting }).offer frame).hunt n rest
    | .bad => (({ s with slk.framer := .hunting }).bump .downCrc).hunt n ((f.kept ++ [c]).drop 1 ++ rest)

/-- The turns that always suffice: each rescan drops a start character for good. -/
def Framer.fuel (f : Framer) : Nat := (f.kept.length + 2) * (f.kept.length + 2)

/-- R181: a received character. -/
def State.receive (s : State) (c : RxChar) : State := s.hunt s.slk.framer.fuel [c]

/-! ### Up frames -/

/-- R109, R180: a frame starts with the head entry, which is frozen. -/
def State.startFrame (s : State) : State :=
  match s.upq.entries with
  | e :: _ => { s with slk.tx := some e.content.frame, upq := s.upq.startHead }
  | [] => s

/-- R190: whether the head is the reply of a HUB_RESET with scope ALL. -/
def Upq.headResets (u : Upq) : Bool :=
  match u.entries with
  | e :: _ =>
    match e.content with
    | .reply r => r.resetAll
    | _ => false
  | [] => false

/-! ### The commands -/

/-- UP_FRAME_START (R109): nothing is being sent, an entry waits, SRDY is high, and the hub is in RUN or DOZE; past the last
character of a HUB_RESET ALL's reply only the reset follows (R190). -/
def execUpFrameStart (srdy : Bool) (s : State) : Host.Outcome State Fault Refusal :=
  .next <|
    let t := { s with pins.srdy := srdy }
    if srdy ∧ s.slk.tx = none ∧ s.spm.hub ≠ .deep ∧ s.slk.resetAll ≠ .replySent then t.startFrame else t

/-- UP_FRAME_END (R109, R107): the last character has been sent, and the entry leaves. -/
def execUpFrameEnd (s : State) : Host.Outcome State Fault Refusal :=
  .next <|
    if s.slk.tx.isSome then
      { s with
        slk.tx := none, upq := s.upq.finishHead
        slk.resetAll := if s.upq.headResets then .replySent else s.slk.resetAll }
    else s

/-- DOWN_CHARACTER_RECEIVED (R181). -/
def execDownCharacterReceived (char : RxChar) (s : State) : Host.Outcome State Fault Refusal := .next (s.receive char)

/-- Whether a character completes a good frame (R181, R182). -/
def State.completesFrame (s : State) (c : RxChar) : Bool :=
  match (s.slk.framer.before s.slk.rate c).act c with
  | .good _ => true
  | _ => false

/-- DOWN_FRAME_RECEIVED (R182): the character that completes a good frame. -/
def execDownFrameReceived (char : RxChar) (s : State) : Host.Outcome State Fault Refusal :=
  .next (if s.completesFrame char then s.receive char else s)

/-- BAD_DOWN_FRAME (R181): the character that makes the frame bad. -/
def execBadDownFrame (char : RxChar) (s : State) : Host.Outcome State Fault Refusal :=
  .next (if (s.slk.framer.before s.slk.rate char).act char = .bad then s.receive char else s)

/-- DOWN_FRAME_ABANDON (R181): at the 100 µs mark the characters are dropped without a rescan and without a count. -/
def execDownFrameAbandon (time : Nat) (s : State) : Host.Outcome State Fault Refusal :=
  .next (if s.slk.framer.lapsed s.slk.rate (time + 1) then { s with slk.framer := .hunting } else s)

end Sys2Proof.Machine
end

