-- ==== Sys2Proof/Machine/Requests.lean ====
section
/-!
DEFINITION. The management requests (R93, R117, R118, R120, R151, R172, R182 to R190): the head of the down buffer is carried out
when a reply place is free.
-/

namespace Sys2Proof.Machine

/-! ### Taking a request -/

/-- R182, R190: the head of the down buffer, when SLK may carry it out: a reply place is free, and no HUB_RESET ALL has been
answered. -/
def State.request (s : State) : Option DownFrame :=
  if s.upq.placesTaken < Config.replyPlaces ∧ s.slk.resetAll = .idle then s.slk.down.head? else none

/-- R182: SLK claims the reply place and removes the frame. -/
def State.claim (s : State) : State :=
  { s with slk.down := s.slk.down.tail, upq.placesTaken := s.upq.placesTaken + 1 }

/-- R182: the head request is carried out when it is one that the command stands for. -/
def State.carryOut (s : State) (mine : DownFrame → Bool) (act : State → DownFrame → State) : State :=
  match s.request with
  | some f => if mine f then act s.claim f else s
  | none => s

/-- A payload character; the position is within the length that fits. -/
def DownFrame.arg (f : DownFrame) (i : Nat) : Byte := f.payload.getD i 0

/-- R183: the request's reply. It is queued ahead of the notices that the request brings, but for HUB_RESET with scope LINKS, which R189
puts the other way: DEDUCED, notes/assumptions/30.md. -/
def State.answer (s : State) (f : DownFrame) (c : ReplyCode) (data : List Byte := []) : State := s.reply f.kind c data

/-- R183: a payload of another length than the kind's is answered BAD_LENGTH. -/
def State.fixedLength (s : State) (f : DownFrame) (n : Nat) (act : State → State) : State :=
  if f.payload.length = n then act s else s.answer f .badLength

/-! ### Tables -/

/-- R184, R186: whether the rows named lie within the table's. -/
def rowsExist (t : TableId) (first n : Nat) : Bool :=
  decide (0 < n) && decide (t.firstRow ≤ first) && decide (first + n ≤ t.lastRow + 1)

/-- The rows named, in increasing order. -/
def rowsFrom (first n : Nat) : List Nat := (List.range n).map (first + ·)

/-- The characters the rows named take. -/
def rowsLength (t : TableId) (first n : Nat) : Nat := ((rowsFrom first n).map (rowLength t)).sum

/-- R184: rows are written into an image as they stand. -/
def writeRows (t : TableId) : List Nat → List Byte → Image → Image
  | [], _, img => img
  | r :: rs, bs, img => writeRows t rs (bs.drop (rowLength t r)) (img.set r (decodeRow t r (bs.take (rowLength t r))))

/-- R184. -/
def State.tableWrite (s : State) (f : DownFrame) : State :=
  if f.payload.length < 3 then s.answer f .badLength
  else
    match TableId.ofNumber (f.arg 0).toNat with
    | none => s.answer f .badTable
    | some t =>
      let first := (f.arg 1).toNat
      let n := (f.arg 2).toNat
      if !rowsExist t first n then s.answer f .badRow
      else if f.payload.length ≠ 3 + rowsLength t first n then s.answer f .badLength
      else
        let tab := s.tables.get t
        if tab.awaiting then s.answer f .busy
        else
          let img := writeRows t (rowsFrom first n) (f.payload.drop 3) tab.pending
          ({ s with tables := s.tables.set t { tab with pending := img } }).answer f .ok

/-- R168: what the POLICY swap brings besides the images and the reply. -/
def State.policySwapped (s : State) : State :=
  ((({ s with spm.activityTimer := 0 }).setPower s.spm.lastPower).formTarget.judgeSleep).leaveDeep

/-- R185: a validated image: ROUTE and POLICY swap at the commit (R100, R168), the others await their boundary. CHARGE swaps at the
commit while the driver is stopped; while it runs the next regulation step is counted from here (R135). -/
def State.committed (s : State) (t : TableId) : State :=
  let u := { s with tables := s.tables.set t { s.tables.get t with awaiting := true } }
  match t with
  | .route => s.swapTable .route
  | .policy => (s.swapTable .policy).policySwapped
  | .charge => if s.pch.driver.running then { u with pch.stepped := false } else s.swapCharge
  | _ => u

/-- R185. -/
def State.tableCommit (s : State) (f : DownFrame) : State :=
  match TableId.ofNumber (f.arg 0).toNat with
  | none => s.answer f .badTable
  | some t =>
    if (s.tables.get t).awaiting then s.answer f .busy
    else
      match firstBadRow t (s.tables.get t).pending with
      | some r => s.answer f .badValue [byteOf r]
      | none => s.committed t

/-- R186: the image a TABLE_READ names. -/
def Table.image (t : Table) (code : Byte) : Image := if code = 1 then t.pending else t.active

/-- R186. -/
def State.tableRead (s : State) (f : DownFrame) : State :=
  match TableId.ofNumber (f.arg 0).toNat with
  | none => s.answer f .badTable
  | some t =>
    let first := (f.arg 2).toNat
    let n := (f.arg 3).toNat
    if f.arg 1 ≠ 0 ∧ f.arg 1 ≠ 1 then s.answer f .badValue
    else if !rowsExist t first n || decide (Config.maxReadRows < rowsLength t first n) then s.answer f .badRow
    else
      let img := (s.tables.get t).image (f.arg 1)
      s.answer f .ok (f.payload ++ (rowsFrom first n).flatMap fun r => encodeRow t r (img.row r))

/-! ### QUERY -/

/-- R187: the counters the COUNTERS page lists are cleared, the pen's two included. -/
def State.clearCounters (s : State) : State :=
  { s with
    counters := .zero
    pch.pen := s.pch.pen.map fun (p : PenRecord) => { p with check := 0, violation := 0 } }

/-- R187: QUERY with a subject that has pages by the option. -/
def State.queryPage (s : State) (f : DownFrame) (subject : Subject) : State :=
  match s.page subject (f.arg 1).toNat with
  | some data => s.answer f .ok (f.payload ++ data)
  | none => s.answer f .badValue

/-- R187: QUERY with subject COUNTERS; the values before a clearing are reported. -/
def State.queryCounters (s : State) (f : DownFrame) : State :=
  let t := if (f.arg 1).getLsbD 0 then s.clearCounters else s
  t.answer f .ok (f.arg 0 :: 0 :: s.countersPage)

/-- R187. -/
def State.query (s : State) (f : DownFrame) : State :=
  match Subject.ofCode (f.arg 0).toNat with
  | none => s.answer f .badValue
  | some .counters => s.queryCounters f
  | some subject => s.queryPage f subject

/-! ### Requests handed to their owners -/

/-- R93: the checks of a BASE_WRITE after the function's; the entry joins the tail of the write queue. -/
def State.queueWrite (s : State) (f : DownFrame) (fn : BaseFn) (l : Nat) : State :=
  if 32 < l then s.answer f .badValue
  else if f.payload.length ≠ 2 + l then s.answer f .badLength
  else if s.blk.link ≠ .running then s.answer f .baseAbsent
  else if !(s.blk.record.any fun r => r.capability.getLsbD fn.number) then s.answer f .badValue
  else if Config.writePlaces ≤ s.psc.writes.length then s.answer f .full
  else
    let entry : WriteEntry := ⟨fn, f.payload.drop 2⟩
    ({ s with psc.writes := s.psc.writes ++ [entry] }).answer f .ok

/-- R93: BASE_WRITE past the check of its minimum length. -/
def State.baseWrite (s : State) (f : DownFrame) : State :=
  let l := (f.arg 1).toNat
  match BaseFn.ofNumber (f.arg 0).toNat with
  | some .light => s.queueWrite f .light l
  | some .indicator => s.queueWrite f .indicator l
  | _ => s.answer f .badValue

/-- R117: the reply stands ahead of the RELEASING notice, as the worked example "a detach by button and grant" of 07 has it. -/
def State.detachGrant (s : State) (f : DownFrame) : State :=
  if s.dlu.state = .requested then (s.answer f .ok).toReleasing .grant
  else if s.dlu.timedOut then s.answer f .late
  else s.answer f .notPending

/-- R118. -/
def State.detachDeny (s : State) (f : DownFrame) : State :=
  if s.dlu.state = .requested then
    ({ s.answer f .ok with dlu.state := .latched, dlu.requestTimer := none }).detachNotice .denied none .requested
  else s.answer f .notPending

/-- R120. -/
def State.detachRelease (s : State) (f : DownFrame) : State :=
  match s.dlu.state with
  | .latched =>
    if s.mayDetach then (s.answer f .ok).toReleasing .software
    else s.answer f .badValue [byteOf DetachOutcome.notAllowed.code]
  | .requested => (s.answer f .ok).toReleasing .grant
  | .releasing | .released => s.answer f .ok
  | .absent => s.answer f .baseAbsent

/-- R188, R151: CHARGE_CONTROL with its enable flag and system cap. -/
def State.chargeRequest (s : State) (f : DownFrame) : State :=
  if f.arg 0 = 0 ∨ f.arg 0 = 1 then
    (s.answer f .ok).chargeControl (f.arg 0 == 1) (leNat (f.payload.drop 1))
  else s.answer f .badValue

/-- R188, R172: SYSTEM_STATE. -/
def State.systemRequest (s : State) (f : DownFrame) : State :=
  if f.arg 0 = 0 then (s.answer f .ok).systemAwake
  else if f.arg 0 = 1 ∧ (f.arg 1 = 0 ∨ f.arg 1 = 1) then (s.answer f .ok).systemSleeping (.ofCode (f.arg 1).toNat)
  else s.answer f .badValue

/-- R189, R112: HUB_RESET with scope LINKS; its reply follows its effects. -/
def State.resetLinks (s : State) (f : DownFrame) : State :=
  let t := s.enterAbsent false
  ({ t with counters := t.counters.clearLinks, upq := t.upq.dropReports, pae.rotCandidate := none }).answer f .ok

/-- R190: HUB_RESET with scope ALL: its reply is queued, and no further request is carried out. -/
def State.resetAll (s : State) (f : DownFrame) : State :=
  { s with
    upq := s.upq.append (.reply ⟨f.kind, .ok, [], true⟩)
    slk.resetAll := .replyQueued }

/-- R188: HUB_RESET. -/
def State.hubReset (s : State) (f : DownFrame) : State :=
  if f.arg 0 = 0 then s.resetLinks f else if f.arg 0 = 1 then s.resetAll f else s.answer f .badValue

/-! ### The commands -/

/-- Whether the frame has a kind of the down kind table (11, "Frame layouts"). -/
def DownFrame.known (f : DownFrame) : Bool := decide (0x40 ≤ f.kind.toNat ∧ f.kind.toNat ≤ 0x4A)

/-- BAD_KIND (R183). -/
def execBadKind (s : State) : Host.Outcome State Fault Refusal :=
  .next (s.carryOut (fun f => !f.known) fun t f => t.answer f .badKind)

/-- TABLE_WRITE (R184). -/
def execTableWrite (s : State) : Host.Outcome State Fault Refusal :=
  .next (s.carryOut (fun f => f.kind == 0x40) State.tableWrite)

/-- TABLE_COMMIT (R185). -/
def execTableCommit (s : State) : Host.Outcome State Fault Refusal :=
  .next (s.carryOut (fun f => f.kind == 0x41) fun t f => t.fixedLength f 1 fun u => u.tableCommit f)

/-- TABLE_READ (R186). -/
def execTableRead (s : State) : Host.Outcome State Fault Refusal :=
  .next (s.carryOut (fun f => f.kind == 0x42) fun t f => t.fixedLength f 4 fun u => u.tableRead f)

/-- QUERY (R187). -/
def execQuery (s : State) : Host.Outcome State Fault Refusal :=
  .next (s.carryOut (fun f => f.kind == 0x43) fun t f => t.fixedLength f 2 fun u => u.query f)

/-- CLEAR_COUNTERS (R187): QUERY with subject COUNTERS and bit 0 of its option set. -/
def execClearCounters (s : State) : Host.Outcome State Fault Refusal :=
  .next <|
    s.carryOut
      (fun f => f.kind == 0x43 && f.payload.length == 2 && f.arg 0 == 5 && (f.arg 1).getLsbD 0)
      State.queryCounters

/-- BASE_WRITE (R93): a length below 2 is refused at once (R183). -/
def execBaseWrite (s : State) : Host.Outcome State Fault Refusal :=
  .next <|
    s.carryOut (fun f => f.kind == 0x44) fun t f =>
      if f.payload.length < 2 then t.answer f .badLength else t.baseWrite f

/-- DETACH_GRANT (R117). -/
def execDetachGrant (s : State) : Host.Outcome State Fault Refusal :=
  .next (s.carryOut (fun f => f.kind == 0x45) fun t f => t.fixedLength f 0 fun u => u.detachGrant f)

/-- DETACH_DENY (R118). -/
def execDetachDeny (s : State) : Host.Outcome State Fault Refusal :=
  .next (s.carryOut (fun f => f.kind == 0x46) fun t f => t.fixedLength f 0 fun u => u.detachDeny f)

/-- DETACH_RELEASE (R120). -/
def execDetachRelease (s : State) : Host.Outcome State Fault Refusal :=
  .next (s.carryOut (fun f => f.kind == 0x47) fun t f => t.fixedLength f 0 fun u => u.detachRelease f)

/-- CHARGE_CONTROL (R151). -/
def execChargeControl (s : State) : Host.Outcome State Fault Refusal :=
  .next (s.carryOut (fun f => f.kind == 0x48) fun t f => t.fixedLength f 3 fun u => u.chargeRequest f)

/-- SYSTEM_STATE_SLEEPING (R172): every SYSTEM_STATE but one of good length with state awake. -/
def execSystemStateSleeping (s : State) : Host.Outcome State Fault Refusal :=
  .next <|
    s.carryOut (fun f => f.kind == 0x49 && !(f.payload.length == 2 && f.arg 0 == 0)) fun t f =>
      t.fixedLength f 2 fun u => u.systemRequest f

/-- SYSTEM_STATE_AWAKE (R172): every SYSTEM_STATE but one of good length with state sleeping. -/
def execSystemStateAwake (s : State) : Host.Outcome State Fault Refusal :=
  .next <|
    s.carryOut (fun f => f.kind == 0x49 && !(f.payload.length == 2 && f.arg 0 == 1)) fun t f =>
      t.fixedLength f 2 fun u => u.systemRequest f

/-- HUB_RESET_LINKS (R189): every HUB_RESET but one of good length with scope ALL. -/
def execHubResetLinks (s : State) : Host.Outcome State Fault Refusal :=
  .next <|
    s.carryOut (fun f => f.kind == 0x4A && !(f.payload.length == 1 && f.arg 0 == 1)) fun t f =>
      t.fixedLength f 1 fun u => u.hubReset f

/-- HUB_RESET_ALL (R190): every HUB_RESET but one of good length with scope LINKS. -/
def execHubResetAll (s : State) : Host.Outcome State Fault Refusal :=
  .next <|
    s.carryOut (fun f => f.kind == 0x4A && !(f.payload.length == 1 && f.arg 0 == 0)) fun t f =>
      t.fixedLength f 1 fun u => u.hubReset f

end Sys2Proof.Machine
end

