-- ==== Sys2Proof/Machine/Resets.lean ====
section
/-!
DEFINITION. Power-on reset, RESET# and the reset that HUB_RESET with scope ALL brings (R111, R190). The waiting commands and the pins
stay: they belong to the world outside the hub (notes/assumptions/7.md).
-/

namespace Sys2Proof.Machine

/-- The pins with the straps as a reset samples them (R179). -/
def Pins.sampled (p : Pins) (straps : Straps) : Pins := { p with straps := straps }

/-- POWER_ON_RESET (R111): the code POR, charging enabled as the default CHARGE image says (R136). -/
def execPowerOnReset (straps : Straps) (s : State) : Host.Outcome State Fault Refusal :=
  .next (.afterReset .por (chargeGlobals defaultCharge).enabledAtReset (s.pins.sampled straps) s.pending)

/-- RESET_PIN (R111): as power-on reset, with the code PIN_RESET. -/
def execResetPin (straps : Straps) (s : State) : Host.Outcome State Fault Refusal :=
  .next (.afterReset .pinReset (chargeGlobals defaultCharge).enabledAtReset (s.pins.sampled straps) s.pending)

/-- SOFT_RESET (R190): at the moment the check character of the HUB_RESET's reply has left; the charging enable follows the
active CHARGE image as it stood just before (R136). -/
def execSoftReset (straps : Straps) (s : State) : Host.Outcome State Fault Refusal :=
  .next <|
    if s.slk.resetAll = .replySent then
      .afterReset .softReset s.chg.enabledAtReset (s.pins.sampled straps) s.pending
    else s

end Sys2Proof.Machine
end

