-- ==== Sys2Proof/Machine/Tick.lean ====
section
/-!
DEFINITION. The system tick (R70, and 00_scope.md, "Time base"): every timer that counts system ticks counts, the pins that are
sampled once a tick are sampled, and presence is judged. What a full count brings is the command of that expiry
(notes/assumptions/4.md). And the drive tick, which the model takes when no command waits (notes/assumptions/1.md).
-/

namespace Sys2Proof.Machine

/-- A running timer counts; a stopped one stays so. -/
def tickTimer (t : Option Timer) : Option Timer := t.map Timer.tick

/-- R5, R11: the scan timer and the ticks since the scan's start. -/
def Cnv.tick (c : Cnv) : Cnv := { c with scanTimer := c.scanTimer + 1, scanTicks := c.scanTicks + 1 }

/-- R19, R20, R36: outside DEEP the posture period timer, the lid read and the angle report timer count. -/
def Pae.tick (p : Pae) (deep : Bool) (anglePeriod : Nat) : Pae :=
  if deep then p
  else
    { p with
      periodTimer := p.periodTimer + 1
      lidRead := p.lidRead.map (· + 1)
      angleTimer := if anglePeriod = 0 then 0 else p.angleTimer + 1 }

/-- R77, R79: a low lasts on while the tick reads BDQ low, and has ended when it reads it high; the rising edge of a glitch is the
command GLITCH, which comes before that tick (notes/assumptions/12.md). -/
def LineLow.tick (l : LineLow) (high : Bool) : Option LineLow :=
  if high then none else some { l with elapsed := l.elapsed + 1 }

/-- R75, R77: outside DEEP the retry timer of FAULT counts; a low on the line is timed in every hub power state. -/
def Blk.tick (b : Blk) (deep high : Bool) : Blk :=
  { b with
    retryTimer := if deep then b.retryTimer else b.retryTimer.map fun n => min (n + 1) Config.retryTicks
    low := b.low.bind fun l => l.tick high }

/-- R86: the due timers that run count. -/
def State.tickDue (s : State) : List Nat :=
  (List.range s.psc.due.length).map fun i => s.psc.due.getD i 0 + (if s.dueRuns i then 1 else 0)

/-- R152: the age of the last valid packet counts and saturates at 65535. -/
def PenRecord.tick (p : PenRecord) : PenRecord := { p with age := p.age.map fun n => min (n + 1) 65535 }

/-- R136, R140, R152: the charger's timers and the packet age. -/
def Pch.tick (p : Pch) : Pch :=
  { p with
    waitTimer := tickTimer p.waitTimer, burstTimer := tickTimer p.burstTimer, stageTimer := tickTimer p.stageTimer
    packetTimer := tickTimer p.packetTimer, recheckTimer := tickTimer p.recheckTimer
    checkTicks := p.checkTicks.map (· + 1)
    pen := p.pen.map PenRecord.tick }

/-- R113: the latch unit's timers. -/
def Dlu.tick (d : Dlu) : Dlu :=
  { d with
    requestTimer := tickTimer d.requestTimer, pulseTimer := tickTimer d.pulseTimer
    windowTimer := tickTimer d.windowTimer, holdTimer := tickTimer d.holdTimer }

/-- R170, R176, R178: the activity timer, which counts in AWAKE alone, the clock start and the wake pulse timer. -/
def Spm.tick (p : Spm) : Spm :=
  { p with
    activityTimer := if p.system = .awake then p.activityTimer + 1 else p.activityTimer
    clock := p.clock.map fun (c : ClockStart) => { c with elapsed := c.elapsed + 1 }
    wakeTimer := tickTimer p.wakeTimer }

/-- The timers of every block count one system tick. -/
def State.tickTimers (s : State) : State :=
  let deep := s.spm.hub == .deep
  { s with
    ticks := s.ticks + 1
    cnv := s.cnv.tick
    pae := s.pae.tick deep s.post.anglePeriod
    blk := s.blk.tick deep s.pins.bdq
    psc.due := s.tickDue
    pch := s.pch.tick
    dlu := s.dlu.tick
    spm := s.spm.tick }

/-- SYSTEM_TICK (R70 to R72): the pins are sampled, every timer counts, and PRES acts. -/
def execSystemTick (pres lsns bdq : Bool) (s : State) : Host.Outcome State Fault Refusal :=
  .next
    ((({ s with pins := { s.pins with pres := pres, lsns := lsns, bdq := bdq } }).tickTimers).samplePresence pres)

/-! ### The drive tick -/

/-- R127: a running driver's position counts up to the end of its period, where PERIOD_BOUNDARY takes over. -/
def Driver.tick (d : Driver) : Driver :=
  if d.running then { d with position := min (d.position + 1) (d.period - 1) } else d

/-- R154, R155: the two free-running counts; 32 drive ticks make one microsecond. -/
def Bcd.tick (b : Bcd) : Bcd :=
  { b with
    driveCount := b.driveCount + 1
    subMicro := if b.subMicro = 31 then 0 else b.subMicro + 1
    microCount := if b.subMicro = 31 then b.microCount + 1 else b.microCount }

/-- One drive tick of the main clock, which stops in DEEP (R174). -/
def State.driveTick (s : State) : State :=
  if s.spm.hub = .deep then s else { s with pch.driver := s.pch.driver.tick, bcd := s.bcd.tick }

end Sys2Proof.Machine
end

