-- ==== Sys2Proof/Machine/Dispatch.lean ====
section
/-!
DEFINITION. exec: one arm per command, each one call of that command's meaning.
-/

namespace Sys2Proof.Machine

def exec (i : Instr) (s : State) : Host.Outcome State Fault Refusal :=
  match i with
  | .powerOnReset straps => Sys2Proof.Machine.execPowerOnReset straps s
  | .resetPin straps => Sys2Proof.Machine.execResetPin straps s
  | .softReset straps => Sys2Proof.Machine.execSoftReset straps s
  | .systemTick pres lsns bdq => Sys2Proof.Machine.execSystemTick pres lsns bdq s
  | .sTrigger => Sys2Proof.Machine.execSTrigger s
  | .blankDeferLimit => Sys2Proof.Machine.execBlankDeferLimit s
  | .blankingGrant => Sys2Proof.Machine.execBlankingGrant s
  | .cTrigger => Sys2Proof.Machine.execCTrigger s
  | .slotCConversionEnd coilI coilV => Sys2Proof.Machine.execSlotCConversionEnd coilI coilV s
  | .channelConversionEnd code => Sys2Proof.Machine.execChannelConversionEnd code s
  | .channelSwap => Sys2Proof.Machine.execChannelSwap s
  | .posturePeriodTimerExpiry => Sys2Proof.Machine.execPosturePeriodTimerExpiry s
  | .lidReadCompletion ending => Sys2Proof.Machine.execLidReadCompletion ending s
  | .lidReadTimeout => Sys2Proof.Machine.execLidReadTimeout s
  | .postureSwap start => Sys2Proof.Machine.execPostureSwap start s
  | .attachConfirmed => Sys2Proof.Machine.execAttachConfirmed s
  | .presenceLoss => Sys2Proof.Machine.execPresenceLoss s
  | .transactionStart highFor => Sys2Proof.Machine.execTransactionStart highFor s
  | .baseCharacterReceived value time => Sys2Proof.Machine.execBaseCharacterReceived value time s
  | .transactionFailure error => Sys2Proof.Machine.execTransactionFailure error s
  | .transactionDeadline time lineLow => Sys2Proof.Machine.execTransactionDeadline time lineLow s
  | .retryTimerExpiry => Sys2Proof.Machine.execRetryTimerExpiry s
  | .idleLineLow highFor => Sys2Proof.Machine.execIdleLineLow highFor s
  | .attention => Sys2Proof.Machine.execAttention s
  | .glitch => Sys2Proof.Machine.execGlitch s
  | .stuckLine => Sys2Proof.Machine.execStuckLine s
  | .dueTime slot => Sys2Proof.Machine.execDueTime slot s
  | .scheduleSwap => Sys2Proof.Machine.execScheduleSwap s
  | .upFrameStart srdy => Sys2Proof.Machine.execUpFrameStart srdy s
  | .upFrameEnd => Sys2Proof.Machine.execUpFrameEnd s
  | .srdyRise => Sys2Proof.Machine.execSrdyRise s
  | .downFrameReceived c => Sys2Proof.Machine.execDownFrameReceived c s
  | .badDownFrame c => Sys2Proof.Machine.execBadDownFrame c s
  | .downFrameAbandon time => Sys2Proof.Machine.execDownFrameAbandon time s
  | .badKind => Sys2Proof.Machine.execBadKind s
  | .tableWrite => Sys2Proof.Machine.execTableWrite s
  | .tableCommit => Sys2Proof.Machine.execTableCommit s
  | .tableRead => Sys2Proof.Machine.execTableRead s
  | .query => Sys2Proof.Machine.execQuery s
  | .clearCounters => Sys2Proof.Machine.execClearCounters s
  | .baseWrite => Sys2Proof.Machine.execBaseWrite s
  | .detachGrant => Sys2Proof.Machine.execDetachGrant s
  | .detachDeny => Sys2Proof.Machine.execDetachDeny s
  | .detachRelease => Sys2Proof.Machine.execDetachRelease s
  | .chargeControl => Sys2Proof.Machine.execChargeControl s
  | .systemStateSleeping => Sys2Proof.Machine.execSystemStateSleeping s
  | .systemStateAwake => Sys2Proof.Machine.execSystemStateAwake s
  | .hubResetLinks => Sys2Proof.Machine.execHubResetLinks s
  | .hubResetAll => Sys2Proof.Machine.execHubResetAll s
  | .requestTimerExpiry => Sys2Proof.Machine.execRequestTimerExpiry s
  | .forcedRelease => Sys2Proof.Machine.execForcedRelease s
  | .pulseTimerExpiry => Sys2Proof.Machine.execPulseTimerExpiry s
  | .releaseWindowExpiry => Sys2Proof.Machine.execReleaseWindowExpiry s
  | .waitTimerExpiry => Sys2Proof.Machine.execWaitTimerExpiry s
  | .resonanceInterval stamp => Sys2Proof.Machine.execResonanceInterval stamp s
  | .resonanceTimeout => Sys2Proof.Machine.execResonanceTimeout s
  | .burstTimerExpiry => Sys2Proof.Machine.execBurstTimerExpiry s
  | .packetCompletion change stamp => Sys2Proof.Machine.execPacketCompletion change stamp s
  | .packetAbort cause => Sys2Proof.Machine.execPacketAbort cause s
  | .silenceLimit stamp => Sys2Proof.Machine.execSilenceLimit stamp s
  | .chargeEntry => Sys2Proof.Machine.execChargeEntry s
  | .stageChange => Sys2Proof.Machine.execStageChange s
  | .periodBoundary => Sys2Proof.Machine.execPeriodBoundary s
  | .chargeSwap => Sys2Proof.Machine.execChargeSwap s
  | .stageTimerExpiry => Sys2Proof.Machine.execStageTimerExpiry s
  | .packetTimerExpiry => Sys2Proof.Machine.execPacketTimerExpiry s
  | .recheckTimerExpiry => Sys2Proof.Machine.execRecheckTimerExpiry s
  | .activityTimerExpiry => Sys2Proof.Machine.execActivityTimerExpiry s
  | .deepEntry => Sys2Proof.Machine.execDeepEntry s
  | .clockStartEnd => Sys2Proof.Machine.execClockStartEnd s
  | .wakePulseTimerExpiry => Sys2Proof.Machine.execWakePulseTimerExpiry s
  | .bciEdge change stamp => Sys2Proof.Machine.execBciEdge change stamp s
  | .resonanceRisingEdge stamp => Sys2Proof.Machine.execResonanceRisingEdge stamp s
  | .downCharacterReceived c => Sys2Proof.Machine.execDownCharacterReceived c s
  | .lineReleasedForAnswer => Sys2Proof.Machine.execLineReleasedForAnswer s

end Sys2Proof.Machine
end

