-- ==== Sys2Proof/Safety.lean ====
section
/-!
DEFINITION. The frame of a command, what a stop of the driver and an entry of the base link bring, a request that can be carried out,
and what every step keeps: the relations between fields of the state that the manual's prose promises, each a structure whose fields
name one promise. Sys2Proof/Certificates/Slice0/Obligations.lean states that each holds after reset and that every step keeps it.
-/

namespace Sys2Proof.Machine

/-! ### What a command leaves alone -/

/-- The parts of the state: its fields. -/
inductive Part
  | pending | ticks | pins | counters | tables | cnv | pae | blk | psc | pch | bcd | dlu | spm | upq | slk
  deriving DecidableEq, Repr

/-- One part of two states is the same. -/
def Part.Same (s t : State) : Part → Prop
  | .pending => t.pending = s.pending
  | .ticks => t.ticks = s.ticks
  | .pins => t.pins = s.pins
  | .counters => t.counters = s.counters
  | .tables => t.tables = s.tables
  | .cnv => t.cnv = s.cnv
  | .pae => t.pae = s.pae
  | .blk => t.blk = s.blk
  | .psc => t.psc = s.psc
  | .pch => t.pch = s.pch
  | .bcd => t.bcd = s.bcd
  | .dlu => t.dlu = s.dlu
  | .spm => t.spm = s.spm
  | .upq => t.upq = s.upq
  | .slk => t.slk = s.slk

/-- `t` differs from `s` in the parts named, at most: the frame of a command. -/
def State.OnlyIn (parts : List Part) (s t : State) : Prop := ∀ p, p ∉ parts → p.Same s t

/-! ### What a stop of the coil driver brings -/

/-- R135: the tables after the CHARGE swap. -/
def State.chargeSwapped (s : State) : Tables :=
  { s.tables with charge := ⟨s.tables.charge.pending, s.tables.charge.pending, false⟩ }

/-- R135: every table stands, but for the CHARGE swap that a stop of the driver brings. -/
def State.TablesStand (s t : State) : Prop :=
  t.tables = s.tables ∨ (s.tables.charge.awaiting = true ∧ t.tables = s.chargeSwapped)

/-- No CHARGE swap can come with a stop of the driver: it is stopped already, or the table does not await swap. -/
def State.Calm (s : State) : Prop := s.pch.driver.running = false ∨ s.tables.charge.awaiting = false

/-- R135: what a stop of the driver brings besides the stop. Where the CHARGE table awaits swap it is swapped at once: its commit is
answered OK, the new period and dead band are in effect, and the stage limit is handed on, from which the pen claim follows.
Otherwise the tables and the budget record stay. -/
def State.Stopped (s t : State) : Prop :=
  if s.pch.driver.running = true ∧ s.tables.charge.awaiting = true then
    t.tables = s.chargeSwapped ∧ (⟨.reply ⟨0x41, .ok, [], false⟩, false⟩ : Entry) ∈ t.upq.entries ∧
    t.pch.driver.period = t.chg.period ∧ t.pch.driver.dead = t.chg.deadBand ∧
    t.spm = { s.spm with stageLimit := t.spm.stageLimit, penClaim := t.spm.penClaim } ∧
    t.spm.penClaim = min t.spm.stageLimit (min t.spm.supply t.spm.cap - t.spm.latchClaim)
  else t.tables = s.tables ∧ t.spm = s.spm

/-- R135: what the CHARGE swap does: the table's images and the reply of its commit; the new period and dead band, in effect at once
together with the duty that the charger's state chooses; a stage that the new image no longer has chosen anew from the battery level;
and the stage limit handed on, from which the pen claim follows. -/
structure State.SwapsCharge (s t : State) : Prop where
  tables : t.tables = s.chargeSwapped
  reply : (⟨.reply ⟨0x41, .ok, [], false⟩, false⟩ : Entry) ∈ t.upq.entries
  period : t.pch.driver.period = t.chg.period ∧ t.pch.driver.periodB = t.chg.period
  dead : t.pch.driver.dead = t.chg.deadBand ∧ t.pch.driver.deadB = t.chg.deadBand
  inEffect : t.pch.driver.duty = t.pch.driver.dutyB
  noneWaits : t.pch.waiting = none
  limit : t.spm.stageLimit = (t.stage ((t.pch.pen.bind PenRecord.stage).getD 0)).currentLimit
  claim : t.spm = { s.spm with
    stageLimit := t.spm.stageLimit
    penClaim := min t.spm.stageLimit (min s.spm.supply s.spm.cap - s.spm.latchClaim) }
  /-- a waiting entry or stage change is made, with its stage's lowest duty for an entry -/
  waiting : ∀ w p, s.pch.waiting = some w → s.pch.pen = some p →
    let stage := if t.chg.stageCount ≤ w.stage then t.chosen else w.stage
    t.pch.pen = some { p with stage := some stage } ∧ t.pch.overcurrent = 0 ∧
    t.pch.driver.dutyB = (if w.entry then (t.stage stage).dutyMin else t.clampDuty stage s.pch.driver.dutyB) ∧
    (t.pch.state = .charge → t.pch.stageTimer = t.stageTimerFor stage)
  /-- in IDENT with no entry waiting the duty is the new stage 0's lowest -/
  ident : s.pch.waiting = none → s.pch.state = .ident → t.pch.driver.dutyB = (t.stage 0).dutyMin
  /-- in CHARGE the stage stays, with its timer, while the new image has it -/
  kept : ∀ p i, s.pch.waiting = none → s.pch.state = .charge → s.pch.pen = some p → p.stage = some i → i < t.chg.stageCount →
    t.pch.pen = some p ∧ t.pch.driver.dutyB = t.clampDuty i s.pch.driver.dutyB ∧
    (t.pch.state = .charge → t.pch.stageTimer = s.pch.stageTimer)
  /-- and another is chosen where the new image does not have it -/
  chosen : ∀ p i, s.pch.waiting = none → s.pch.state = .charge → s.pch.pen = some p → p.stage = some i → t.chg.stageCount ≤ i →
    t.pch.pen = some { p with stage := some t.chosen } ∧ t.pch.driver.dutyB = (t.stage t.chosen).dutyMin ∧
    (t.pch.state = .charge → t.pch.stageTimer = t.stageTimerFor t.chosen)
  /-- outside IDENT and CHARGE the buffered duty is clamped to what the new period and dead band allow -/
  idle : s.pch.waiting = none → s.pch.state.drives = false →
    t.pch.driver.dutyB = min (t.chg.period - 2 * t.chg.deadBand) s.pch.driver.dutyB
  /-- the counts keep their values, and are judged by the new limits at their next change -/
  counts : s.pch.waiting = none → s.pch.state ≠ .paused →
    t.pch.attempts = s.pch.attempts ∧ t.pch.overcurrent = s.pch.overcurrent ∧ t.pch.timeouts = s.pch.timeouts

/-! ### A notice that waits -/

/-- R107: a notice waits in the queue, or in the follow-on place behind one of its kind. -/
def Upq.Holds (u : Upq) (n : Notice) : Prop := ⟨.notice n, false⟩ ∈ u.entries ∨ n ∈ u.followOn

/-- R108: the queue after EVENT notices with these codes, one after the other. -/
def Upq.events (u : Upq) (codes : List EventCode) : Upq := codes.foldl (fun v c => v.issue (.event c v.nextEventCount)) u

/-! ### The base link's entries to RUNNING and FAULT -/

/-- R78, R85, R88: what the slots are owed when the link enters RUNNING with a base of this capability set: one poll for each capable
slot that is polled in the hub power state, and one for a capable BUTTON slot when attention was pending. -/
def State.owedAtEntry (s : State) (capability : ByteSet) (hub : HubPower) : List Nat :=
  (List.range 12).map fun i =>
    if i < s.sched.slotCount ∧ capability.getLsbD (s.slot i).fn = true ∧
        (hub = .run ∨ (hub = .doze ∧ (s.slot i).periodDoze ≠ 0) ∨
          (s.blk.attention = true ∧ (s.slot i).fn = 5 ∧ ∀ j, j < i → (s.slot j).fn ≠ 5)) then 1
    else 0

/-- R68, R74, R75, R79, R85, R92, R94, R115, R125: what the entry to FAULT by an error brings: `k` is the error's counter, and `flushed`
how many writes the error's settlement leaves in the queue. -/
structure State.EntersFault (s : State) (k : Counter) (flushed : Nat) (t : State) : Prop where
  link : t.blk.link = .fault ∧ t.blk.rate = .k250 ∧ t.blk.consecutive = 0 ∧ t.blk.retryTimer = some 0 ∧ t.blk.retryDue = false
  polls : t.psc = ⟨List.replicate 12 0, List.replicate 12 0, []⟩
  error : t.counters.get k = min (s.counters.get k + 1) 255
  discarded : t.counters.get .writeDiscard = min (s.counters.get .writeDiscard + flushed) 255
  /-- a waiting detach request ends -/
  latch : t.dlu = (if s.dlu.state = .requested then
      { s.dlu with state := .latched, requestTimer := none, button := .unknown, holdTimer := none }
    else { s.dlu with button := .unknown, holdTimer := none })
  aborted : s.dlu.state = .requested → t.upq.Holds (.detach .aborted none .requested .latched s.pins.lsns s.posture)
  /-- BASE_FAULT is told, behind the error's counter where that reaches 255, and before the write discard counter where that does
  (notes/assumptions/24.md) -/
  told :
    let events := s.upq.events ((if s.counters.get k = 254 then [.counterSaturated] else []) ++ [.baseFault] ++
      (if s.counters.get .writeDiscard < 255 ∧ 255 ≤ s.counters.get .writeDiscard + flushed then [.counterSaturated] else []))
    (s.dlu.state ≠ .requested → t.upq = events) ∧
    (s.dlu.state = .requested → ∀ code count, t.upq.Holds (.event code count) ↔ events.Holds (.event code count))

/-! ### A request at the head of the down buffer -/

/-- R182: the head of the down buffer is `f`, with `rest` behind it, and it can be carried out: one of the two reply places is
free, and no HUB_RESET with scope ALL has been answered (R190). -/
def State.offers (s : State) (f : DownFrame) (rest : List DownFrame) : Prop :=
  s.slk.down = f :: rest ∧ s.upq.placesTaken < 2 ∧ s.slk.resetAll = .idle

/-- R182: the frame has left the buffer, and its reply place is claimed. -/
def State.taken (s : State) (rest : List DownFrame) : State :=
  { s with slk.down := rest, upq.placesTaken := s.upq.placesTaken + 1 }

/-- The reply entry of a request (R183). -/
def replyEntry (kind : Byte) (code : ReplyCode) (data : List Byte) : Entry := ⟨.reply ⟨kind, code, data, false⟩, false⟩

/-- A request's reply at the tail of the upward queue, and nothing else changed. -/
def State.replied (s : State) (kind : Byte) (code : ReplyCode) (data : List Byte) : State :=
  { s with upq := { s.upq with entries := s.upq.entries ++ [replyEntry kind code data] } }

/-- R184, R186: the rows from `first` on, `count` of them, lie within a table. -/
def TableId.holds (k : TableId) (first count : Nat) : Prop :=
  1 ≤ count ∧ k.firstRow ≤ first ∧ first + count ≤ k.lastRow + 1

/-! ### What every step keeps -/

/-- Every table. -/
def TableId.all : List TableId := [.route, .posture, .schedule, .channel, .charge, .policy]

/-- The tables that await swap: each holds a reply place (R182, R185). -/
def State.awaitingTables (s : State) : Nat := TableId.all.countP fun t => (s.tables.get t).awaiting

/-- The entry at the head of the upward queue, when it has started transmission (R109). -/
def Upq.headStarted (u : Upq) : Bool := (u.entries.head?.map Entry.started).getD false

/-- The upward queue's bounds (R105 to R107, R109, R182). -/
structure State.QueueOk (s : State) : Prop where
  /-- at most 22 base reports -/
  reports : s.upq.reports ≤ Config.maxReports
  /-- at most one notice of each kind -/
  notices : ∀ k, s.upq.notices k ≤ 1
  /-- a place is taken for each reply in the queue and for each commit that awaits its swap -/
  places : s.upq.placesTaken = s.upq.replies + s.awaitingTables
  /-- there are two places -/
  room : s.upq.placesTaken ≤ Config.replyPlaces
  /-- only the head may have started -/
  started : ∀ e ∈ s.upq.entries.tail, e.started = false
  /-- the transmitter is sending exactly when the head has started -/
  sending : s.slk.tx.isSome = s.upq.headStarted
  /-- follow-on notices differ in kind -/
  followOn : s.upq.followOn.Pairwise fun m n => m.kind ≠ n.kind
  /-- a follow-on notice waits behind one of its kind in transmission -/
  behind : ∀ m ∈ s.upq.followOn, ∃ e ∈ s.upq.entries, e.isNotice m.kind = true ∧ e.started = true

/-- Whether an image passes its owner's validation (R2, R40, R83, R100, R134, R168). -/
def validImage (t : TableId) (img : Image) : Bool := firstBadRow t img == none

/-- Only validated images ever take effect (R185). -/
structure State.ImagesOk (s : State) : Prop where
  /-- every active image passes its owner's validation -/
  active : ∀ t, validImage t (s.tables.get t).active = true
  /-- so does the pending image of every table that awaits swap -/
  awaiting : ∀ t, (s.tables.get t).awaiting = true → validImage t (s.tables.get t).pending = true
  /-- ROUTE and POLICY never wait: they swap at the commit (R100, R168) -/
  atOnce : (s.tables.get .route).awaiting = false ∧ (s.tables.get .policy).awaiting = false

/-- The posture is DETACHED exactly while the base link is ABSENT (R42). -/
structure State.PostureOk (s : State) : Prop where
  detached : s.posture = .detached ↔ s.blk.link = .absent

/-- The latch unit's outputs and timers follow its state (R113, R116, R122, R124, R166). -/
structure State.LatchOk (s : State) : Prop where
  /-- LDRV is driven in RELEASING alone -/
  ldrv : s.dlu.ldrv = decide (s.dlu.state = .releasing)
  request : s.dlu.requestTimer.isSome = decide (s.dlu.state = .requested)
  pulse : s.dlu.pulseTimer.isSome = decide (s.dlu.state = .releasing)
  window : s.dlu.windowTimer.isSome = decide (s.dlu.state = .released)
  /-- the release source is known in RELEASING and RELEASED alone -/
  source : s.dlu.source.isSome = decide (s.dlu.state = .releasing ∨ s.dlu.state = .released)
  /-- the hold timer runs only while the button is known to be pressed -/
  hold : s.dlu.holdTimer.isSome = true → s.dlu.button = .pressed
  /-- the timed-out mark is clear in ABSENT -/
  absent : s.dlu.state = .absent → s.dlu.timedOut = false
  /-- the latch holds a claim in RELEASING alone -/
  claim : s.dlu.state ≠ .releasing → s.spm.latchClaim = 0

/-- The coil driver follows the charger and the blanking (R128, R135). -/
structure State.DriverOk (s : State) : Prop where
  running : s.pch.driver.running = (s.pch.state.drives && !decide (s.pch.blanking = .inForce))
  /-- a stopped driver has period number 0 -/
  stopped : s.pch.driver.running = false → s.pch.driver.periodNo = 0
  /-- the CHARGE table awaits swap only while the driver runs (R135) -/
  swap : s.tables.charge.awaiting = true → s.pch.driver.running = true

/-- The converter makes one conversion at a time, and converts a blank-coil channel only with the blanking in force, which slot S asks
for before such a scan and releases after its last such channel (R3, R4, R6 to R8, R10 to R12). -/
structure State.ConverterOk (s : State) : Prop where
  /-- a scan converts only while slot C does not -/
  scanning : s.cnv.slotS = .scanning → s.cnv.slotC = .idle
  /-- a scan is READY only while slot C converts -/
  ready : s.cnv.slotS = .ready → s.cnv.slotC = .converting
  /-- channels are still to convert exactly while a scan is under way -/
  todo : s.cnv.todo = [] ↔ s.cnv.slotS = .idle
  /-- a request is postponed or made only for a blank-coil channel -/
  asks : s.cnv.slotS = .deferring ∨ s.cnv.slotS = .blankWait → s.needsBlanking s.cnv.todo = true
  /-- a request is postponed only in DATA -/
  deferring : s.cnv.slotS = .deferring → s.bcd.decoder = .data
  requested : s.pch.blanking = .requested ↔ s.cnv.slotS = .blankWait
  /-- the blanking is in force exactly while a scan that may convert has a blank-coil channel still to convert -/
  inForce : s.pch.blanking = .inForce ↔
    (s.cnv.slotS = .ready ∨ s.cnv.slotS = .scanning) ∧ s.needsBlanking s.cnv.todo = true
  /-- a held trigger waits with slot C in IDLE, for the end of a scan or for the swap -/
  held : s.cnv.held.isSome = true → s.cnv.slotC = .idle
  forScan : s.cnv.held = some .forScan → s.cnv.slotS = .scanning
  forSwap : s.cnv.held = some .forSwap ∨ s.cnv.recorded = true → s.tables.channel.awaiting = true

/-- The duty lies within what period and dead band allow, and in IDENT and CHARGE within the range of the stage in force (R129, R135,
R142 to R144). -/
structure State.DutyOk (s : State) : Prop where
  period : s.pch.driver.period = s.chg.period ∧ s.pch.driver.periodB = s.chg.period
  dead : s.pch.driver.dead = s.chg.deadBand ∧ s.pch.driver.deadB = s.chg.deadBand
  duty : s.pch.driver.duty ≤ s.chg.period - 2 * s.chg.deadBand
  dutyB : s.pch.driver.dutyB ≤ s.chg.period - 2 * s.chg.deadBand
  /-- the buffered duty lies within the range of the stage in force for a regulation step -/
  buffered : s.pch.state.drives = true →
    (s.stage s.stageInForce).dutyMin ≤ s.pch.driver.dutyB ∧ s.pch.driver.dutyB ≤ (s.stage s.stageInForce).dutyMax
  /-- R129: in CHARGE the duty in effect lies within the range of the pen record's stage -/
  charging : ∀ i, s.pch.state = .charge → s.pch.pen.bind PenRecord.stage = some i →
    i < s.chg.stageCount ∧ (s.stage i).dutyMin ≤ s.pch.driver.duty ∧ s.pch.driver.duty ≤ (s.stage i).dutyMax
  /-- an entry or a change of stage waits only while the driver runs, for a stage within the stage count -/
  waits : ∀ w, s.pch.waiting = some w → s.pch.driver.running = true ∧ w.stage < s.chg.stageCount

/-- The charger's state fixes what runs beside it (R136 to R139, R146 to R153). -/
structure State.ChargerOk (s : State) : Prop where
  /-- outside OFF there is a pen and charging is enabled -/
  on : s.pch.state ≠ .off → s.pch.enable = true ∧ s.pch.pen.isSome = true
  /-- no pause reason holds in WAIT, IDENT and CHARGE -/
  active : s.pch.state = .wait ∨ s.pch.state.drives = true → s.pch.pauses.none = true
  /-- some pause reason holds in PAUSED -/
  paused : s.pch.state = .paused → s.pch.pauses.none = false
  waitTimer : s.pch.waitTimer.isSome = decide (s.pch.state = .wait)
  burstTimer : s.pch.burstTimer.isSome = true → s.pch.state = .ident ∧ s.pch.waiting = none
  packetTimer : s.pch.packetTimer.isSome = decide (s.pch.state = .charge)
  recheckTimer : s.pch.recheckTimer.isSome = decide (s.pch.state = .done)
  faultReason : s.pch.faultReason.isSome = decide (s.pch.state = .fault)
  /-- a stage change waits only in CHARGE, and an entry to CHARGE only in IDENT -/
  waiting : ∀ w, s.pch.waiting = some w → s.pch.state = if w.entry then .ident else .charge
  /-- the capture unit is OFF outside IDENT and CHARGE -/
  capture : (s.bcd.mode = .off) ↔ s.pch.state.drives = false
  /-- it measures resonance in IDENT alone, before any entry waits -/
  resonance : s.bcd.mode = .resonance → s.pch.state = .ident ∧ s.pch.waiting = none
  /-- the pen record names a stage in CHARGE -/
  stage : s.pch.state = .charge → (s.pch.pen.bind PenRecord.stage).isSome = true

/-- The pen claim and the pause reasons follow what they are computed from (R15, R147, R165, R173). -/
structure State.PausesOk (s : State) : Prop where
  /-- R165: the pen claim is computed from the rest of the budget record -/
  claim : s.spm.penClaim = s.spm.claim
  thermal : s.pch.pauses.thermal = decide (s.cnv.window 2 = .outside)
  supply : s.pch.pauses.supply = decide (s.cnv.window 1 = .outside)
  budget : s.pch.pauses.budget = (decide (s.spm.penClaim < 10) && decide (s.spm.latchClaim = 0))
  latch : s.pch.pauses.latch = (decide (s.spm.penClaim < 10) && decide (0 < s.spm.latchClaim))
  sleep : s.pch.pauses.sleep = s.sleepWanted

/-- Every reader's copy of a sense follows the converter's window (R15, R43, R137, R138, R169). -/
structure State.SensesOk (s : State) : Prop where
  windows : s.cnv.windows.length = Config.channels
  hallF : s.pae.hallF = s.active 3
  hallR : s.pae.hallR = s.active 4
  lid : s.spm.hallF = s.active 3
  /-- a pen record is held exactly while GARAGE_P is active -/
  pen : s.pch.pen.isSome = s.active 5

/-- System state, hub power state and link state fit together (R76, R169, R172 to R176). -/
structure State.PowerOk (s : State) : Prop where
  /-- the hub leaves RUN in ASLEEP alone -/
  run : s.spm.hub = .run ↔ s.spm.system ≠ .asleep
  requested : s.spm.requested.isSome = decide (s.spm.system = .asleep)
  target : s.spm.target.isSome = decide (s.spm.system = .asleep)
  /-- a clock start is in progress in DEEP alone -/
  clock : s.spm.clock.isSome = true → s.spm.hub = .deep
  /-- LISTEN is RUNNING in DEEP -/
  listen : s.blk.link = .listen → s.spm.hub = .deep
  running : s.spm.hub = .deep → s.blk.link ≠ .running
  quiet : s.spm.hub = .deep → s.blk.txn = none ∧ s.psc.writes = []
  /-- WAKE# is low exactly while its timer runs -/
  wakeLow : s.spm.wakeLow = s.spm.wakeTimer.isSome

/-- The base link's own record fits its state (R56, R69, R75, R85, R92). -/
structure State.LinkOk (s : State) : Prop where
  /-- a base record is held in RUNNING and LISTEN -/
  record : s.blk.link = .running ∨ s.blk.link = .listen → s.blk.record.isSome = true
  /-- the base record is absent in ABSENT, ATTACHING and IDENTIFY -/
  noRecord : s.blk.link = .absent ∨ s.blk.link = .attaching ∨ s.blk.link = .identify → s.blk.record = none
  /-- outside RUNNING and LISTEN the rate is 250 kbit/s -/
  rate : s.blk.link ≠ .running → s.blk.link ≠ .listen → s.blk.rate = .k250
  /-- the retry timer runs, and a retry is due, in FAULT alone -/
  retry : s.blk.retryTimer.isSome = true ∨ s.blk.retryDue = true → s.blk.link = .fault
  /-- writes wait, and polls are owed, in RUNNING alone -/
  owed : s.blk.link ≠ .running → s.psc.writes = [] ∧ s.psc.owed = List.replicate Config.slots 0
  /-- an ID read is in flight in IDENTIFY or FAULT, a poll or a write in RUNNING, and then no low is timed -/
  txn : ∀ t, s.blk.txn = some t →
    s.blk.low = none ∧ if t.fn = .id then s.blk.link = .identify ∨ s.blk.link = .fault else s.blk.link = .running

/-- An axis value within the range of R20 and R21. -/
def axisOk (z : Int) : Prop := -8191 ≤ z ∧ z ≤ 8191

/-- Three axis values within the range of R20 and R21. -/
def axesOk (a : Axes) : Prop := axisOk a.x ∧ axisOk a.y ∧ axisOk a.z

/-- The engine's angles, samples and ages lie in their ranges (R20 to R24, R27, R29, R31). -/
structure State.AnglesOk (s : State) : Prop where
  theta : ∀ x, s.pae.hinge.theta = some x → x < 360
  phiB : ∀ x, s.pae.hinge.phiB = some x → x < 360
  phiL : ∀ x, s.pae.phiL = some x → x < 360
  psi : ∀ x, s.pae.psi = some x → x < 360
  /-- the hinge record holds its two angles exactly when its status is not NONE -/
  thetaHeld : s.pae.hinge.theta = none ↔ s.pae.hinge.status = .noAngle
  phiBHeld : s.pae.hinge.phiB = none ↔ s.pae.hinge.status = .noAngle
  lid : ∀ a, s.pae.lidFilter = some a → axesOk a
  base : ∀ a, s.pae.baseFilter = some a → axesOk a
  lastLid : ∀ a, s.pae.lastLid = some a → axesOk a
  lidAge : ∀ n, s.pae.lidAge = some n → n ≤ 255
  baseAge : ∀ n, s.pae.baseAge = some n → n ≤ 255
  evaluatedLidAge : ∀ n, s.pae.evaluatedLidAge = some n → n ≤ 255
  evaluatedBaseAge : ∀ n, s.pae.evaluatedBaseAge = some n → n ≤ 255

/-- The scheduler's counts and the write queue lie in their bounds (R85, R87, R92, R93). -/
structure State.PollsOk (s : State) : Prop where
  owedSlots : s.psc.owed.length = Config.slots
  dueSlots : s.psc.due.length = Config.slots
  /-- a slot within the slot count is owed at most its max owed, and no other slot is owed anything -/
  owed : ∀ i, s.owed i ≤ if i < s.sched.slotCount then (s.slot i).maxOwed else 0
  writes : s.psc.writes.length ≤ Config.writePlaces
  data : ∀ w ∈ s.psc.writes, (w.fn = .light ∨ w.fn = .indicator) ∧ w.data.length ≤ 32

/-- Every event counter lies in 0..255 (R17, R20, R66, R94, R97, R103, R160, R181, R182). -/
structure State.CountersOk (s : State) : Prop where
  counters : ∀ k, s.counters.get k ≤ Config.counterMax
  check : ∀ p, s.pch.pen = some p → p.check ≤ Config.counterMax
  violation : ∀ p, s.pch.pen = some p → p.violation ≤ Config.counterMax

end Sys2Proof.Machine
end

