-- ==== Sys2Proof/Certificates/Slice0/Obligations.lean ====
section
/-!
DEFINITION. The statements for the provers: what the manual's rules say the machine does, block by block. Commands that the world
cannot bring in a state change nothing (notes/assumptions/2.md); the hypotheses say when a command's occurrence takes place.
-/

open Sys2Proof Sys2Proof.Machine

/-! ### The machine -/

/-- A step takes the command at the front of the queue and carries it out with the queue's rest. -/
def Obligations.StepTakesTheFrontCommand : Prop :=
  ∀ (s : State) (c : Instr) (rest : List Instr), s.pending = c :: rest → step s = exec c { s with pending := rest }

/-- On an empty queue one drive tick passes: DESIGN CHOICE, notes/assumptions/1.md. Outside DEEP the two free-running counts of
R154 and R155 advance (32 drive ticks are 1 µs) and a running driver moves on in its period; in DEEP the main clock stands still
(R174). Nothing else changes. -/
def Obligations.IdleStepIsOneDriveTick : Prop :=
  ∀ s : State, s.pending = [] →
    (s.spm.hub = .deep → step s = .next s) ∧
    (s.spm.hub ≠ .deep → ∃ t, step s = .next t ∧ s.OnlyIn [.pch, .bcd] t ∧
      t.bcd = { s.bcd with
        driveCount := s.bcd.driveCount + 1
        subMicro := if s.bcd.subMicro = 31 then 0 else s.bcd.subMicro + 1
        microCount := if s.bcd.subMicro = 31 then s.bcd.microCount + 1 else s.bcd.microCount } ∧
      t.pch = { s.pch with driver := { s.pch.driver with
        position := if s.pch.driver.running then min (s.pch.driver.position + 1) (s.pch.driver.period - 1)
                    else s.pch.driver.position } })

/-- No command touches the commands that wait behind it.
The model's choices in it: notes/assumptions/1.md. -/
def Obligations.NoCommandTouchesTheQueue : Prop :=
  ∀ (c : Instr) (s t : State), exec c s = .next t → t.pending = s.pending

/-- Every command completes in every state but DUE_TIME for a slot number that the SCHEDULE table does not have (slots are numbered
0 to 11), which stops.
The model's choices in it: notes/assumptions/2.md, notes/assumptions/36.md. -/
def Obligations.OnlyAMissingSlotStops : Prop :=
  ∀ s : State,
    (∀ c : Instr, c.wellFormed = true → ∃ t, exec c s = .next t) ∧
    (∀ n : Nat, 12 ≤ n → exec (.dueTime n) s = .fault .noSuchSlot)

/-- What the counters of R17, R20, R66, R94, R97, R103, R181 and R182 do when `n` occurrences are counted: the counter rises by
`n` and saturates at 255, the others stay, and an EVENT notice COUNTER_SATURATED is queued when it reaches 255, once. -/
def Obligations.CountersSaturateAndTellOnce : Prop :=
  ∀ (s : State) (k : Counter) (n : Nat),
    (s.bumpBy k n).counters.get k = min (s.counters.get k + n) 255 ∧
    (∀ j, j ≠ k → (s.bumpBy k n).counters.get j = s.counters.get j) ∧
    (s.counters.get k < 255 → 255 ≤ s.counters.get k + n →
      (s.bumpBy k n).upq = s.upq.issue (.event .counterSaturated s.upq.nextEventCount)) ∧
    (255 ≤ s.counters.get k ∨ s.counters.get k + n < 255 → (s.bumpBy k n).upq = s.upq) ∧
    s.OnlyIn [.counters, .upq] (s.bumpBy k n)

/-! ### The converter -/

/-- S_TRIGGER, when the scan timer has reached the period of the hub power state (R5): the count returns to 0, and the trigger acts
by the state of slot S (R3, R6, R10, R11). A scan with an empty set completes at once and changes nothing more (R7).

R7: a scan's channel set is the DEEP scan set in DEEP and the in-scan channels in RUN and DOZE, with VREF (channel 7) added
while the converter fault is set; its channels are converted in increasing order. R5, R10: the scan period is the active image's for
the hub power state, and a set needs blanking when one of its channels has the blank-coil flag. -/
def Obligations.STriggerStartsAScanOfItsSet : Prop :=
  (∀ s : State, s.scanPeriod ≤ s.cnv.scanTimer →
     exec .sTrigger s = .next ({ s with cnv.scanTimer := 0 } : State).takeS) ∧
  (∀ s : State,
     let started : State := { s with cnv.todo := s.scanSet, cnv.readings := [], cnv.scanTicks := 0 }
     (s.cnv.slotS ≠ .idle → s.takeS = s.bump .mergedS) ∧
     (s.cnv.slotS = .idle → s.tables.channel.awaiting = true → s.takeS = { s with cnv.recorded := true }) ∧
     (s.cnv.slotS = .idle → s.tables.channel.awaiting = false → s.scanSet = [] → s.takeS = s) ∧
     (s.cnv.slotS = .idle → s.tables.channel.awaiting = false → s.scanSet ≠ [] → s.needsBlanking s.scanSet = false →
       s.takeS = { started with
         cnv.slotS := if s.cnv.slotC = SlotC.idle then SlotS.scanning else SlotS.ready }) ∧
     (s.cnv.slotS = .idle → s.tables.channel.awaiting = false → s.scanSet ≠ [] → s.needsBlanking s.scanSet = true →
       s.bcd.decoder = .data → 0 < s.chan.deferLimit → s.takeS = { started with cnv.slotS := .deferring }) ∧
     (s.cnv.slotS = .idle → s.tables.channel.awaiting = false → s.scanSet ≠ [] → s.needsBlanking s.scanSet = true →
       (s.bcd.decoder ≠ .data ∨ s.chan.deferLimit = 0) →
       s.takeS = { started with
         cnv.slotS := .blankWait
         pch.blanking := if s.pch.blanking = .idle then .requested else s.pch.blanking })) ∧
  (∀ s : State,
     (∀ ch, ch ∈ s.scanSet ↔ ch < 8 ∧
       ((s.spm.hub = .deep ∧ s.chan.deepSet.getLsbD ch = true) ∨ (s.spm.hub ≠ .deep ∧ (s.chanRow ch).inScan = true) ∨
         (ch = 7 ∧ s.cnv.fault = true))) ∧
     s.scanSet.Pairwise (· < ·) ∧
     (s.spm.hub = .run → s.scanPeriod = s.chan.periodRun) ∧ (s.spm.hub = .doze → s.scanPeriod = s.chan.periodDoze) ∧
     (s.spm.hub = .deep → s.scanPeriod = s.chan.periodDeep) ∧
     (∀ chs, s.needsBlanking chs = true ↔ ∃ ch, ch ∈ chs ∧ (s.chanRow ch).blankCoil = true))

/-- BLANK_DEFER_LIMIT (R11) when the limit runs out in DATA: the request is made, slot S waits for the blanking, and the count of
forced blankings rises. BLANKING_GRANT (R10, R130) while the driver is stopped: blanking is in force, slot S goes on to its
conversions when the core is free, and a resonance measurement starts afresh.
The model's choices in it: notes/assumptions/4.md. -/
def Obligations.BlankingIsForcedAndGranted : Prop :=
  ∀ s : State,
    (s.cnv.slotS = .deferring → s.bcd.decoder = .data → s.chan.deferLimit ≤ s.cnv.scanTicks →
      exec .blankDeferLimit s = .next (({ s with
        cnv.slotS := .blankWait
        pch.blanking := if s.pch.blanking = .idle then .requested else s.pch.blanking } : State).bump .forcedBlank)) ∧
    (s.pch.blanking = .requested → s.pch.driver.running = false →
      exec .blankingGrant s = .next { s with
        pch.blanking := .inForce
        cnv.slotS :=
          if s.cnv.slotS = .blankWait then (if s.cnv.slotC = .idle then .scanning else .ready) else s.cnv.slotS
        bcd.edges := if s.bcd.mode = .resonance then 0 else s.bcd.edges
        bcd.startStamp := if s.bcd.mode = .resonance then none else s.bcd.startStamp })

/-- C_TRIGGER (R8, R3, R131): at the compare event of the running driver's Nth period the trigger starts a conversion, is held, or
is dropped and counted, by the state of the two slots, the policy and a CHANNEL table that awaits swap.
The model's choices in it: notes/assumptions/29.md. -/
def Obligations.CTriggerActsByBothSlots : Prop :=
  ∀ s : State, s.pch.driver.running = true → s.pch.driver.periodNo = s.chg.divider → s.pch.driver.compared = false →
    let u : State :=
      { s with pch.driver.position := max s.pch.driver.position (s.pch.driver.duty / 2), pch.driver.compared := true }
    (s.cnv.slotC = .converting ∨ s.cnv.held ≠ none → exec .cTrigger s = .next (u.bump .droppedC)) ∧
    (s.cnv.slotC = .idle → s.cnv.held = none → s.tables.channel.awaiting = true →
      exec .cTrigger s = .next { u with cnv.held := some .forSwap }) ∧
    (s.cnv.slotC = .idle → s.cnv.held = none → s.tables.channel.awaiting = false → s.cnv.slotS = .scanning →
      s.chan.policy = .ignore → exec .cTrigger s = .next (u.bump .droppedC)) ∧
    (s.cnv.slotC = .idle → s.cnv.held = none → s.tables.channel.awaiting = false → s.cnv.slotS = .scanning →
      s.chan.policy = .hold → exec .cTrigger s = .next { u with cnv.held := some .forScan }) ∧
    (s.cnv.slotC = .idle → s.cnv.held = none → s.tables.channel.awaiting = false → s.cnv.slotS ≠ .scanning →
      exec .cTrigger s = .next { u with cnv.slotC := .converting })

/-- SLOT_C_CONVERSION_END (R9, R6) and the regulation that follows (R145): both readings are stored with the time, slot C is idle,
and a READY scan takes the core. Outside IDENT and CHARGE the charger ignores the result. In them a current of at most twice the
limit writes the duty again and clears the over-current count; a larger one lowers the duty by a step, clamped (R144). The fault
stops the driver, with the CHARGE swap that a stop brings (R135). -/
def Obligations.SlotCResultRegulatesTheCoil : Prop :=
  ∀ (s : State) (i v : Fin 4096), s.cnv.slotC = .converting →
    let limit := min (s.stage s.stageInForce).currentLimit s.spm.penClaim
    let stored : Cnv :=
      { s.cnv with
        slotC := .idle, resultC := ⟨some i.val, some v.val, s.ticks⟩
        slotS := if s.cnv.slotS = SlotS.ready then SlotS.scanning else s.cnv.slotS }
    let lower := s.clampDuty s.stageInForce (s.pch.driver.dutyB - s.chg.dutyStep)
    (s.pch.state.drives = false → exec (.slotCConversionEnd i v) s = .next { s with cnv := stored }) ∧
    (s.pch.state.drives = true → i.val ≤ 2 * limit →
      exec (.slotCConversionEnd i v) s = .next { s with
        cnv := stored
        pch := { s.pch with driver := s.pch.driver.writeDuty s.pch.driver.dutyB, stepped := true, overcurrent := 0 } }) ∧
    (s.pch.state.drives = true → 2 * limit < i.val → s.pch.driver.dutyB ≠ (s.stage s.stageInForce).dutyMin →
      exec (.slotCConversionEnd i v) s = .next { s with
        cnv := stored
        pch := { s.pch with driver := s.pch.driver.writeDuty lower, stepped := true, overcurrent := 0 } }) ∧
    (s.pch.state.drives = true → 2 * limit < i.val → s.pch.driver.dutyB = (s.stage s.stageInForce).dutyMin →
      s.pch.overcurrent + 1 < s.chg.persistence →
      exec (.slotCConversionEnd i v) s = .next { s with
        cnv := stored
        pch := { s.pch with
          driver := s.pch.driver.writeDuty lower, stepped := true, overcurrent := s.pch.overcurrent + 1 } }) ∧
    (s.pch.state.drives = true → 2 * limit < i.val → s.pch.driver.dutyB = (s.stage s.stageInForce).dutyMin →
      s.chg.persistence ≤ s.pch.overcurrent + 1 →
      ∃ t, exec (.slotCConversionEnd i v) s = .next t ∧ t.pch.state = .fault ∧ t.pch.faultReason = some .overcurrent ∧
        t.cnv.resultC = stored.resultC ∧ t.bcd.mode = .off ∧ t.pch.driver.running = false ∧ s.Stopped t ∧
        s.OnlyIn [.tables, .cnv, .pch, .bcd, .spm, .upq] t)

/-- CHANNEL_CONVERSION_END (R7, R12, R13 to R16): every conversion but a scan's last adds its reading and goes on to the next channel. The
last stores every reading of the scan with the time, and slot S is idle; VREF is judged; unless the converter fault is then set,
every reading moves its window, and the readers of each channel whose window state changed are informed, one after the other in
channel order; a C trigger held for the scan's end is served last. The blanking is released after the last blank-coil channel.

R14 to R16 in the words of their cases: how one reading moves a window state and its debounce counter, which channels take part, what
a VREF reading does to the converter fault, and what each channel's readers are told. R8, R9: a held trigger that is served starts a
conversion while the driver runs, and is dropped and counted otherwise.
The model's choices in it: notes/assumptions/24.md, notes/assumptions/38.md. -/
def Obligations.ScanCompletesAndIsJudged : Prop :=
  (∀ (s : State) (ch : Nat) (rest : List Nat) (code : Fin 4096), s.cnv.slotS = .scanning → s.cnv.todo = ch :: rest →
     let all := s.cnv.readings ++ [(ch, code.val)]
     let release := (s.chanRow ch).blankCoil && !s.needsBlanking rest
     let pch : Pch := if release then ({ s.pch with blanking := .idle } : Pch).settle else s.pch
     (rest ≠ [] →
       exec (.channelConversionEnd code) s = .next { s with
         cnv := { s.cnv with todo := rest, readings := all }
         pch := pch }) ∧
     (rest = [] →
       let stored : State := { s with
         pch := pch
         cnv := { s.cnv with
           slotS := .idle, todo := [], readings := []
           resultS := all.foldl (fun r p => r.set p.1 ⟨some p.2, s.ticks⟩) s.cnv.resultS } }
       let judged : State := stored.judgeVref ((all.find? fun p => p.1 == 7).map (·.2))
       let updated : State := all.foldl (fun u p => u.updateWindow p.1 p.2) judged
       let told : State :=
         if judged.cnv.fault then judged
         else updated.informAll ((List.range 8).filter fun c => judged.cnv.window c != updated.cnv.window c)
       let t : State := if told.cnv.held = some .forScan then told.serveHeld else told
       exec (.channelConversionEnd code) s = .next t ∧
       t.cnv.slotS = .idle ∧ t.cnv.todo = [] ∧ t.cnv.readings = [] ∧
       t.cnv.resultS = stored.cnv.resultS ∧ t.cnv.resultC = s.cnv.resultC ∧ t.cnv.fault = judged.cnv.fault ∧
       (judged.cnv.fault = true → t.cnv.windows = s.cnv.windows ∧ t.cnv.debounce = s.cnv.debounce) ∧
       (judged.cnv.fault = false → t.cnv.windows = updated.cnv.windows ∧ t.cnv.debounce = updated.cnv.debounce) ∧
       s.TablesStand t ∧ s.OnlyIn [.counters, .tables, .cnv, .pae, .pch, .bcd, .spm, .upq] t)) ∧
  ((∀ (row : ChannelRow) (state : WindowState) (count reading : Nat),
     let side : WindowState := if row.low ≤ reading ∧ reading ≤ row.high then .inside else .outside
     (state = .unset → debounceStep row state count reading = (side, 0)) ∧
     (state = side → debounceStep row state count reading = (state, 0)) ∧
     (state ≠ .unset → state ≠ side → count + 1 < row.debounce →
       debounceStep row state count reading = (state, count + 1)) ∧
     (state ≠ .unset → state ≠ side → row.debounce ≤ count + 1 → debounceStep row state count reading = (side, 0))) ∧
   (∀ (s : State) (ch v : Nat),
     (ch = 7 ∨ (s.chanRow ch).mode = .off → s.updateWindow ch v = s) ∧
     (ch ≠ 7 → (s.chanRow ch).mode ≠ .off →
       let moved := debounceStep (s.chanRow ch) (s.cnv.window ch) (s.cnv.debounce.getD ch 0) v
       s.updateWindow ch v =
         { s with cnv.windows := s.cnv.windows.set ch moved.1, cnv.debounce := s.cnv.debounce.set ch moved.2 })) ∧
   (∀ s : State, s.judgeVref none = s) ∧
   (∀ (s : State) (v : Nat), (s.chanRow 7).mode = .off → s.judgeVref (some v) = s) ∧
   (∀ (s : State) (v : Nat), (s.chanRow 7).mode ≠ .off →
     let out := v < (s.chanRow 7).low ∨ (s.chanRow 7).high < v
     (out → s.cnv.fault = true → s.judgeVref (some v) = s) ∧
     (out → s.cnv.fault = false →
       s.judgeVref (some v) = ({ s with cnv.fault := true } : State).event .converterFault) ∧
     (¬out → s.cnv.fault = true →
       s.judgeVref (some v) = { s with cnv.fault := false, cnv.debounce := List.replicate 8 0 }) ∧
     (¬out → s.cnv.fault = false → s.judgeVref (some v) = s))) ∧
  (∀ s : State,
     (∀ chs, s.informAll chs = chs.foldl State.inform s) ∧
     (∀ ch, s.active ch = true ↔
       ((s.chanRow ch).mode = .inside ∧ s.cnv.window ch = .inside) ∨
         ((s.chanRow ch).mode = .outside ∧ s.cnv.window ch = .outside)) ∧
     s.inform 1 = s.setPauses { s.pch.pauses with supply := decide (s.cnv.window 1 = .outside) } ∧
     s.inform 2 = s.setPauses { s.pch.pauses with thermal := decide (s.cnv.window 2 = .outside) } ∧
     s.inform 3 =
       (let u : State := { s with pae.hallF := s.active 3, spm.hallF := s.active 3 }
        if s.spm.hallF = true ∧ s.active 3 = false then u.wakeSource .lidOpen else u) ∧
     s.inform 4 = { s with pae.hallR := s.active 4 } ∧
     s.inform 5 = (if s.active 5 then s.penInserted else s.penRemoved) ∧
     (∀ ch, ch = 0 ∨ 6 ≤ ch → s.inform ch = s) ∧
     s.serveHeld =
       (let u : State := { s with cnv.held := none }
        if s.pch.driver.running then { u with cnv.slotC := .converting } else u.bump .droppedC))

/-- CHANNEL_SWAP (R3), made when the converter is idle: the new image is active and the pending image its copy, the commit is
answered OK, window states stay but where the new mode is OFF, every debounce counter is 0, the scan timer keeps its count, and
the converter fault is cleared where VREF is no longer watched. The readers of each channel whose state or activity the swap
changed are informed (R15), one after the other in channel order; then a C trigger held for the swap is served, and a recorded S
trigger is taken.
The model's choices in it: notes/assumptions/24.md. -/
def Obligations.ChannelSwapKeepsWindows : Prop :=
  ∀ s : State, s.tables.channel.awaiting = true → s.converterIdle = true →
    let img := s.tables.channel.pending
    let u : State := { s with
      tables := { s.tables with channel := ⟨img, img, false⟩ }
      upq := s.upq.append (.reply ⟨0x41, .ok, [], false⟩)
      cnv := { s.cnv with
        windows := (List.range s.cnv.windows.length).map fun ch =>
          if (channelRow img ch).mode = .off then .unset else s.cnv.window ch
        debounce := List.replicate 8 0
        fault := s.cnv.fault && (channelRow img 7).mode != .off && (channelRow img 7).inScan } }
    let told := u.informAll ((List.range 8).filter fun ch =>
      (s.cnv.window ch != .unset && (channelRow img ch).mode == .off) || s.active ch != u.active ch)
    let served := if told.cnv.held = some .forSwap then told.serveHeld else told
    let t := if served.cnv.recorded then ({ served with cnv.recorded := false } : State).takeS else served
    exec .channelSwap s = .next t ∧
    (∀ ch, ch < s.cnv.windows.length →
      t.cnv.window ch = if (channelRow img ch).mode = .off then .unset else s.cnv.window ch) ∧
    t.cnv.debounce = List.replicate 8 0 ∧ t.cnv.scanTimer = s.cnv.scanTimer ∧
    (t.cnv.fault = true ↔ s.cnv.fault = true ∧ (channelRow img 7).mode ≠ .off ∧ (channelRow img 7).inScan = true) ∧
    (⟨.reply ⟨0x41, .ok, [], false⟩, false⟩ : Entry) ∈ t.upq.entries ∧
    t.cnv.resultS = s.cnv.resultS ∧ t.cnv.resultC = s.cnv.resultC ∧ t.cnv.recorded = false ∧
    u.TablesStand t ∧ s.OnlyIn [.counters, .tables, .cnv, .pae, .pch, .bcd, .spm, .upq] t

/-! ### The posture and angle engine -/

/-- The arctangent unit, R25 to R27 whole, with the table of R26 written out: the ratio and its range, the degree whose table entry is
nearest (a tie gives the larger), and the placing in one of the eight octants. -/
def Obligations.ArctangentFollowsItsTable : Prop :=
  let T : List Nat :=
    [0, 71, 143, 215, 286, 358, 431, 503, 576, 649, 722, 796, 871, 946, 1021, 1098, 1175, 1252, 1331, 1410, 1491, 1572, 1655,
     1739, 1824, 1910, 1998, 2087, 2178, 2270, 2365, 2461, 2559, 2660, 2763, 2868, 2976, 3087, 3200, 3317, 3437, 3561, 3688,
     3820, 3955, 4096]
  ∀ u v : Int,
    let au := u.natAbs
    let av := v.natAbs
    let q := min au av * 4096 / max au av
    (u = 0 → v = 0 → arctangent u v = none) ∧
    (u ≠ 0 ∨ v ≠ 0 →
      (au = av → q = 4096) ∧ (au ≠ av → q ≤ 4095) ∧
      (au ≤ 8191 → av ≤ 8191 → min au av * 4096 ≤ 33550336) ∧
      ∃ a, a ≤ 45 ∧ (q = 4096 → a = 45) ∧
        (∀ k, k ≤ 44 → T.getD k 0 ≤ q → q < T.getD (k + 1) 0 →
          a = if q - T.getD k 0 < T.getD (k + 1) 0 - q then k else k + 1) ∧
        (0 ≤ u → 0 < v → arctangent u v = some (if au ≤ av then a else 90 - a)) ∧
        (0 < u → v ≤ 0 → arctangent u v = some (if av ≤ au then 90 + a else 180 - a)) ∧
        (u ≤ 0 → v < 0 → arctangent u v = some (if au ≤ av then 180 + a else 270 - a)) ∧
        (u < 0 → 0 ≤ v → arctangent u v = some (if av ≤ au then 270 + a else if a = 0 then 0 else 360 - a)))

/-- POSTURE_PERIOD_TIMER_EXPIRY (R19): outside DEEP, when the count has reached the period of the hub power state or the hub has just
left DEEP, the count returns to 0 and a lid read starts. -/
def Obligations.PeriodExpiryStartsALidRead : Prop :=
  ∀ s : State, s.spm.hub ≠ .deep →
    (s.pae.expiryDue = true ∨ (if s.spm.hub = .run then s.post.periodRun else s.post.periodDoze) ≤ s.pae.periodTimer) →
    exec .posturePeriodTimerExpiry s = .next { s with pae.periodTimer := 0, pae.expiryDue := false, pae.lidRead := some 0 }

/-- LID_READ_COMPLETION, LID_READ_TIMEOUT and POSTURE_SWAP (R20, R22, R28): every way a lid read ends within its 2 ms is one posture
evaluation, whose steps are taken in their order: the POSTURE swap where it waits, the lid filter with the stale limit that stood
before, the directions of R25, then hinge record, classification, rotation, the angle report and the ages. A sample is clamped and
kept; a failure keeps the last sample, counts a port error, and the first of a run queues LSP_FAULT. At 2 ms the read can only fail;
at exactly 2 ms the sender decides (notes/assumptions/34.md), and later an ending brings nothing.

R36: step 7, the ANGLE notice. R54, R37: the swap clears the candidate, keeps the row or takes the first row of the posture, with its
permission, and stops or starts the angle report timer from 0. R31: the ages that QUERY reports are those the evaluation used, before
step 8 raised them.
The model's choices in it: notes/assumptions/3.md, notes/assumptions/23.md, notes/assumptions/24.md, notes/assumptions/27.md,
notes/assumptions/34.md, notes/assumptions/39.md. -/
def Obligations.LidReadEndsInAnEvaluation : Prop :=
  let evaluated (u : State) (sample : Option Axes) : State :=
    let swapped := if u.tables.posture.awaiting then u.swapPosture else u
    let filtered : State := match sample with
      | some a => { swapped with
          pae.lidFilter :=
            some (filterStep swapped.post.shift (young u.post.staleLimit swapped.pae.lidAge) swapped.pae.lidFilter a)
          pae.lidAge := some 0 }
      | none => swapped
    let turned : State := { filtered with
      pae.phiL := filtered.pae.lidFilter.bind fun f => arctangent f.y f.z
      pae.psi := filtered.pae.lidFilter.bind fun f => arctangent f.x f.y }
    turned.hingeStep.classify.rotate.angleStep.ageStep
  let frame (s t : State) : Prop :=
    t.tables.posture =
      (if s.tables.posture.awaiting then ⟨s.tables.posture.pending, s.tables.posture.pending, false⟩ else s.tables.posture) ∧
    ({ s with tables.posture := t.tables.posture } : State).TablesStand t ∧
    (s.tables.posture.awaiting = true → (⟨.reply ⟨0x41, .ok, [], false⟩, false⟩ : Entry) ∈ t.upq.entries) ∧
    s.OnlyIn [.counters, .tables, .cnv, .pae, .pch, .bcd, .dlu, .spm, .upq] t
  let failed (s t : State) : Prop :=
    let u : State := { s with pae.lidRead := none, pae.lidFailing := true }
    t = evaluated ((if s.pae.lidFailing then u else u.event .lspFault).bump .port) none ∧
    t.pae.lidRead = none ∧ t.pae.lidFailing = true ∧ t.pae.lastLid = s.pae.lastLid ∧ t.pae.lidFilter = s.pae.lidFilter ∧
    t.pae.lidAge = s.pae.lidAge.map (fun n => min (n + 1) 255) ∧
    t.pae.evaluatedLidAge = s.pae.lidAge ∧ t.pae.evaluatedBaseAge = s.pae.baseAge ∧
    t.counters.get .port = min (s.counters.get .port + 1) 255 ∧ frame s t
  let ended (s t : State) : LidEnding → Prop
    | .sample a =>
      let kept : Axes := ⟨max (-8191) (min 8191 a.x), max (-8191) (min 8191 a.y), max (-8191) (min 8191 a.z)⟩
      t = evaluated { s with pae.lidRead := none, pae.lidFailing := false, pae.lastLid := some kept } (some kept) ∧
      t.pae.lidRead = none ∧ t.pae.lidFailing = false ∧ t.pae.lastLid = some kept ∧ t.pae.lidAge = some 1 ∧
      t.pae.evaluatedLidAge = some 0 ∧ t.pae.evaluatedBaseAge = s.pae.baseAge ∧
      t.counters = s.counters ∧ frame s t
    | .noAcknowledge => failed s t
    | .notReady => failed s t
  (∀ (s : State) (n : Nat), s.pae.lidRead = some n →
     (n ≤ 2 → ∀ e, ∃ t, exec (.lidReadCompletion e) s = .next t ∧ ended s t e) ∧
     (2 < n → ∀ e, exec (.lidReadCompletion e) s = .next s) ∧
     (2 ≤ n → ∃ t, exec .lidReadTimeout s = .next t ∧ failed s t) ∧
     (n < 2 → exec .lidReadTimeout s = .next s) ∧
     (s.tables.posture.awaiting = true →
       (n ≤ 2 → ∀ e, ∃ t, exec (.postureSwap (.completion e)) s = .next t ∧ ended s t e) ∧
       (2 ≤ n → ∃ t, exec (.postureSwap .limit) s = .next t ∧ failed s t))) ∧
  (∀ s : State,
     s.angleStep =
       (if 0 < s.post.anglePeriod ∧ s.post.anglePeriod ≤ s.pae.angleTimer then
         ({ s with pae.angleTimer := 0 } : State).notice
           (.angle s.pae.hinge.status s.pae.hinge.theta s.pae.hinge.phiB s.pae.psi s.posture)
       else s) ∧
     s.ageStep = { s with
       pae.evaluatedLidAge := s.pae.lidAge
       pae.evaluatedBaseAge := s.pae.baseAge
       pae.lidAge := s.pae.lidAge.map fun n => min (n + 1) 255
       pae.baseAge := s.pae.baseAge.map fun n => min (n + 1) 255 }) ∧
  (∀ s : State,
     let img := s.tables.posture.pending
     let count := (postureGlobals img).rowCount
     let row : Option Nat := s.swapPosture.pae.record.row
     s.swapPosture = { s with
       tables := { s.tables with posture := ⟨img, img, false⟩ }
       upq := s.upq.append (.reply ⟨0x41, .ok, [], false⟩)
       pae := { s.pae with
         candidate := none
         record := { s.pae.record with
           row := row
           permission := match row with
             | some r => (postureRow img r).detach
             | none => decide (s.posture = .tablet) }
         angleTimer := if s.post.anglePeriod = 0 ∨ (postureGlobals img).anglePeriod = 0 then 0 else s.pae.angleTimer } } ∧
     (∀ r, s.pae.record.row = some r → 1 ≤ r → r ≤ count → (postureRow img r).posture = s.posture → row = some r) ∧
     ((∀ r, s.pae.record.row = some r → ¬(1 ≤ r ∧ r ≤ count ∧ (postureRow img r).posture = s.posture)) →
       (∀ r, 1 ≤ r → r ≤ count → (postureRow img r).posture = s.posture →
         (∀ q, 1 ≤ q → q < r → (postureRow img q).posture ≠ s.posture) → row = some r) ∧
       ((∀ r, 1 ≤ r → r ≤ count → (postureRow img r).posture ≠ s.posture) → row = none)))

/-- Step 4 of an evaluation (R28 to R30): φ_B is the direction of the base filter's y and z. With a fresh result the record takes φ_B and
θ = (180 + φ_B - φ_L) mod 360; otherwise the record is empty while the link is ABSENT, a FRESH record is HELD with its values, and
any other stays.

R23: the difference of sample and state is divided by 2^k, the quotient rounded toward minus infinity and added to the state. So the
state moves toward the sample and never past it; a rising state may stop short by up to 2^k - 1 counts, a falling one always moves. A
stale source or an empty state takes the sample as it is. R21, R22: a base sample delivered is clamped, updates the base filters with
the youth its source had before, and sets the base age to 0. -/
def Obligations.FiltersAndHingeRecordAreFormed : Prop :=
  (∀ s : State,
     s.pae.phiB = (s.pae.baseFilter.bind fun f => arctangent f.y f.z) ∧
     (∀ b l : Nat, s.freshAngle = true → s.pae.phiB = some b → s.pae.phiL = some l → b < 360 → l < 360 →
       s.hingeStep.pae.hinge = ⟨.fresh, some ((180 + (b : Int) - l) % 360).toNat, some b⟩) ∧
     (s.freshAngle = false → s.blk.link = .absent → s.hingeStep.pae.hinge = ⟨.noAngle, none, none⟩) ∧
     (s.freshAngle = false → s.blk.link ≠ .absent →
       s.hingeStep.pae.hinge =
         if s.pae.hinge.status = .fresh then { s.pae.hinge with status := .held } else s.pae.hinge) ∧
     (s.freshAngle = true ↔
       s.blk.link ≠ .absent ∧ (∃ a, s.pae.lidAge = some a ∧ a < s.post.staleLimit) ∧
       (∃ a, s.pae.baseAge = some a ∧ a < s.post.staleLimit) ∧
       s.post.mMin ≤ inPlane s.pae.lidFilter ∧ s.post.mMin ≤ inPlane s.pae.baseFilter) ∧
     s.OnlyIn [.pae] s.hingeStep ∧ s.hingeStep.pae = { s.pae with hinge := s.hingeStep.pae.hinge } ∧
     (∀ x y z : Int,
       let kept : Axes := ⟨max (-8191) (min 8191 x), max (-8191) (min 8191 y), max (-8191) (min 8191 z)⟩
       s.baseSample ⟨x, y, z⟩ = { s with
         pae.baseFilter := some (filterStep s.post.shift
           (match s.pae.baseAge with
            | some age => decide (age < s.post.staleLimit)
            | none => false) s.pae.baseFilter kept)
         pae.baseAge := some 0 })) ∧
  ((∀ (k : Nat) (f x q : Int), filterAxis k f x = f + q ↔ q * 2 ^ k ≤ x - f ∧ x - f < (q + 1) * 2 ^ k) ∧
   (∀ (k : Nat) (f x : Int), f ≤ x →
     f ≤ filterAxis k f x ∧ filterAxis k f x ≤ x ∧ (filterAxis k f x = f ↔ x - f < 2 ^ k)) ∧
   (∀ (k : Nat) (f x : Int), x < f → x ≤ filterAxis k f x ∧ filterAxis k f x < f) ∧
   (∀ (k : Nat) (f : Option Axes) (x : Axes), filterStep k false f x = x ∧ filterStep k true none x = x) ∧
   (∀ (k : Nat) (f x : Axes), filterStep k true (some f) x = ⟨filterAxis k f.x x.x, filterAxis k f.y x.y, filterAxis k f.z x.z⟩))

/-- Step 5 of an evaluation, its order of checks (R44 to R48): the link check, the Hall check, the freshness check, the ambiguous zone,
the widened current row, and the row scan, whose proposal is the first matching row within the row count. R39: a row matches when both
its ranges contain their angles; a range with lo above hi wraps through 0. R47: a range of n angles, widened by the hysteresis on both
sides, contains every angle when n and twice the hysteresis make 360 or more, and otherwise those from lo less the hysteresis on.

R49 and R50: without a proposal the candidate is cleared; the same proposal keeps the candidate's count, another starts from the
current tick count; the candidate is adopted when its dwell has run (its row's dwell, or 100 ticks without a row), and waits
otherwise. An adoption of another posture sets the record with the current count; one of the same posture changes its row and
permission alone. R51 and R52: a change of posture queues the POSTURE notice with the previous posture, then tells the sleep and
power manager (an activity; the target depth, SLEEP and the way out of DEEP judged again), and then the detach latch.
The model's choices in it: notes/assumptions/25.md. -/
def Obligations.ClassificationProposesAndAdopts : Prop :=
  (∀ s : State,
     (s.blk.link = .absent → s.proposal = none) ∧
     (s.blk.link ≠ .absent → ∀ p, hallProposal s.pae.hallF s.pae.hallR = some p →
       s.proposal = if p = s.posture then none else some (p, none, .hall)) ∧
     (s.blk.link ≠ .absent → hallProposal s.pae.hallF s.pae.hallR = none →
       (s.pae.hinge.status ≠ .fresh → s.proposal = none) ∧
       (∀ theta phiB, s.pae.hinge = ⟨.fresh, some theta, some phiB⟩ →
         (theta ≤ s.post.amb ∨ 360 - s.post.amb ≤ theta →
           s.proposal =
             if s.posture = .closed ∨ s.posture = .tablet ∨ s.posture = .unknown then none
             else some (.unknown, none, .zone)) ∧
         (s.post.amb < theta → theta < 360 - s.post.amb → s.currentRowHolds theta phiB = true → s.proposal = none) ∧
         (s.post.amb < theta → theta < 360 - s.post.amb → s.currentRowHolds theta phiB = false →
           (∀ r, 1 ≤ r → r ≤ s.post.rowCount → (s.postRow r).holds theta phiB = true →
             (∀ q, 1 ≤ q → q < r → (s.postRow q).holds theta phiB = false) →
             s.proposal = some ((s.postRow r).posture, some r, .angle)) ∧
           ((∀ r, 1 ≤ r → r ≤ s.post.rowCount → (s.postRow r).holds theta phiB = false) → s.proposal = none))))) ∧
  (hallProposal true false = some .closed ∧ hallProposal false true = some .tablet ∧ hallProposal true true = some .unknown ∧
    hallProposal false false = none) ∧
  (∀ s : State,
     (s.proposal = none → s.classify = { s with pae.candidate := none }) ∧
     (∀ p row cause, s.proposal = some (p, row, cause) → s.classify = s.propose p row cause)) ∧
  (∀ (s : State) (p : Posture) (row : Option Nat) (cause : PostureCause),
     let start := match s.pae.candidate with
       | some c => if c.posture = p ∧ c.row = row then c.since else s.ticks
       | none => s.ticks
     let dwell := match row with
       | some r => (s.postRow r).dwell
       | none => 100
     let permission := match row with
       | some r => (s.postRow r).detach
       | none => decide (p = .tablet)
     ((s.ticks - start).toNat < dwell → s.propose p row cause = { s with pae.candidate := some ⟨p, row, start⟩ }) ∧
     (dwell ≤ (s.ticks - start).toNat → p = s.posture →
       s.propose p row cause =
         { s with pae.candidate := none, pae.record := { s.pae.record with row := row, permission := permission } }) ∧
     (dwell ≤ (s.ticks - start).toNat → p ≠ s.posture →
       s.propose p row cause = ({ s with pae.candidate := none } : State).changePosture p row permission cause)) ∧
  (∀ (s : State) (p : Posture) (row : Option Nat) (permission : Bool) (cause : PostureCause),
     let t := s.changePosture p row permission cause
     t = ((({ s with
         pae.record := ⟨p, row, permission, s.ticks⟩
         upq := s.upq.issue (.posture p s.posture row permission cause s.pae.hinge.status s.pae.hinge.theta) } : State)
       ).spmPosture).dluPosture ∧
     t.pae = { s.pae with record := ⟨p, row, permission, s.ticks⟩ } ∧ s.TablesStand t ∧
     s.OnlyIn [.tables, .cnv, .pae, .pch, .bcd, .dlu, .spm, .upq] t) ∧
  (∀ s : State, s.spmPosture = (s.activity true).formTarget.judgeSleep.leaveDeep) ∧
  ((∀ lo hi x, inAngles lo hi x = true ↔ (lo ≤ x ∧ x ≤ hi) ∨ (hi < lo ∧ (lo ≤ x ∨ x ≤ hi))) ∧
   (∀ (r : PostureRow) (theta phiB : Nat), r.holds theta phiB = true ↔
     inAngles r.hingeLo r.hingeHi theta = true ∧ inAngles r.baseLo r.baseHi phiB = true) ∧
   (∀ (s : State) (theta phiB : Nat), s.currentRowHolds theta phiB = true ↔
     ∃ i, s.pae.record.row = some i ∧
       (let r := s.postRow i
        inWidened r.hingeLo r.hingeHi r.hysteresis theta = true ∧ inWidened r.baseLo r.baseHi r.hysteresis phiB = true)) ∧
   (∀ lo hi h x : Nat, lo < 360 → hi < 360 → h < 360 → x < 360 →
     let n : Int := ((hi : Int) - lo) % 360 + 1
     (360 ≤ n + 2 * h → inWidened lo hi h x = true) ∧
     (n + 2 * h < 360 → (inWidened lo hi h x = true ↔ ((x : Int) - (lo - h)) % 360 < n + 2 * h))))

/-- Step 6 of an evaluation (R32 to R35): DETACHED, UNKNOWN and CLOSED hold the rotation; a locked row turns it at once with cause
LOCK; a free rotation turns, with cause FREE, when the same proposal has stood for the rotation dwell. R34: nothing is proposed while
the lid is stale, its pair degenerate, the screen too flat, or the direction within 45 degrees and the hysteresis of the current
rotation; otherwise the rotation nearest to ψ is, the smaller of two equally near. -/
def Obligations.RotationIsHeldLockedOrFree : Prop :=
  (∀ s : State,
    (s.posture = .detached ∨ s.posture = .unknown ∨ s.posture = .closed → s.rotate = { s with pae.rotCandidate := none }) ∧
    (∀ r, s.posture ≠ .detached → s.posture ≠ .unknown → s.posture ≠ .closed → s.pae.record.row = some r →
      (s.postRow r).rotation ≠ .free →
      let target : Rotation := if (s.postRow r).rotation = .lock0 then .r0 else .r180
      s.rotate =
        if target = s.pae.rotation then { s with pae.rotCandidate := none }
        else ({ s with pae.rotCandidate := none, pae.rotation := target } : State).notice
          (.rotation target s.pae.rotation .lock s.pae.psi s.posture)) ∧
    (s.posture ≠ .detached → s.posture ≠ .unknown → s.posture ≠ .closed →
      (∀ r, s.pae.record.row = some r → (s.postRow r).rotation = .free) → s.rotate = s.freeRotation) ∧
    (s.rotationProposal = none → s.freeRotation = { s with pae.rotCandidate := none }) ∧
    (∀ r, s.rotationProposal = some r →
      let start := match s.pae.rotCandidate with
        | some c => if c.rotation = r then c.since else s.ticks
        | none => s.ticks
      s.freeRotation =
        if s.post.rotDwell ≤ (s.ticks - start).toNat then
          ({ s with pae.rotCandidate := none, pae.rotation := r } : State).notice
            (.rotation r s.pae.rotation .free s.pae.psi s.posture)
        else { s with pae.rotCandidate := some ⟨r, start⟩ }) ∧
    (∀ r, s.rotationProposal = some r ↔
      ∃ psi age, s.pae.psi = some psi ∧ s.pae.lidAge = some age ∧ age < s.post.staleLimit ∧
        s.post.tiltMin ≤ (match s.pae.lidFilter with
          | some a => max a.x.natAbs a.y.natAbs
          | none => 0) ∧
        45 + s.post.rotHysteresis < angularDistance psi s.pae.rotation.degrees ∧ r = nearestRotation psi)) ∧
  (∀ a b, angularDistance a b = min (max a b - min a b) (360 - (max a b - min a b))) ∧
  (∀ psi, psi < 360 → ∀ r, r = nearestRotation psi ↔
    (∀ q : Rotation, angularDistance psi r.degrees ≤ angularDistance psi q.degrees) ∧
    (∀ q : Rotation, angularDistance psi q.degrees = angularDistance psi r.degrees → r.degrees ≤ q.degrees)) ∧
  (Rotation.r0.degrees = 0 ∧ Rotation.r90.degrees = 90 ∧ Rotation.r180.degrees = 180 ∧ Rotation.r270.degrees = 270)

/-! ### The system tick -/

/-- SYSTEM_TICK (R13, R70 to R72, R75, R77, R79, R86, R113, R136): the tick count rises, PRES, LSNS and BDQ are sampled, and every timer
counts: those of the posture and angle engine and the retry timer outside DEEP, the due timers of the capable slots polled in the hub
power state, the activity timer in AWAKE, and the low on the line, which has ended where BDQ reads high. In ABSENT a present sample
takes the link to ATTACHING and the posture to UNKNOWN (R42, R70); in every other state the presence counts follow PRES (R71, R72),
and nothing more happens.
The model's choices in it: notes/assumptions/4.md, notes/assumptions/8.md, notes/assumptions/12.md. -/
def Obligations.TickCountsAndSamples : Prop :=
  ∀ (s : State) (pres lsns bdq : Bool),
    let up : Option Timer → Option Timer := fun o => o.map fun x => ⟨x.elapsed + 1, x.duration⟩
    let pins : Pins := { s.pins with pres := pres, lsns := lsns, bdq := bdq }
    let runs (i : Nat) : Bool :=
      s.blk.link == .running && decide (i < s.sched.slotCount) &&
        s.blk.record.any (fun r => r.capability.getLsbD (s.slot i).fn) &&
        (s.spm.hub == .run || (s.spm.hub == .doze && (s.slot i).periodDoze != 0))
    let low := if bdq then none else s.blk.low.map fun l => { l with elapsed := l.elapsed + 1 }
    let retry := if s.spm.hub = .deep then s.blk.retryTimer else s.blk.retryTimer.map fun n => min (n + 1) 100
    ∃ t, exec (.systemTick pres lsns bdq) s = .next t ∧
      t.ticks = s.ticks + 1 ∧ t.pins = pins ∧
      t.counters = s.counters ∧ t.slk = s.slk ∧ t.cnv.scanTimer = s.cnv.scanTimer + 1 ∧
      t.psc = { s.psc with
        due := (List.range s.psc.due.length).map fun i => s.psc.due.getD i 0 + (if runs i then 1 else 0) } ∧
      (s.blk.link ≠ .absent ∨ pres = false →
        t.tables = s.tables ∧ t.upq = s.upq ∧ t.bcd = s.bcd ∧
        t.cnv = { s.cnv with scanTimer := s.cnv.scanTimer + 1, scanTicks := s.cnv.scanTicks + 1 } ∧
        t.pae =
          (if s.spm.hub = .deep then s.pae
           else { s.pae with
             periodTimer := s.pae.periodTimer + 1
             lidRead := s.pae.lidRead.map (· + 1)
             angleTimer := if s.post.anglePeriod = 0 then 0 else s.pae.angleTimer + 1 }) ∧
        t.dlu = { s.dlu with
          requestTimer := up s.dlu.requestTimer, pulseTimer := up s.dlu.pulseTimer
          windowTimer := up s.dlu.windowTimer, holdTimer := up s.dlu.holdTimer } ∧
        t.pch = { s.pch with
          waitTimer := up s.pch.waitTimer, burstTimer := up s.pch.burstTimer, stageTimer := up s.pch.stageTimer
          packetTimer := up s.pch.packetTimer, recheckTimer := up s.pch.recheckTimer
          checkTicks := s.pch.checkTicks.map (· + 1)
          pen := s.pch.pen.map fun p => { p with age := p.age.map fun n => min (n + 1) 65535 } } ∧
        t.spm = { s.spm with
          activityTimer := if s.spm.system = .awake then s.spm.activityTimer + 1 else s.spm.activityTimer
          clock := s.spm.clock.map fun c => ⟨c.elapsed + 1, c.awake⟩
          wakeTimer := up s.spm.wakeTimer }) ∧
      (s.blk.link = .absent → pres = false → t.blk = { s.blk with retryTimer := retry, low := low }) ∧
      (s.blk.link = .absent → pres = true →
        t.blk = { s.blk with link := .attaching, presentCount := 0, absentCount := 0, retryTimer := retry, low := low } ∧
        t.pae.record = ⟨.unknown, none, false, s.ticks + 1⟩ ∧ s.TablesStand t) ∧
      (s.blk.link = .attaching → pres = true →
        t.blk = { s.blk with
          presentCount := min (s.blk.presentCount + 1) 20, absentCount := 0, retryTimer := retry, low := low }) ∧
      (s.blk.link = .attaching → pres = false →
        t.blk = { s.blk with
          presentCount := 0, absentCount := min (s.blk.absentCount + 1) 2, retryTimer := retry, low := low }) ∧
      (s.blk.link ≠ .absent → s.blk.link ≠ .attaching →
        t.blk = { s.blk with
          absentCount := if pres then 0 else min (s.blk.absentCount + 1) 2, retryTimer := retry, low := low })

/-! ### The base link -/

/-- ATTACH_CONFIRMED (R71) at the 20th present sample: IDENTIFY with the attempt count at 0; in DEEP a clock start begins (R73, R175).
PRESENCE_LOSS (R72, R113, R124) at the second absent sample: everything the link and its users knew of the base is gone, the posture
is DETACHED, waiting writes are discarded and counted, a DETACH notice with outcome DETACHED is queued, and base reports in the upward
queue stay. -/
def Obligations.PresenceIsConfirmedAndLost : Prop :=
  ∀ s : State,
    (s.blk.link = .attaching → 20 ≤ s.blk.presentCount →
      ∃ t, exec .attachConfirmed s = .next t ∧ t.blk = { s.blk with link := .identify, attempts := 0 } ∧
        (s.spm.hub ≠ .deep → t.spm = s.spm) ∧ (s.spm.hub = .deep → t.spm.clock.isSome = true) ∧
        s.OnlyIn [.blk, .spm] t) ∧
    (s.blk.link ≠ .absent → 2 ≤ s.blk.absentCount →
      ∃ t, exec .presenceLoss s = .next t ∧
        t.blk = ⟨.absent, .k250, none, none, 0, 0, none, false, 0, 0, false, none⟩ ∧
        t.psc = ⟨List.replicate 12 0, List.replicate 12 0, []⟩ ∧
        t.counters.get .writeDiscard = min (s.counters.get .writeDiscard + s.psc.writes.length) 255 ∧
        (∀ k, k ≠ .writeDiscard → t.counters.get k = s.counters.get k) ∧
        t.posture = .detached ∧ t.pae.record.row = none ∧ t.pae.record.permission = false ∧ t.pae.candidate = none ∧
        t.pae.hinge = ⟨.noAngle, none, none⟩ ∧ t.pae.baseFilter = none ∧ t.pae.baseAge = none ∧
        t.pae.lidFilter = s.pae.lidFilter ∧ t.pae.evaluatedLidAge = s.pae.evaluatedLidAge ∧
        t.pae.evaluatedBaseAge = s.pae.evaluatedBaseAge ∧
        (s.LatchOk → t.dlu = ⟨.absent, none, none, none, false, .unknown, none, none, false⟩) ∧
        (s.dlu.state ≠ .absent → t.upq.Holds (.detach .detached none s.dlu.state .absent s.pins.lsns .detached)) ∧
        t.spm.lastPower = none ∧
        (∀ e, e ∈ s.upq.entries → e.isReport = true → e ∈ t.upq.entries) ∧ s.TablesStand t ∧
        s.OnlyIn [.counters, .tables, .cnv, .pae, .blk, .psc, .pch, .bcd, .dlu, .spm, .upq] t)

/-- TRANSACTION_START (R59, R73, R75, R84) on an idle line: what is wanted starts at once, namely the scheduler's choice in RUNNING, an ID
read in IDENTIFY and a due retry's ID read in FAULT; the ID read goes at 250 kbit/s with max length 8. LINE_RELEASED_FOR_ANSWER
(R62 to R64): the deadline is fixed from the turnaround allowance and the lengths.

R89, R90: a slot is eligible while it is owed a poll and backpressure does not hold it; the choice is the first eligible candidate,
where the write at the head of the queue stands before the slot numbered by the write rank, or after the last slot. With no eligible
slot a waiting write is chosen; with nothing eligible nothing starts.
The model's choices in it: notes/assumptions/6.md. -/
def Obligations.TransactionsStartWithTheChoice : Prop :=
  (∀ s : State,
     (∀ highFor, s.spm.hub ≠ .deep → s.tables.schedule.awaiting = false → s.blk.txn = none →
       s.blk.low.any LineLow.unjudged = false →
       let started (w : Txn) : State := { s with blk.txn := some w, blk.low := none, blk.retryDue := false }
       let idRead : Txn := ⟨.id, false, .k250, 8, [0x00], none, []⟩
       (∀ w, s.blk.link = .running → s.choice = some w → 12 * w.rate.tbit ≤ highFor →
         exec (.transactionStart highFor) s = .next (started w)) ∧
       (s.blk.link = .identify → 12 * LinkRate.k250.tbit ≤ highFor →
         exec (.transactionStart highFor) s = .next (started idRead)) ∧
       (s.blk.link = .fault → s.blk.retryDue = true → 12 * LinkRate.k250.tbit ≤ highFor →
         exec (.transactionStart highFor) s = .next (started idRead))) ∧
     (∀ highFor, s.blk.link = .running → s.choice = none → exec (.transactionStart highFor) s = .next s) ∧
     (∀ i, s.eligible i = true ↔
       0 < s.owed i ∧ ¬((s.slot i).backpressure = true ∧ s.sched.watermark ≤ s.upq.reports)) ∧
     (∀ w, s.blk.txn = some w → w.deadline = none →
       exec .lineReleasedForAnswer s = .next { s with
         blk.txn := some { w with
           deadline := some (s.sched.turnaround + (if w.write then 12 else 12 * (w.limit + 2))) } })) ∧
  (∀ s : State,
     let write (e : WriteEntry) : Txn :=
       let body := byteOf e.data.length :: e.data
       ⟨e.fn, true, s.blk.rate, e.data.length, selector e.fn true :: body ++ [crc8 body], none, []⟩
     ((∀ j, j < s.sched.slotCount → s.eligible j = false) →
       (s.psc.writes = [] → s.choice = none) ∧ (∀ e rest, s.psc.writes = e :: rest → s.choice = some (write e))) ∧
     (∀ (i : Nat) (fn : BaseFn), i < s.sched.slotCount → s.eligible i = true → (∀ j, j < i → s.eligible j = false) →
       BaseFn.ofNumber (s.slot i).fn = some fn →
       (s.psc.writes = [] ∨ i < s.sched.writeRank →
         s.choice = some ⟨fn, false, s.blk.rate, (s.slot i).maxLength, [selector fn false], none, []⟩) ∧
       (∀ e rest, s.psc.writes = e :: rest → s.sched.writeRank ≤ i → s.choice = some (write e))))

/-- BASE_CHARACTER_RECEIVED (R62, R64, R67, R73 to R75, R91, R95) no later than the deadline: an answer's characters are kept one by one,
and the check character decides. A success of a poll or a write settles it and clears the consecutive-failure count, and a poll's
answer is routed in the state that leaves; one of an ID read brings the base record and RUNNING at the base's rate.

R78, R85, R114: the entry to RUNNING owes each capable slot polled in the hub power state one poll, and the BUTTON slot one where
attention was pending. With the detach state ABSENT it is the attach: LATCHED, an EVENT LATCH_SENSE where LSNS is open, from IDENTIFY the
DETACH notice ATTACHED, and the wake source BASE_ATTACH.
The model's choices in it: notes/assumptions/6.md, notes/assumptions/24.md, notes/assumptions/34.md, notes/assumptions/41.md. -/
def Obligations.AnswersAreReceivedAndChecked : Prop :=
  ∀ (s : State) (w : Txn) (d : Nat) (c : Byte) (time : Nat),
    s.blk.txn = some w → w.deadline = some d → time ≤ d * w.rate.tbit →
    let kept : State := { s with blk.txn := some { w with received := w.received ++ [c] } }
    (w.write = false → w.received = [] → c.toNat ≤ w.limit → c.toNat ≤ 32 → (w.fn = .id → 5 ≤ c.toNat) →
      exec (.baseCharacterReceived c time) s = .next kept) ∧
    (∀ l data, w.write = false → w.received = l :: data → data.length < l.toNat →
      exec (.baseCharacterReceived c time) s = .next kept) ∧
    (∀ l data, w.write = false → w.fn ≠ .id → w.received = l :: data → l.toNat ≤ data.length → crc8 (l :: data) = c →
      let settled : State := { s with
        blk := { s.blk with txn := none, consecutive := 0 }
        psc := { s.psc with
          owed := match s.slotOf w.fn with
            | some i => s.psc.owed.set i (s.owed i - 1)
            | none => s.psc.owed } }
      let t := settled.route w.fn data
      exec (.baseCharacterReceived c time) s = .next t ∧ t.blk = settled.blk ∧ t.psc = settled.psc ∧ s.TablesStand t ∧
        s.OnlyIn [.counters, .tables, .cnv, .pae, .blk, .psc, .pch, .bcd, .dlu, .spm, .upq] t) ∧
    (∀ l data, w.write = false → w.fn = .id → w.received = l :: data → l.toNat ≤ data.length → crc8 (l :: data) = c →
      let r : BaseRecord := ⟨(data.getD 0 0).toNat + 256 * (data.getD 1 0).toNat, (data.getD 2 0).toNat,
        data.getD 3 0 &&& 0xFE, if data.getD 4 0 = 1 then .m1 else .k250⟩
      let entered : State := { s with
        blk := { s.blk with
          link := .running, rate := r.maxRate, record := some r, txn := none, consecutive := 0
          retryTimer := none, retryDue := false, attention := false }
        psc := ⟨s.owedAtEntry r.capability s.spm.hub, List.replicate 12 0, s.psc.writes⟩ }
      let latched : State := { entered with
        dlu.state := .latched, upq := if s.pins.lsns then s.upq else s.upq.events [.latchSense] }
      let told : State := { latched with
        upq := latched.upq.issue (.detach .attached none .absent .latched s.pins.lsns s.posture) }
      (s.dlu.state ≠ .absent → exec (.baseCharacterReceived c time) s = .next entered) ∧
      (s.dlu.state = .absent → s.blk.link ≠ .identify →
        exec (.baseCharacterReceived c time) s = .next (latched.wakeSource .baseAttach)) ∧
      (s.dlu.state = .absent → s.blk.link = .identify →
        let t := (told.activity false).wakeSource .baseAttach
        exec (.baseCharacterReceived c time) s = .next t ∧
        t.upq.Holds (.detach .attached none .absent .latched s.pins.lsns s.posture) ∧
        (s.pins.lsns = false → t.upq.Holds (.event .latchSense s.upq.nextEventCount)))) ∧
    (w.write = true → w.fn ≠ .id → c = 0xA5 →
      exec (.baseCharacterReceived c time) s = .next { s with
        blk := { s.blk with txn := none, consecutive := 0 }, psc.writes := s.psc.writes.tail })

/-- TRANSACTION_FAILURE, TRANSACTION_DEADLINE and a character that fails (R60 to R68, R73 to R75): the transaction ends with its one
error, whose counter rises. In IDENTIFY the attempt count rises, and the third failure brings FAULT; an ID read that fails
otherwise starts the retry timer again; neither changes what the scheduler holds. A failed poll or write is settled as a successful one
is, by one poll less owed to its slot or by the write leaving the queue (R91), and raises the consecutive-failure count, which brings
FAULT at the fail limit. The entry to FAULT queues EVENT BASE_FAULT, clears the owed counts, counts the flushed writes under write
discard (R92, R94), and ends a waiting detach request with outcome ABORTED (R125).
The model's choices in it: notes/assumptions/3.md, notes/assumptions/6.md, notes/assumptions/18.md, notes/assumptions/24.md,
notes/assumptions/41.md. -/
def Obligations.AFailedTransactionCountsItsError : Prop :=
  let ended (s : State) (w : Txn) (e : LineError) (low : Option LineLow) (t : State) : Prop :=
    let settled : Psc :=
      if w.write then { s.psc with writes := s.psc.writes.tail }
      else match s.slotOf w.fn with
        | some i => { s.psc with owed := s.psc.owed.set i (s.owed i - 1) }
        | none => s.psc
    t.counters.get e.counter = min (s.counters.get e.counter + 1) 255 ∧
    (w.fn = .id → s.blk.link = .identify → s.blk.attempts + 1 < 3 →
      t.blk = { s.blk with txn := none, low := low, attempts := s.blk.attempts + 1 } ∧ t.psc = s.psc) ∧
    (w.fn = .id → s.blk.link = .identify → 3 ≤ s.blk.attempts + 1 →
      s.EntersFault e.counter s.psc.writes.length t ∧ t.blk.txn = none) ∧
    (w.fn = .id → s.blk.link ≠ .identify →
      t.blk = { s.blk with txn := none, low := low, retryTimer := some 0, retryDue := false } ∧ t.psc = s.psc) ∧
    (w.fn ≠ .id → min (s.blk.consecutive + 1) 15 < s.sched.failLimit →
      t.blk = { s.blk with txn := none, low := low, consecutive := min (s.blk.consecutive + 1) 15 } ∧ t.psc = settled) ∧
    (w.fn ≠ .id → s.sched.failLimit ≤ min (s.blk.consecutive + 1) 15 →
      s.EntersFault e.counter (if w.write then s.psc.writes.tail else s.psc.writes).length t ∧ t.blk.txn = none) ∧
    s.OnlyIn [.counters, .blk, .psc, .dlu, .spm, .upq] t
  ∀ (s : State) (w : Txn), s.blk.txn = some w →
    (w.deadline = none →
      (∃ t, exec (.transactionFailure .leadHigh) s = .next t ∧ ended s w .physical none t) ∧
      (∃ t, exec (.transactionFailure .gapLow) s = .next t ∧ ended s w .bit (some ⟨true, 0, false, 0⟩) t) ∧
      (∀ low, ∃ t, exec (.transactionFailure (.sentWrong low)) s = .next t ∧
        ended s w .bit (if low then some ⟨false, 0, false, 0⟩ else none) t)) ∧
    (∀ d time, w.deadline = some d → time ≤ d * w.rate.tbit →
      (∃ t, exec (.transactionFailure (.stopLow time)) s = .next t ∧ ended s w .framing (some ⟨false, 0, false, 0⟩) t) ∧
      (∀ c, w.write = true → c ≠ 0xA5 →
        (∃ t, exec (.transactionFailure (.judged c time)) s = .next t ∧ ended s w .refused none t) ∧
        (∃ t, exec (.baseCharacterReceived c time) s = .next t ∧ ended s w .refused none t)) ∧
      (∀ c, w.write = false → w.received = [] → (w.limit < c.toNat ∨ 32 < c.toNat ∨ (w.fn = .id ∧ c.toNat < 5)) →
        (∃ t, exec (.transactionFailure (.judged c time)) s = .next t ∧ ended s w .length none t) ∧
        (∃ t, exec (.baseCharacterReceived c time) s = .next t ∧ ended s w .length none t)) ∧
      (∀ c l data, w.write = false → w.received = l :: data → l.toNat ≤ data.length → crc8 (l :: data) ≠ c →
        (∃ t, exec (.transactionFailure (.judged c time)) s = .next t ∧ ended s w .check none t) ∧
        (∃ t, exec (.baseCharacterReceived c time) s = .next t ∧ ended s w .check none t))) ∧
    (∀ d time low, w.deadline = some d → d * w.rate.tbit ≤ time →
      ∃ t, exec (.transactionDeadline time low) s = .next t ∧
        ended s w .timeout (if low then some ⟨false, 0, false, 0⟩ else none) t)

/-- RETRY_TIMER_EXPIRY (R75), IDLE_LINE_LOW (R77), ATTENTION (R78), GLITCH and STUCK_LINE (R79): a retry falls due after 100 ms of FAULT; a
low outside a transaction is timed; after 1 ms on an idle line, while the line is still low, it is attention, which acts by link
state; before that its end is a glitch, counted under PHYSICAL; after 50 ms it is a stuck line, whose entry to FAULT queues EVENT BASE_FAULT
and counts the flushed writes (R75, R92). R88: attention raises the owed count
of a capable BUTTON slot to at least 1, and nothing else.
The model's choices in it: notes/assumptions/6.md, notes/assumptions/12.md, notes/assumptions/18.md, notes/assumptions/24.md,
notes/assumptions/28.md, notes/assumptions/40.md. -/
def Obligations.LowsAndRetriesActByLinkState : Prop :=
  ∀ s : State,
    (∀ n, s.blk.retryTimer = some n → s.blk.link = .fault → 100 ≤ n →
      ∃ t, exec .retryTimerExpiry s = .next t ∧ t.blk = { s.blk with retryTimer := none, retryDue := true } ∧
        (s.spm.hub ≠ .deep → t.spm = s.spm) ∧ (s.spm.hub = .deep → t.spm.clock.isSome = true) ∧
        s.OnlyIn [.blk, .spm] t) ∧
    (∀ highFor, s.blk.link = .running ∨ s.blk.link = .identify ∨ s.blk.link = .fault ∨ s.blk.link = .listen →
      s.blk.txn = none → s.blk.low = none →
      exec (.idleLineLow highFor) s = .next { s with
        blk.low := some ⟨decide (12 * s.nextRate.tbit ≤ highFor), 0, false, 0⟩ }) ∧
    (∀ l, s.blk.low = some l → s.pins.bdq = true → exec .attention s = .next s) ∧
    (∀ l, s.blk.low = some l → l.onIdle = true → l.taken = false → 1 ≤ l.elapsed → s.pins.bdq = false →
      let u : State := { s with blk.low := some { l with taken := true } }
      (s.blk.link = .running → exec .attention s = .next u.attentionPoll) ∧
      (s.blk.link = .identify → exec .attention s = .next { u with blk.attention := true }) ∧
      (s.blk.link = .listen →
        exec .attention s = .next (({ u with blk.attention := true } : State).wakeSource .button)) ∧
      (s.blk.link = .fault → s.spm.hub ≠ .deep →
        exec .attention s = .next { u with blk.attention := true, blk.retryDue := true, blk.retryTimer := none }) ∧
      (s.blk.link = .fault → s.spm.hub = .deep →
        ∃ t, exec .attention s = .next t ∧ t.spm.clock.isSome = true ∧
          t.blk = { s.blk with
            low := some { l with taken := true }, attention := true, retryDue := true, retryTimer := none })) ∧
    (∀ l, s.blk.low = some l → l.onIdle = true → l.taken = false → l.elapsed ≤ 1 →
      exec .glitch s = .next (({ s with blk.low := none } : State).bump .physical)) ∧
    (∀ l, s.blk.low = some l → (l.onIdle = false ∨ l.taken = true) → 50 * (l.stuck + 1) ≤ l.elapsed →
      (s.blk.link = .fault → exec .stuckLine s = .next { s with blk.low := some { l with stuck := l.stuck + 1 } }) ∧
      (s.blk.link = .running ∨ s.blk.link = .listen →
        ∃ t, exec .stuckLine s = .next t ∧ s.EntersFault .physical s.psc.writes.length t ∧
          s.OnlyIn [.counters, .blk, .psc, .dlu, .spm, .upq] t) ∧
      (s.blk.link = .identify → s.blk.attempts + 1 < 3 →
        exec .stuckLine s = .next (({ s with
          blk.low := some { l with stuck := l.stuck + 1 }, blk.attempts := s.blk.attempts + 1 } : State).bump .physical)) ∧
      (s.blk.link = .identify → 3 ≤ s.blk.attempts + 1 →
        ∃ t, exec .stuckLine s = .next t ∧ s.EntersFault .physical s.psc.writes.length t ∧
          s.OnlyIn [.counters, .blk, .psc, .dlu, .spm, .upq] t)) ∧
    (∀ i, i < s.sched.slotCount → (s.slot i).fn = 5 → (∀ j, j < i → (s.slot j).fn ≠ 5) →
      s.attentionPoll =
        (if s.capable i then { s with psc.owed := s.psc.owed.set i (max 1 (s.owed i)) } else s) ∧
      (s.capable i = true ↔
        s.blk.link = .running ∧ ∃ r, s.blk.record = some r ∧ r.capability.getLsbD (s.slot i).fn = true)) ∧
    ((∀ i, i < s.sched.slotCount → (s.slot i).fn ≠ 5) → s.attentionPoll = s)

/-! ### The poll scheduler -/

/-- DUE_TIME (R87) when the due timer of a capable slot polled in the hub power state has reached its period: the owed count rises
by one, or stays at its max owed while the skipped counter of the slot's function rises. Neither backpressure nor a transaction in
flight makes a difference. R86: a due timer runs while its slot is capable and polled in the hub power state, in RUN with the slot's run
period and in DOZE, unless the doze period is 0, with that.

SCHEDULE_SWAP (R84) at the first moment without a transaction in flight: the new image is active with the pending image its copy,
the commit is answered OK, every owed count and due timer is 0, and the write queue and the counters are kept. -/
def Obligations.DueTimesAreOwedAndSwapsClearThem : Prop :=
  (∀ (s : State) (i : Nat), i < 12 → s.dueRuns i = true → s.duePeriod i ≤ s.psc.due.getD i 0 →
     let u : State := { s with psc.due := s.psc.due.set i 0 }
     (s.owed i < (s.slot i).maxOwed →
       exec (.dueTime i) s = .next { u with psc.owed := s.psc.owed.set i (s.owed i + 1) }) ∧
     ((s.slot i).maxOwed ≤ s.owed i →
       exec (.dueTime i) s = .next (u.bump (match (s.slot i).fn with
         | 1 => .skippedKeys
         | 2 => .skippedPointer
         | 3 => .skippedMotion
         | 4 => .skippedPower
         | _ => .skippedButton)))) ∧
  (∀ (s : State) (i : Nat),
     (s.dueRuns i = true ↔
       (s.blk.link = .running ∧ i < s.sched.slotCount ∧ ∃ r, s.blk.record = some r ∧ r.capability.getLsbD (s.slot i).fn = true) ∧
       (s.spm.hub = .run ∨ (s.spm.hub = .doze ∧ (s.slot i).periodDoze ≠ 0))) ∧
     (s.spm.hub = .run → s.duePeriod i = (s.slot i).periodRun) ∧ (s.spm.hub = .doze → s.duePeriod i = (s.slot i).periodDoze)) ∧
  (∀ s : State, s.tables.schedule.awaiting = true → s.blk.txn = none →
     exec .scheduleSwap s = .next { s with
       tables := { s.tables with schedule := ⟨s.tables.schedule.pending, s.tables.schedule.pending, false⟩ }
       psc := { s.psc with owed := List.replicate 12 0, due := List.replicate 12 0 }
       upq := s.upq.append (.reply ⟨0x41, .ok, [], false⟩) })

/-! ### Routing and the upward queue -/

/-- R95 to R98 and R104, the routing of a response record: an empty answer ends at once; a malformed one (a wrong length, a key number
above 127, a state other than 0 and 1) is counted and does nothing else; numbers are clamped to their ranges; a MOTION, POWER or BUTTON
report reaches its user whatever the action; a BUTTON press is a wake source, and KEYS and POINTER reports are wake sources and, unless
dropped, activity.

R101 to R103: FORWARD appends a base report, DROP discards it, and a report that needs a new entry while 22 base reports are queued is
lost and counted. COALESCE merges into the newest POINTER entry, in its place and with saturating sums, when that entry has not
started and its buttons are equal; otherwise it forwards. -/
def Obligations.ResponsesAreRoutedByAction : Prop :=
  (∀ (s : State) (fn : BaseFn) (data : List Byte),
     (data = [] → s.route fn data = s) ∧
     (data ≠ [] → readReport fn data = none → s.route fn data = s.bump .malformed) ∧
     (data ≠ [] → ∀ r, readReport fn data = some r →
       let action := routeCell s.tables.route.active r.row s.posture
       (∀ a, r = .motion a → s.route fn data = (s.baseSample a).applyAction action r) ∧
       (∀ p, r = .power p → s.route fn data = (s.setPower (some p)).applyAction action r) ∧
       (∀ l, r = .button true l → s.route fn data = (s.buttonPressed.applyAction action r).wakeSource .button) ∧
       (∀ l, r = .button false l → s.route fn data = s.buttonReleased.applyAction action r) ∧
       (∀ e, r = .keys e → s.route fn data =
         (if action = .drop then s else (s.applyAction action r).activity false).wakeSource .keys) ∧
       (∀ x y z b, r = .pointer x y z b → s.route fn data =
         (if action = .drop then s else (s.applyAction action r).activity false).wakeSource .pointer))) ∧
  (∀ (s : State) (r : Report),
     (s.upq.reports < 22 → s.applyAction .forward r = { s with upq := s.upq.append (.report r) }) ∧
     (22 ≤ s.upq.reports → s.applyAction .forward r = s.bump .lost) ∧
     s.applyAction .drop r = s ∧
     (∀ (a z : List Entry) (x y w x' y' w' : Int) (b b' : BitVec 3) (started : Bool),
       r = .pointer x' y' w' b' → s.upq.entries = a ++ ⟨.report (.pointer x y w b), started⟩ :: z →
       (∀ e, e ∈ z → ∀ q, e.content = .report q → q.isPointer = false) →
       (started = false → b = b' → s.applyAction .coalesce r = { s with
         upq := { s.upq with entries := a ++ ⟨.report (.pointer (max (-2047) (min 2047 (x + x')))
           (max (-2047) (min 2047 (y + y'))) (max (-127) (min 127 (w + w'))) b), false⟩ :: z } }) ∧
       (started = true ∨ b ≠ b' → s.applyAction .coalesce r = s.applyAction .forward r)) ∧
     ((∀ e, e ∈ s.upq.entries → ∀ q, e.content = .report q → q.isPointer = false) →
       s.applyAction .coalesce r = s.applyAction .forward r)) ∧
  (let clamp (m : Int) (z : Int) : Int := max (-m) (min m z)
   (∀ events : List (Nat × Bool), events ≠ [] → events.length ≤ 8 → (∀ e, e ∈ events → e.1 < 128) →
     readReport .keys (events.flatMap fun e => [BitVec.ofNat 8 e.1, if e.2 then 1 else 0]) = some (.keys events)) ∧
   (∀ data, 16 < data.length ∨ data.length % 2 = 1 → readReport .keys data = none) ∧
   (∀ (a z : List Byte) (key state : Byte), a.length % 2 = 0 → 128 ≤ key.toNat ∨ 2 ≤ state.toNat →
     readReport .keys (a ++ key :: state :: z) = none) ∧
   (∀ a b c d w k : Byte, readReport .pointer [a, b, c, d, w, k] =
     some (.pointer (clamp 2047 (b ++ a).toInt) (clamp 2047 (d ++ c).toInt) (clamp 127 w.toInt) (k.extractLsb' 0 3))) ∧
   (∀ a b c d e f : Byte, readReport .motion [a, b, c, d, e, f] =
     some (.motion ⟨clamp 8191 (b ++ a).toInt, clamp 8191 (d ++ c).toInt, clamp 8191 (f ++ e).toInt⟩)) ∧
   (∀ level flags : Byte, readReport .power [level, flags] = some (.power ⟨min level.toNat 100, flags.getLsbD 0⟩)) ∧
   (∀ flags : Byte, readReport .button [1, flags] = some (.button true (flags.getLsbD 0)) ∧
     readReport .button [0, flags] = some (.button false (flags.getLsbD 0)) ∧
     (∀ state : Byte, 2 ≤ state.toNat → readReport .button [state, flags] = none)) ∧
   (∀ data, (data.length ≠ 6 → readReport .pointer data = none ∧ readReport .motion data = none) ∧
     (data.length ≠ 2 → readReport .power data = none ∧ readReport .button data = none)))

/-- R107 and R108: a notice is appended when the queue holds none of its kind, replaces a waiting one in its place, and takes the
follow-on place behind one in transmission; an EVENT notice that replaces one, waiting or follow-on, carries its count plus one, at
most 255, and any other the count 1. -/
def Obligations.EachNoticeKindHasOnePlace : Prop :=
  ∀ (u : Upq) (n : Notice),
    (u.entries.all (fun e => !e.isNotice n.kind) = true →
      u.issue n = { u with entries := u.entries ++ [⟨.notice n, false⟩] }) ∧
    (∀ (a z : List Entry) (e : Entry), u.entries = a ++ e :: z → e.isNotice n.kind = true → u.notices n.kind = 1 →
      (e.started = false → u.issue n = { u with entries := a ++ ⟨.notice n, false⟩ :: z }) ∧
      (e.started = true →
        u.issue n = { u with followOn := u.followOn.filter (fun m => m.kind != n.kind) ++ [n] })) ∧
    (u.entries.all (fun e => !e.isNotice .event || e.started) = true →
      (u.followOn.all (fun m => m.kind != .event) = true → u.nextEventCount = 1) ∧
      (∀ (a z : List Notice) (code : EventCode) (k : Nat), u.followOn = a ++ .event code k :: z →
        a.all (fun m => m.kind != .event) = true → u.nextEventCount = min (k + 1) 255)) ∧
    (∀ (a z : List Entry) (code : EventCode) (k : Nat), u.entries = a ++ ⟨.notice (.event code k), false⟩ :: z →
      a.all (fun e => !e.isNotice .event || e.started) = true → u.nextEventCount = min (k + 1) 255)

/-- UP_FRAME_START and UP_FRAME_END (R109, R110, R107, R105): with SRDY high, nothing being sent, an entry waiting and the hub in RUN or
DOZE, the head entry's frame starts and the entry is marked; with SRDY low no frame starts. At the frame's end the entry leaves, a
reply's place becomes free, and the follow-on of a notice's kind joins the tail.

R180, R191 and the up frame layouts: a frame is A5h, kind, length, payload and the CRC-8 over the three between; the kind and the payload
of each base report, notice and reply, field by field: numbers low character first, signed ones in two's complement, absent fields all
ones, or 00h under a presence character and for an absent row; a set has one bit for each member.
The model's choices in it: notes/assumptions/2.md. -/
def Obligations.FramesLeaveInOrder : Prop :=
  (∀ s : State,
    exec (.upFrameStart false) s = .next { s with pins.srdy := false } ∧
    (∀ e rest, s.upq.entries = e :: rest → s.slk.tx = none → s.spm.hub ≠ .deep → s.slk.resetAll ≠ .replySent →
      exec (.upFrameStart true) s = .next { s with
        pins.srdy := true, slk.tx := some e.content.frame
        upq := { s.upq with entries := ⟨e.content, true⟩ :: rest } }) ∧
    (∀ e rest f, s.upq.entries = e :: rest → s.slk.tx = some f →
      (∀ r, e.content = .report r →
        exec .upFrameEnd s = .next { s with slk.tx := none, upq := { s.upq with entries := rest } }) ∧
      (∀ r, e.content = .reply r →
        exec .upFrameEnd s = .next { s with
          slk.tx := none
          slk.resetAll := if r.resetAll then .replySent else s.slk.resetAll
          upq := { s.upq with entries := rest, placesTaken := s.upq.placesTaken - 1 } }) ∧
      (∀ n, e.content = .notice n →
        (s.upq.followOn.find? (fun m => m.kind == n.kind) = none →
          exec .upFrameEnd s = .next { s with slk.tx := none, upq := { s.upq with entries := rest } }) ∧
        (∀ m, s.upq.followOn.find? (fun m => m.kind == n.kind) = some m →
          exec .upFrameEnd s = .next { s with
            slk.tx := none
            upq := { s.upq with
              entries := rest ++ [⟨.notice m, false⟩]
              followOn := s.upq.followOn.filter (fun f => f.kind != n.kind) } })))) ∧
  (let b (n : Nat) : Byte := BitVec.ofNat 8 n
   let two (n : Nat) : List Byte := [b n, b (n / 256)]
   let signed (z : Int) : List Byte := [(BitVec.ofInt 16 z).extractLsb' 0 8, (BitVec.ofInt 16 z).extractLsb' 8 8]
   let flag (x : Bool) : Byte := if x then 1 else 0
   let set (bits : List Bool) : Byte := b ((bits.zipIdx.map fun p => if p.1 then 2 ^ p.2 else 0).sum)
   let optOne (o : Option Nat) : Byte := (o.map b).getD 0xFF
   let optTwo (o : Option Nat) : List Byte := (o.map two).getD [0xFF, 0xFF]
   let sent (c : Content) (kind : Nat) (payload : List Byte) : Prop :=
     c.frame = 0xA5 :: b kind :: b payload.length :: (payload ++ [crc8 (b kind :: b payload.length :: payload)])
   (∀ events, sent (.report (.keys events)) 0x01 (b events.length :: events.flatMap fun e => [b e.1, flag e.2])) ∧
   (∀ dx dy wheel buttons, sent (.report (.pointer dx dy wheel buttons)) 0x02
     (signed dx ++ signed dy ++
       [BitVec.ofInt 8 wheel, set [buttons.getLsbD 0, buttons.getLsbD 1, buttons.getLsbD 2]])) ∧
   (∀ a : Axes, sent (.report (.motion a)) 0x03 (signed a.x ++ signed a.y ++ signed a.z)) ∧
   (∀ p : PowerReport, sent (.report (.power p)) 0x04 [b p.battery, flag p.external]) ∧
   (∀ pressed fnLock, sent (.report (.button pressed fnLock)) 0x05 [flag pressed, flag fnLock]) ∧
   (∀ (p q : Posture) row permission (cause : PostureCause) (status : HingeStatus) theta,
     sent (.notice (.posture p q row permission cause status theta)) 0x10
       ([b p.code, b q.code, b (row.getD 0), flag permission, b cause.code, b status.code] ++ optTwo theta)) ∧
   (∀ (r q : Rotation) (cause : RotationCause) psi (p : Posture), sent (.notice (.rotation r q cause psi p)) 0x11
     ([b r.code, b q.code, b cause.code] ++ optTwo psi ++ [b p.code])) ∧
   (∀ (status : HingeStatus) theta phiB psi (p : Posture), sent (.notice (.angle status theta phiB psi p)) 0x12
     (b status.code :: (optTwo theta ++ optTwo phiB ++ optTwo psi ++ [b p.code]))) ∧
   (∀ (c : ChargerState) (q : Pauses),
     let head : List Byte := [b c.code, set [q.thermal, q.budget, q.latch, q.supply, q.sleep]]
     sent (.notice (.pen c q none)) 0x13 (head ++ List.replicate 12 0) ∧
     ∀ p : PenFields, sent (.notice (.pen c q (some p))) 0x13
       (head ++ set [true, p.identity.isSome, p.battery.isSome, p.age.isSome, p.stage.isSome, p.fault.isSome] ::
         p.identity.getD 0 :: b (p.battery.getD 0) :: (two (p.age.getD 0) ++ [b (p.stage.getD 0)] ++ two p.duty ++
           [b p.check, b p.violation, b ((p.fault.map FaultReason.code).getD 0), p.faultCode.getD 0]))) ∧
   (∀ (o : DetachOutcome) (src : Option ReleaseSource) (before after : DetachState) lsns (p : Posture),
     sent (.notice (.detach o src before after lsns p)) 0x14
       [b o.code, optOne (src.map ReleaseSource.code), b before.code, b after.code, flag lsns, b p.code]) ∧
   (∀ (a : Advice) (r : Option AdviceReason) (p : Posture) (d : Depth) timeout, sent (.notice (.sleep a r p d timeout)) 0x15
     ([b a.code, optOne (r.map AdviceReason.code), b p.code, b d.code] ++ two timeout)) ∧
   (∀ cause (d : Option Depth) (p : Posture), sent (.notice (.wake cause d p)) 0x16
     [cause, optOne (d.map Depth.code), b p.code]) ∧
   (∀ (code : EventCode) count, sent (.notice (.event code count)) 0x17 [b code.code, b count]) ∧
   (∀ r : Reply, sent (.reply r) 0x20 (r.request :: b r.code.code :: r.data)))

/-! ### The detach latch -/

/-- REQUEST_TIMER_EXPIRY, FORCED_RELEASE, PULSE_TIMER_EXPIRY and RELEASE_WINDOW_EXPIRY (R119, R121, R122, R124), each when its timer has
run out: a request times out; a held button releases the latch from LATCHED or REQUESTED unless the posture is CLOSED, with LDRV
driven and the latch claim held, and brings the hub out of DEEP (R175); the pulse's end opens the release window and gives the claim
back; a window that runs out with the base present latches again.

R126: each change of state but the pulse's end queues its DETACH notice. R122, R124: LSNS engaged at the pulse's end, or open when the
window has run out, queues EVENT LATCH_SENSE. A change of the latch claim may pause the charger, and a stop of its driver may bring the
CHARGE swap (R135).
The model's choices in it: notes/assumptions/20.md. -/
def Obligations.LatchTimersEndWhatTheyTime : Prop :=
  let parts : List Part := [.tables, .cnv, .pch, .bcd, .dlu, .spm, .upq]
  ∀ s : State,
    (s.dlu.state = .requested → timerDone s.dlu.requestTimer = true →
      ∃ t, exec .requestTimerExpiry s = .next t ∧
        t.dlu = { s.dlu with state := .latched, requestTimer := none, timedOut := true } ∧
        t.upq.Holds (.detach .timedOut none .requested .latched s.pins.lsns s.posture) ∧ s.OnlyIn [.dlu, .spm, .upq] t) ∧
    (timerDone s.dlu.holdTimer = true → s.dlu.button = .pressed →
      ((s.dlu.state = .latched ∨ s.dlu.state = .requested) → s.posture ≠ .closed →
        ∃ t, exec .forcedRelease s = .next t ∧
          t.dlu = { s.dlu with
            state := .releasing, requestTimer := none, timedOut := false, holdTimer := none, source := some .forced
            ldrv := true, pulseTimer := some ⟨0, s.policy.latchPulse⟩ } ∧
          t.spm.latchClaim = s.policy.latchCurrent ∧ (s.spm.hub = .deep → t.spm.clock.isSome = true) ∧
          t.upq.Holds (.detach .releasing (some .forced) s.dlu.state .releasing s.pins.lsns s.posture) ∧
          s.TablesStand t ∧ s.OnlyIn parts t) ∧
      ((s.dlu.state ≠ .latched ∧ s.dlu.state ≠ .requested) ∨ s.posture = .closed →
        exec .forcedRelease s = .next { s with dlu.holdTimer := none })) ∧
    (s.dlu.state = .releasing → timerDone s.dlu.pulseTimer = true →
      ∃ t, exec .pulseTimerExpiry s = .next t ∧
        t.dlu = { s.dlu with
          state := .released, ldrv := false, pulseTimer := none, windowTimer := some ⟨0, s.policy.releaseWindow⟩ } ∧
        t.spm.latchClaim = 0 ∧ (s.pins.lsns = true → ∃ k, t.upq.Holds (.event .latchSense k)) ∧
        s.TablesStand t ∧ s.OnlyIn parts t) ∧
    (s.dlu.state = .released → timerDone s.dlu.windowTimer = true →
      ∃ t, exec .releaseWindowExpiry s = .next t ∧
        t.dlu = { s.dlu with state := .latched, windowTimer := none, source := none } ∧
        t.upq.Holds (.detach .aborted none .released .latched s.pins.lsns s.posture) ∧
        (s.pins.lsns = false → ∃ k, t.upq.Holds (.event .latchSense k)) ∧ s.OnlyIn [.dlu, .spm, .upq] t)

/-- A BUTTON report at the latch (R115, R116) and a posture that closes (R123, R125): the hold timer runs from a press to a release; a
press in LATCHED asks for a detach where the posture record allows it and is turned away otherwise; CLOSED ends a waiting request
and stops a pulse. Each of these but a mere press or release queues its DETACH notice (R126).
The model's choices in it: notes/assumptions/20.md. -/
def Obligations.ButtonAndPostureActOnTheLatch : Prop :=
  ∀ s : State,
    s.buttonReleased = { s with dlu.button := .released, dlu.holdTimer := none } ∧
    (s.dlu.button = .pressed → s.buttonPressed = s) ∧
    (s.dlu.button ≠ .pressed → s.dlu.state ≠ .latched →
      s.buttonPressed = { s with dlu.button := .pressed, dlu.holdTimer := some ⟨0, s.policy.forcedHold⟩ }) ∧
    (s.dlu.button ≠ .pressed → s.dlu.state = .latched →
      let allowed : Prop := s.posture ≠ .closed ∧ s.posture ≠ .unknown ∧ s.pae.record.permission = true
      let pressed : Dlu := { s.dlu with button := .pressed, holdTimer := some ⟨0, s.policy.forcedHold⟩ }
      (allowed →
        s.buttonPressed.dlu = { pressed with
          state := .requested, requestTimer := some ⟨0, s.policy.requestTimeout⟩, timedOut := false } ∧
        s.buttonPressed.upq.Holds (.detach .requested none .latched .requested s.pins.lsns s.posture)) ∧
      (¬allowed →
        s.buttonPressed.dlu = pressed ∧
        s.buttonPressed.upq.Holds (.detach .notAllowed none .latched .latched s.pins.lsns s.posture)) ∧
      s.OnlyIn [.dlu, .spm, .upq] s.buttonPressed) ∧
    (s.posture ≠ .closed → s.dluPosture = s) ∧
    (s.posture = .closed → s.dlu.state = .requested →
      s.dluPosture.dlu = { s.dlu with state := .latched, requestTimer := none } ∧
      s.dluPosture.upq.Holds (.detach .aborted none .requested .latched s.pins.lsns .closed) ∧
      s.OnlyIn [.dlu, .spm, .upq] s.dluPosture) ∧
    (s.posture = .closed → s.dlu.state = .releasing →
      s.dluPosture.dlu = { s.dlu with state := .latched, ldrv := false, pulseTimer := none, source := none } ∧
      s.dluPosture.spm.latchClaim = 0 ∧
      s.dluPosture.upq.Holds (.detach .aborted none .releasing .latched s.pins.lsns .closed) ∧
      s.TablesStand s.dluPosture ∧ s.OnlyIn [.tables, .cnv, .pch, .bcd, .dlu, .spm, .upq] s.dluPosture) ∧
    (s.posture = .closed → s.dlu.state ≠ .requested → s.dlu.state ≠ .releasing → s.dluPosture = s)

/-! ### The pen charger -/

/-- WAIT_TIMER_EXPIRY (R139, R140), BURST_TIMER_EXPIRY (R141), STAGE_TIMER_EXPIRY (R143), PACKET_TIMER_EXPIRY (R146) and
RECHECK_TIMER_EXPIRY (R149), each when its timer has run out in its state. A failed burst and a FAULT stop the driver; where that stop
brings the CHARGE swap (R135), a failed burst is judged by the new image.
The model's choices in it: notes/assumptions/13.md, notes/assumptions/42.md. -/
def Obligations.ChargerTimersMoveTheCharger : Prop :=
  let stopping : List Part := [.tables, .cnv, .pch, .bcd, .spm, .upq]
  let inIdent (s : State) (kind : BurstKind) (t : State) : Prop :=
    t.pch.state = .ident ∧ t.pch.burstKind = kind ∧ t.pch.penIdMark = false ∧ t.pch.burstTimer = some ⟨0, s.chg.identBurst⟩ ∧
    t.pch.waitTimer = none ∧ t.pch.recheckTimer = none ∧ t.pch.packetTimer = none ∧ t.pch.waiting = none ∧
    t.pch.driver.dutyB = (s.stage 0).dutyMin ∧ t.pch.pen = s.pch.pen ∧ t.bcd.mode = .resonance ∧
    s.OnlyIn [.cnv, .pch, .bcd, .upq] t
  ∀ s : State,
    (s.pch.state = .wait → timerDone s.pch.waitTimer = true →
      ∃ t, exec .waitTimerExpiry s = .next t ∧ inIdent s .full t ∧ t.pch.attempts = s.pch.attempts) ∧
    (s.pch.state = .ident → timerDone s.pch.burstTimer = true →
      let n := min (s.pch.attempts + 1) 7
      ∃ t, exec .burstTimerExpiry s = .next t ∧ t.pch.attempts = n ∧ t.pch.burstTimer = none ∧ t.pch.burstKind = .full ∧
        t.bcd.mode = .off ∧ t.pch.driver.running = false ∧ t.pch.pen = s.pch.pen ∧ s.Stopped t ∧ s.OnlyIn stopping t ∧
        (t.chg.identAttempts ≤ n → t.pch.state = .fault ∧ t.pch.faultReason = some .noPen) ∧
        (n < t.chg.identAttempts → t.pch.pauses.none = true →
          t.pch.state = .wait ∧ t.pch.waitTimer = some ⟨0, t.chg.waitInterval⟩) ∧
        (n < t.chg.identAttempts → t.pch.pauses.none = false → t.pch.state = .paused)) ∧
    (s.pch.state = .charge → timerDone s.pch.stageTimer = true →
      ∃ t, exec .stageTimerExpiry s = .next t ∧ t.pch.state = .fault ∧ t.pch.faultReason = some .stageTime ∧
        t.pch.stageTimer = none ∧ t.pch.packetTimer = none ∧ t.pch.waiting = none ∧ t.pch.driver.running = false ∧
        t.bcd.mode = .off ∧ s.Stopped t ∧ s.OnlyIn stopping t) ∧
    (s.pch.state = .charge → timerDone s.pch.packetTimer = true →
      (s.pch.timeouts + 1 < 3 → exec .packetTimerExpiry s = .next { s with
        pch.timeouts := s.pch.timeouts + 1, pch.packetTimer := some ⟨0, s.chg.packetTimeout⟩ }) ∧
      (3 ≤ s.pch.timeouts + 1 →
        ∃ t, exec .packetTimerExpiry s = .next t ∧ inIdent s .full t ∧ t.pch.attempts = 0)) ∧
    (s.pch.state = .done → timerDone s.pch.recheckTimer = true →
      (s.pch.pauses.none = true → ∃ t, exec .recheckTimerExpiry s = .next t ∧ inIdent s .recheck t) ∧
      (s.pch.pauses.none = false → exec .recheckTimerExpiry s = .next { s with
        pch.recheckTimer := some ⟨0, s.chg.recheckInterval * 1000⟩ }))

/-- RESONANCE_RISING_EDGE, RESONANCE_INTERVAL and RESONANCE_TIMEOUT (R140, R154): the first rising edge starts the measurement, the 16th
after it forms the interval modulo 65536; within the window the decoder goes to EDGE mode, outside it, or after 2 ms without an
interval, the charger is in FAULT with FOREIGN_OBJECT, whose stop of the driver may bring the CHARGE swap (R135).
The model's choices in it: notes/assumptions/3.md, notes/assumptions/6.md. -/
def Obligations.ResonanceDecidesTheBurst : Prop :=
  let foreign (s t : State) : Prop :=
    t.pch.state = .fault ∧ t.pch.faultReason = some .foreignObject ∧ t.pch.driver.running = false ∧ t.bcd.mode = .off ∧
    s.Stopped t ∧ s.OnlyIn [.tables, .cnv, .pch, .bcd, .spm, .upq] t
  ∀ s : State,
    (∀ stamp, s.bcd.mode = .resonance → s.pch.blanking ≠ .inForce → s.bcd.edges < 16 →
      (s.bcd.startStamp = none → exec (.resonanceRisingEdge stamp) s = .next { s with
        bcd.driveCount := stamp, bcd.startStamp := some stamp, bcd.edges := 0 }) ∧
      (∀ start, s.bcd.startStamp = some start → s.bcd.edges + 1 < 16 →
        exec (.resonanceRisingEdge stamp) s = .next { s with
          bcd.driveCount := stamp, bcd.edges := s.bcd.edges + 1 }) ∧
      (∀ start, s.bcd.startStamp = some start → s.bcd.edges = 15 →
        let ticks := (stamp.toNat + 65536 - start.toNat) % 65536
        exec (.resonanceInterval stamp) s = exec (.resonanceRisingEdge stamp) s ∧
        (s.chg.resonanceLo ≤ ticks → ticks ≤ s.chg.resonanceHi →
          ∃ t, exec (.resonanceInterval stamp) s = .next t ∧ t.bcd.mode = .edge ∧ t.bcd.startStamp = none ∧
            t.pch = { s.pch with checkTicks := none, blanking := t.pch.blanking } ∧ s.OnlyIn [.cnv, .pch, .bcd] t) ∧
        (ticks < s.chg.resonanceLo ∨ s.chg.resonanceHi < ticks → s.pch.state.drives = true →
          ∃ t, exec (.resonanceInterval stamp) s = .next t ∧ foreign s t))) ∧
    (∀ n, s.pch.state = .ident → s.bcd.mode = .resonance → s.pch.checkTicks = some n → 2 ≤ n →
      ∃ t, exec .resonanceTimeout s = .next t ∧ foreign s t)

/-- PERIOD_BOUNDARY, CHARGE_ENTRY and STAGE_CHANGE (R129 to R131, R142, R143): at a boundary of the running driver the buffered values
take effect together and the period number goes on, from N back to 1; a waiting entry to CHARGE or change of stage is made there, or
at once while the driver is stopped; requested blanking is then granted, which stops the driver and brings a CHARGE swap that waits.
Where the CHARGE table awaits swap and its regulation step is written, the boundary is the swap's. That the entry or the change leaves
the tables as they are rests on `DriverOk`, which every step keeps: blanking in force never meets a running driver.

CHARGE_SWAP (R135), all that the swap does: at once while the driver is stopped, and at the boundary of the first regulation step after
the commit while it runs: images, reply, period and dead band, the duty and the stage chosen by the charger's state, the stage timer,
and the stage limit handed on. While the driver runs and no such step has been written, the table goes on waiting.
The model's choices in it: notes/assumptions/2.md, notes/assumptions/3.md, notes/assumptions/4.md. -/
def Obligations.BoundariesTakeUpWhatWaitsAndSwap : Prop :=
  (∀ s : State,
     (s.pch.driver.running = true → ¬(s.tables.charge.awaiting = true ∧ s.pch.stepped = true) → s.pch.waiting = none →
       s.pch.blanking ≠ .requested → exec .periodBoundary s = .next { s with
         pch.driver := { s.pch.driver with
           period := s.pch.driver.periodB, dead := s.pch.driver.deadB, duty := s.pch.driver.dutyB, position := 0
           compared := false, periodNo := if s.chg.divider ≤ s.pch.driver.periodNo then 1 else s.pch.driver.periodNo + 1 } }) ∧
     (s.pch.driver.running = true → s.pch.blanking = .requested →
       ∃ t, exec .periodBoundary s = .next t ∧ exec .blankingGrant s = .next t ∧ t.pch.blanking = .inForce ∧
         t.pch.driver.running = false ∧ t.pch.driver.periodNo = 0 ∧
         t.tables = if s.tables.charge.awaiting then s.chargeSwapped else s.tables) ∧
     (∀ w, s.pch.waiting = some w →
       let claim := min (s.stage w.stage).currentLimit (min s.spm.supply s.spm.cap - s.spm.latchClaim)
       let made (t : State) : Prop :=
         t.pch.pen = s.pch.pen.map (fun p => { p with stage := some w.stage }) ∧
         t.pch.overcurrent = 0 ∧ t.pch.waiting = none ∧
         (s.pch.driver.running = true → t.pch.driver.duty = s.pch.driver.dutyB) ∧
         (w.entry = true → t.pch.attempts = 0 ∧ t.pch.timeouts = 0) ∧
         (s.pch.pen.isSome = true → t.spm.stageLimit = (s.stage w.stage).currentLimit ∧ t.spm.penClaim = claim) ∧
         (s.pch.pen.isSome = true → s.pch.pauses.none = true → 10 ≤ claim →
           t.pch.state = (if w.entry then .charge else s.pch.state) ∧
           t.pch.stageTimer =
             (if (s.stage w.stage).maxTime = 0 then none else some ⟨0, (s.stage w.stage).maxTime * 1000⟩) ∧
           (w.entry = true → t.pch.packetTimer = some ⟨0, s.chg.packetTimeout⟩)) ∧
         s.OnlyIn [.cnv, .pch, .bcd, .spm, .upq] t
       (s.DriverOk → (s.tables.charge.awaiting = false ∨
           (s.pch.stepped = false ∧ s.pch.blanking ≠ .requested ∧ s.pch.pen.isSome = true ∧ s.pch.pauses.none = true ∧
             10 ≤ claim)) →
         (w.entry = true → ∃ t, exec .chargeEntry s = .next t ∧ made t) ∧
         (w.entry = false → ∃ t, exec .stageChange s = .next t ∧ made t)) ∧
       (w.entry = true → exec .stageChange s = .next s ∧
         (s.pch.driver.running = true → exec .periodBoundary s = exec .chargeEntry s)) ∧
       (w.entry = false → exec .chargeEntry s = .next s ∧
         (s.pch.driver.running = true → exec .periodBoundary s = exec .stageChange s))) ∧
     (s.pch.waiting = none → exec .chargeEntry s = .next s ∧ exec .stageChange s = .next s) ∧
     (s.pch.driver.running = true → s.tables.charge.awaiting = true → s.pch.stepped = true →
       exec .periodBoundary s = exec .chargeSwap s)) ∧
  (∀ s : State, s.tables.charge.awaiting = true →
     (s.pch.driver.running = true → s.pch.stepped = false → exec .chargeSwap s = .next s) ∧
     (s.pch.driver.running = false ∨ s.pch.stepped = true →
       ∃ t, exec .chargeSwap s = .next t ∧ s.SwapsCharge t ∧ s.OnlyIn [.tables, .cnv, .pch, .bcd, .spm, .upq] t))

/-- R147, R148, R164, R165: the pen claim is the smaller of the stage limit and the budget less the latch claim, 0 where that is negative;
BUDGET and LATCH follow it; a reason raised in WAIT, IDENT or CHARGE pauses the charger; the last one cleared in PAUSED takes it to
WAIT with the attempt count at 0; in every other case, PAUSED with reasons remaining among them, the set alone changes. R164: the
supply term that the last POWER report chooses.

R135: a pause can stop the driver while the CHARGE table awaits swap. The swap comes first and hands the stage limit on; the charger
ends in PAUSED while a reason remains, and in WAIT otherwise. In `Calm` no such swap can come. -/
def Obligations.ReasonsPauseAndResumeTheCharger : Prop :=
  let stopping : List Part := [.tables, .cnv, .pch, .bcd, .spm, .upq]
  ∀ s : State,
    (∀ p : Spm,
      let t := s.rebudget p
      let claim := min p.stageLimit (min p.supply p.cap - p.latchClaim)
      let limit := t.spm.stageLimit
      t.spm = { p with stageLimit := limit, penClaim := min limit (min p.supply p.cap - p.latchClaim) } ∧
      (s.Calm → limit = p.stageLimit ∧
        t.pch.pauses =
          if claim = s.spm.penClaim ∧ (0 < p.latchClaim ↔ 0 < s.spm.latchClaim) then s.pch.pauses
          else { s.pch.pauses with
            budget := decide (claim < 10 ∧ p.latchClaim = 0), latch := decide (claim < 10 ∧ 0 < p.latchClaim) })) ∧
    s.handLimit = s.rebudget { s.spm with stageLimit := (s.stage ((s.pch.pen.bind PenRecord.stage).getD 0)).currentLimit } ∧
    (∀ r, s.setPower r = s.rebudget { s.spm with lastPower := r, supply := supplyTerm s.policy r }) ∧
    (∀ g : PolicyGlobals, supplyTerm g none = g.supplyOtherwise ∧
      ∀ r : PowerReport,
        (r.external = true → supplyTerm g (some r) = g.supplyExternal) ∧
        (r.external = false → 20 ≤ r.battery → supplyTerm g (some r) = g.supplyBattery) ∧
        (r.external = false → r.battery < 20 → supplyTerm g (some r) = g.supplyOtherwise)) ∧
    (∀ q : Pauses,
      let t := s.setPauses q
      t.pch.pauses.thermal = q.thermal ∧ t.pch.pauses.supply = q.supply ∧ t.pch.pauses.sleep = q.sleep ∧
      (s.Calm → t.pch.pauses = q) ∧ (q = s.pch.pauses → t = s)) ∧
    (∀ q : Pauses, s.pch.pauses.raises q = true → s.pch.state = .wait ∨ s.pch.state = .ident ∨ s.pch.state = .charge →
      let t := s.setPauses q
      t.pch.burstTimer = none ∧ t.pch.stageTimer = none ∧ t.pch.packetTimer = none ∧ t.pch.waiting = none ∧
      t.pch.pen = s.pch.pen ∧ t.pch.driver.running = false ∧ s.Stopped t ∧
      (t.pch.pauses.none = false → t.pch.state = .paused ∧ t.pch.waitTimer = none ∧ t.pch.attempts = s.pch.attempts) ∧
      (t.pch.pauses.none = true →
        t.pch.state = .wait ∧ t.pch.waitTimer = some ⟨0, t.chg.waitInterval⟩ ∧ t.pch.attempts = 0) ∧
      s.OnlyIn stopping t) ∧
    (∀ q : Pauses, s.Calm → s.pch.state = .paused → q ≠ s.pch.pauses → q.none = true →
      let t := s.setPauses q
      t.pch.state = .wait ∧ t.pch.waitTimer = some ⟨0, s.chg.waitInterval⟩ ∧ t.pch.attempts = 0 ∧
      s.OnlyIn [.pch, .upq] t) ∧
    (∀ q : Pauses, q ≠ s.pch.pauses →
      s.pch.state = .off ∨ s.pch.state = .done ∨ s.pch.state = .fault ∨ (s.pch.state = .paused ∧ q.none = false) ∨
        (s.pch.state ≠ .paused ∧ s.pch.pauses.raises q = false) →
      s.setPauses q = ({ s with pch.pauses := q } : State).penNotice)

/-- R137 and R138, the hand-over of GARAGE_P: an insertion makes a fresh pen record and, with charging enabled, leads from OFF to WAIT, or
to PAUSED while a reason holds, and brings the hub out of DEEP where the current row charges in sleep (R175); a removal ends in OFF
from every state, with everything of the pen cleared and the reasons that the converter gives kept. The stop of the driver may bring
the CHARGE swap (R135). Either queues a PEN notice, and hands over its wake source and an activity, which act as R177 and R170 to R171
lay down: the mask of the current row decides, a wake source joins the cause, and a waiting advice is withdrawn. An insertion that goes
to PAUSED names OFF in its notice, since the entry to PAUSED queues none.
The model's choices in it: notes/assumptions/21.md, notes/assumptions/24.md. -/
def Obligations.APenComesAndGoes : Prop :=
  let parts : List Part := [.tables, .cnv, .pch, .bcd, .spm, .upq]
  let handed (s : State) (w : WakeSource) (t : State) : Prop :=
    let inMask := s.row.wakeMask.getLsbD w.index
    let joins := inMask = true ∧ (s.spm.system = .asleep ∨ s.spm.system = .waking)
    let wakes := inMask = true ∧ s.spm.system = .asleep ∧ s.spm.hub ≠ .deep
    t.spm.activityTimer = 0 ∧
    t.spm.wakeCause = (if joins then s.spm.wakeCause ||| w.bit else s.spm.wakeCause) ∧
    t.spm.firstPower = (if joins ∧ s.spm.wakeCause = 0 then some s.spm.hub.depth else s.spm.firstPower) ∧
    t.spm.system = (if wakes then .waking else if s.spm.system = .advised then .awake else s.spm.system) ∧
    t.spm.hub = (if wakes then .run else s.spm.hub) ∧
    (wakes → t.spm.wakeLow = true ∧ t.spm.wakeTimer = some ⟨0, s.policy.wakeWidth⟩ ∧ t.spm.requested = none ∧
      t.spm.target = none) ∧
    (wakes ∨ (inMask = true ∧ s.spm.system = .waking) → t.upq.Holds (.wake t.spm.wakeCause t.spm.firstPower s.posture)) ∧
    (s.spm.system = .asleep → s.spm.hub = .deep → t.spm.clock.isSome = true) ∧
    (s.spm.system = .advised → t.upq.Holds (.sleep .withdrawn none s.posture s.row.depth s.row.idleTimeout))
  ∀ s : State,
    handed s .penInsert s.penInserted ∧ handed s .penRemove s.penRemoved ∧
    (s.DriverOk → s.pch.state = .off →
      let t := s.penInserted
      t.upq.Holds (.pen (if t.pch.state = .paused then .off else t.pch.state) t.pch.pauses
        (some ⟨none, none, none, none, s.pch.driver.duty, 0, 0, s.pch.faultReason, s.pch.faultCode⟩))) ∧
    s.penRemoved.upq.Holds (.pen .off s.penRemoved.pch.pauses none) ∧
    s.penInserted.pch.pen = some ⟨none, none, none, none, 0, 0⟩ ∧
    (s.pch.enable = true → s.pch.state = .off →
      s.penInserted.pch.attempts = 0 ∧
      s.penInserted.pch.state = (if s.penInserted.pch.pauses.none then .wait else .paused)) ∧
    (s.pch.enable = false → s.pch.state = .off → s.penInserted.pch.state = .off) ∧
    (s.spm.hub = .deep → s.row.chargeInSleep = true → s.penInserted.spm.clock.isSome = true) ∧
    (∀ t, t = s.penRemoved →
      t.pch.state = .off ∧ t.pch.pen = none ∧ t.pch.faultReason = none ∧ t.pch.attempts = 0 ∧ t.pch.overcurrent = 0 ∧
      t.pch.timeouts = 0 ∧ t.pch.waiting = none ∧ t.pch.waitTimer = none ∧ t.pch.burstTimer = none ∧ t.pch.stageTimer = none ∧
      t.pch.packetTimer = none ∧ t.pch.recheckTimer = none ∧ t.pch.driver.running = false ∧ t.pch.enable = s.pch.enable ∧
      t.pch.pauses.thermal = s.pch.pauses.thermal ∧ t.pch.pauses.supply = s.pch.pauses.supply ∧
      t.bcd.last = none ∧ s.TablesStand t ∧ s.OnlyIn parts t) ∧
    s.TablesStand s.penInserted ∧ s.OnlyIn parts s.penInserted

/-- A valid packet in IDENT or CHARGE with a pen present (R141, R143, R144, R146, R149, R150, R161): it is recorded with its time, and in
CHARGE it starts the packet timer again and clears the timeout count; a BATTERY that chooses a stage makes an entry wait with that
stage's duty; one at the band's top in CHARGE makes the next stage wait or ends the charge; ADJUST moves the duty in CHARGE, within
the clamp; END_CHARGE leads to DONE and PEN_FAULT to FAULT. The stop that DONE and FAULT bring may bring the CHARGE swap, and the
recheck timer then takes the new image's interval (R135).

R141: the chosen stage is the last one within the stage count whose level_lo is at most the level, and stage 0 where there is none.
The model's choices in it: notes/assumptions/48.md. -/
def Obligations.PacketsActByKindAndState : Prop :=
  (∀ (img : Image) (level : Nat),
    let reached (i : Nat) : Prop := i < (chargeGlobals img).stageCount ∧ (stageRow img i).levelLo ≤ level
    (∀ i, reached i → (∀ j, reached j → j ≤ i) → chosenStage img level = i) ∧
    ((∀ i, ¬reached i) → chosenStage img level = 0)) ∧
  ∀ (s : State) (p : PenRecord) (v : Byte), s.pch.pen = some p → s.pch.state.drives = true →
    let level := min v.toNat 100
    let done (t : State) : Prop :=
      t.pch.state = .done ∧ t.pch.attempts = 0 ∧ t.pch.recheckTimer = some ⟨0, t.chg.recheckInterval * 1000⟩ ∧
      t.pch.waiting = none ∧ t.pch.driver.running = false ∧ s.Stopped t
    (∀ kind, (s.deliver kind v).bcd.last = some ⟨kind, v, s.ticks⟩) ∧
    (s.pch.state = .charge → ∀ kind, (s.deliver kind v).pch.timeouts = 0 ∧
      ((s.deliver kind v).pch.state = .charge → (s.deliver kind v).pch.packetTimer = some ⟨0, s.chg.packetTimeout⟩)) ∧
    ((s.deliver 1 v).pch.pen = some { p with age := some 0, identity := some v } ∧
      (s.deliver 1 v).pch.penIdMark =
        (if s.pch.state = .ident ∧ s.pch.burstKind = .full then true else s.pch.penIdMark)) ∧
    ((s.deliver 2 v).pch.pen = some { p with age := some 0, battery := some level }) ∧
    (s.pch.state = .ident → (s.pch.burstKind = .full ∧ s.pch.penIdMark = true) ∨
        (s.pch.burstKind = .recheck ∧ level < s.chg.rechargeLevel) →
      let stage := chosenStage s.tables.charge.active level
      (s.deliver 2 v).pch.waiting = some ⟨stage, true⟩ ∧ (s.deliver 2 v).pch.burstTimer = none ∧
      (s.deliver 2 v).pch.driver.dutyB = (s.stage stage).dutyMin ∧ (s.deliver 2 v).pch.state = .ident) ∧
    (s.pch.state = .ident → s.pch.burstKind = .full → s.pch.penIdMark = false →
      (s.deliver 2 v).pch.waiting = s.pch.waiting ∧ (s.deliver 2 v).pch.state = .ident) ∧
    (s.pch.state = .ident → s.pch.burstKind = .recheck → s.chg.rechargeLevel ≤ level → done (s.deliver 2 v)) ∧
    (s.pch.state = .charge → level < (s.stage s.stageInForce).levelHi →
      (s.deliver 2 v).pch.waiting = s.pch.waiting ∧ (s.deliver 2 v).pch.state = .charge) ∧
    (s.pch.state = .charge → (s.stage s.stageInForce).levelHi ≤ level → s.stageInForce + 1 < s.chg.stageCount →
      (s.deliver 2 v).pch.waiting = some ⟨s.stageInForce + 1, false⟩ ∧ (s.deliver 2 v).pch.state = .charge ∧
      (s.deliver 2 v).pch.driver.dutyB = s.clampDuty (s.stageInForce + 1) s.pch.driver.dutyB) ∧
    (s.pch.state = .charge → (s.stage s.stageInForce).levelHi ≤ level → s.chg.stageCount ≤ s.stageInForce + 1 →
      done (s.deliver 2 v)) ∧
    (s.pch.state = .charge →
      let asked := (s.pch.driver.dutyB : Int) + max (-8) (min 8 v.toInt) * (s.chg.dutyStep : Int)
      (s.deliver 3 v).pch.driver.dutyB = s.clampDuty s.stageInForce asked.toNat) ∧
    (∀ stage d, s.clampDuty stage d =
      max (s.stage stage).dutyMin (min (min (s.stage stage).dutyMax (s.chg.period - 2 * s.chg.deadBand)) d)) ∧
    (s.pch.state = .ident → (s.deliver 3 v).pch.driver = s.pch.driver) ∧
    done (s.deliver 4 v) ∧
    ((s.deliver 5 v).pch.state = .fault ∧ (s.deliver 5 v).pch.faultReason = some .penFault ∧
      (s.deliver 5 v).pch.faultCode = some v ∧ (s.deliver 5 v).pch.driver.running = false ∧ s.Stopped (s.deliver 5 v))

/-! ### The back-channel decoder -/

/-- R157 and R158 whole: what an interval gives by the half-cell mark, and what bits and violations do in HUNT and PREAMBLE; every return
to HUNT (a violation, a packet's completion, a change of capture mode) clears the ones count and the mark, and so does a silence.

R159, R11: a bit in DATA is placed at the position of the bit count, which rises by one, and the 24th completes the packet; a
departure from DATA makes the request that slot S postpones, and so does a change of capture mode in DATA.

R156 whole: the class of every interval below the silence limit, and a silence acts as a violation. -/
def Obligations.IntervalsBitsAndPreambleAreDecoded : Prop :=
  (symbolOf false .long = .bit false ∧ symbolOf false .short = .half ∧ symbolOf true .short = .bit true ∧
   symbolOf true .long = .violation ∧ (∀ mark, symbolOf mark .violation = .violation) ∧
   (∀ s : State,
     s.takeSymbol .half = { s with bcd.half := true } ∧
     (∀ one, s.takeSymbol (.bit one) = ({ s with bcd.half := false } : State).takeBit one) ∧
     s.takeSymbol .violation = s.violation ∧
     s.violation.bcd.half = false ∧ s.silence.bcd.half = false ∧
     (∀ m, (s.capture m).bcd.half = false ∧ (s.capture m).bcd.ones = 0) ∧
     (∀ acc, (s.complete acc).bcd.half = false ∧ (s.complete acc).bcd.ones = 0) ∧
     (s.bcd.decoder = .hunt →
       s.takeBit true = { s with bcd.decoder := .preamble, bcd.ones := 1 } ∧ s.takeBit false = s ∧
       s.violation = { s with bcd.ones := 0, bcd.bitCount := 0, bcd.acc := 0, bcd.half := false }) ∧
     (s.bcd.decoder = .preamble →
       s.takeBit true = { s with bcd.ones := min (s.bcd.ones + 1) 15 } ∧
       (6 ≤ s.bcd.ones → s.takeBit false = { s with bcd.decoder := .data, bcd.bitCount := 0, bcd.acc := 0 }) ∧
       (s.bcd.ones < 6 → s.takeBit false =
         { s with bcd.decoder := .hunt, bcd.ones := 0, bcd.bitCount := 0, bcd.acc := 0, bcd.half := false }) ∧
       s.violation =
         { s with bcd.decoder := .hunt, bcd.ones := 0, bcd.bitCount := 0, bcd.acc := 0, bcd.half := false }) ∧
     (s.bcd.decoder = .data → ∀ one,
       let acc : BitVec 24 := if one then s.bcd.acc ||| BitVec.twoPow 24 s.bcd.bitCount else s.bcd.acc
       (s.bcd.bitCount < 23 → s.takeBit one = { s with bcd.acc := acc, bcd.bitCount := s.bcd.bitCount + 1 }) ∧
       (s.bcd.bitCount = 23 → s.takeBit one = s.complete acc)) ∧
     s.dataLeft = (if s.cnv.slotS = .deferring then
       { s with cnv.slotS := .blankWait, pch.blanking := if s.pch.blanking = .idle then .requested else s.pch.blanking }
       else s) ∧
     (∀ m, (s.capture m).cnv = (if s.bcd.decoder = .data then s.dataLeft.cnv else s.cnv) ∧
       (s.capture m).pch = (if s.bcd.decoder = .data then s.dataLeft.pch else s.pch)) ∧
     s.violation.bcd.decoder = .hunt ∧ s.violation.bcd.ones = 0)) ∧
  ((∀ n, 188 ≤ n → n ≤ 312 → classOf n = .short) ∧
   (∀ n, 375 ≤ n → n ≤ 625 → classOf n = .long) ∧
   (∀ n, n ≤ 187 ∨ (313 ≤ n ∧ n ≤ 374) → classOf n = .violation) ∧
   (∀ s : State, s.silence = ({ s with bcd.reference := none } : State).takeSymbol .violation))

/-- BCI_EDGE, PACKET_COMPLETION, SILENCE_LIMIT and PACKET_ABORT (R155, R159 to R161): a change of level that has not held for 16 µs, or
that is no change of the level the filter accepted last, is no edge; outside EDGE mode and while blanking is in force an edge only
moves the pin and the count; the first edge is the reference; in DATA a bit below the 24th is placed at the bit count; the 24th
completes a packet, which is delivered when its check is the complement of kind XOR value and counted otherwise; a violation in DATA, a
silence of 626 µs included, aborts the packet and is counted, and after a silence the reference is absent. An edge at or past 626 µs
ends the silence: it is not judged and becomes the reference. Completion, abort and silence take the decoder to HUNT, and in DATA they
make the blanking request that slot S postpones (R11). R160: the pen's CHECK or violation count reaching 255 queues EVENT
COUNTER_SATURATED.
The model's choices in it: notes/assumptions/3.md, notes/assumptions/5.md, notes/assumptions/6.md, notes/assumptions/30.md,
notes/assumptions/33.md, notes/assumptions/48.md. -/
def Obligations.EdgesMakeAndBreakPackets : Prop :=
  let hunting (u : State) : State :=
    { u with bcd := { u.bcd with decoder := .hunt, ones := 0, bitCount := 0, acc := 0, half := false } }
  let left (u : State) : State :=
    if u.cnv.slotS = .deferring then
      { hunting u with
        cnv.slotS := .blankWait, pch.blanking := if u.pch.blanking = .idle then .requested else u.pch.blanking }
    else hunting u
  let saturating (u : State) (old : Option Nat) : Upq := if old = some 254 then u.upq.events [.counterSaturated] else u.upq
  let broken (u : State) : State :=
    if u.bcd.decoder = .data then
      { left u with
        pch.pen := u.pch.pen.map fun p => { p with violation := min (p.violation + 1) 255 }
        upq := saturating u (u.pch.pen.map PenRecord.violation) }
    else hunting u
  ∀ (s : State) (c : BciChange) (stamp : Stamp),
    let seen : State := { s with pins.bci := c.level, bcd.microCount := stamp }
    let judged : State := { seen with bcd.reference := some stamp }
    (c.level = s.pins.bci ∨ c.held < 16 →
      exec (.bciEdge c stamp) s = .next s ∧ exec (.packetCompletion c stamp) s = .next s ∧
      exec (.packetAbort (.edge c stamp)) s = .next s) ∧
    (c.level ≠ s.pins.bci → 16 ≤ c.held →
      (s.bcd.mode ≠ .edge ∨ s.pch.blanking = .inForce → exec (.bciEdge c stamp) s = .next seen) ∧
      (s.bcd.mode = .edge → s.pch.blanking ≠ .inForce → s.bcd.reference = none →
        exec (.bciEdge c stamp) s = .next judged) ∧
      (∀ r, s.bcd.mode = .edge → s.pch.blanking ≠ .inForce → s.bcd.reference = some r →
        let n := (stamp.toNat + 65536 - r.toNat) % 65536
        (n < 626 → exec (.bciEdge c stamp) s = .next (judged.takeSymbol (symbolOf s.bcd.half (classOf n)))) ∧
        (∀ one, s.bcd.decoder = .data → symbolOf s.bcd.half (classOf n) = .bit one →
          let acc : BitVec 24 := s.bcd.acc ||| (if one then BitVec.twoPow 24 s.bcd.bitCount else 0)
          let kind : Byte := acc.extractLsb' 0 8
          let value : Byte := acc.extractLsb' 8 8
          (s.bcd.bitCount < 23 → exec (.bciEdge c stamp) s =
            .next { judged with bcd.half := false, bcd.acc := acc, bcd.bitCount := s.bcd.bitCount + 1 }) ∧
          (s.bcd.bitCount = 23 → ∃ t, exec (.packetCompletion c stamp) s = .next t ∧ exec (.bciEdge c stamp) s = .next t ∧
            (acc.extractLsb' 16 8 = ~~~(kind ^^^ value) →
              t = (left judged).deliver kind value ∧ t.bcd.last = some ⟨kind, value, s.ticks⟩) ∧
            (acc.extractLsb' 16 8 ≠ ~~~(kind ^^^ value) →
              t = { left judged with
                pch.pen := s.pch.pen.map fun p => { p with check := min (p.check + 1) 255 }
                upq := saturating s (s.pch.pen.map PenRecord.check) }))) ∧
        (s.bcd.decoder = .data → symbolOf s.bcd.half (classOf n) = .violation → n < 626 →
          exec (.packetAbort (.edge c stamp)) s = .next (broken judged) ∧ exec (.bciEdge c stamp) s = .next (broken judged)) ∧
        (626 ≤ n →
          exec (.bciEdge c stamp) s = .next { broken seen with bcd.reference := some stamp } ∧
          (s.bcd.decoder = .data →
            exec (.packetAbort (.edge c stamp)) s = .next { broken seen with bcd.reference := some stamp })))) ∧
    (∀ r, s.bcd.mode = .edge → s.bcd.reference = some r → 626 ≤ (stamp.toNat + 65536 - r.toNat) % 65536 →
      let quiet : State := { broken { s with bcd.microCount := stamp } with bcd.reference := none }
      exec (.silenceLimit stamp) s = .next quiet ∧
      (s.bcd.decoder = .data → exec (.packetAbort (.silence stamp)) s = .next quiet))

/-! ### Sleep and power -/

/-- ACTIVITY_TIMER_EXPIRY (R170, R171), WAKE_PULSE_TIMER_EXPIRY (R178) and SRDY_RISE (R172): a full activity timer in AWAKE advises sleep
with the current row's depth and timeout; a full wake pulse releases WAKE#; SRDY rising in ASLEEP in DEEP marks the clock start
awake, in ASLEEP in DOZE and in WAKING it ends in AWAKE with the hub in RUN, and otherwise only the pin moves.

R170, R171: an activity sets the activity timer to 0. A change of posture whose row advises on entry gives the advice in AWAKE and
ADVISED; any other activity withdraws it in ADVISED. In ASLEEP and WAKING nothing more happens.
The model's choices in it: notes/assumptions/31.md. -/
def Obligations.PowerTimersAndSrdyAct : Prop :=
  (∀ s : State,
    (s.spm.system = .awake → 0 < s.row.idleTimeout → s.row.idleTimeout * 1000 ≤ s.spm.activityTimer →
      exec .activityTimerExpiry s = .next { s with
        spm.system := .advised
        upq := s.upq.issue (.sleep .advise (some .idle) s.posture s.row.depth s.row.idleTimeout) }) ∧
    (timerDone s.spm.wakeTimer = true →
      exec .wakePulseTimerExpiry s = .next { s with spm.wakeTimer := none, spm.wakeLow := false }) ∧
    (s.spm.system = .awake ∨ s.spm.system = .advised → exec .srdyRise s = .next { s with pins.srdy := true }) ∧
    (s.spm.system = .asleep → s.spm.hub = .deep →
      exec .srdyRise s = .next { s with
        pins.srdy := true, spm.activityTimer := 0
        spm.clock := some ⟨(s.spm.clock.map ClockStart.elapsed).getD 0, true⟩ }) ∧
    ((s.spm.system = .asleep ∧ s.spm.hub ≠ .deep) ∨ s.spm.system = .waking →
      ∃ t, exec .srdyRise s = .next t ∧ t.pins = { s.pins with srdy := true } ∧ t.spm.system = .awake ∧ t.spm.hub = .run ∧
        t.spm.requested = none ∧ t.spm.target = none ∧ t.spm.activityTimer = 0 ∧ t.spm.wakeCause = s.spm.wakeCause ∧
        t.pch.pauses.sleep = t.sleepWanted ∧
        s.TablesStand t ∧ s.OnlyIn [.pins, .tables, .cnv, .pch, .bcd, .spm, .upq] t)) ∧
  (∀ (s : State) (change : Bool),
    let advises : Prop := change = true ∧ s.row.adviseOnEntry = true
    let notice (a : Advice) (r : Option AdviceReason) : Notice := .sleep a r s.posture s.row.depth s.row.idleTimeout
    (advises → s.spm.system = .awake ∨ s.spm.system = .advised →
      s.activity change = { s with
        spm.activityTimer := 0, spm.system := .advised, upq := s.upq.issue (notice .advise (some .posture)) }) ∧
    (¬advises → s.spm.system = .advised →
      s.activity change = { s with
        spm.activityTimer := 0, spm.system := .awake, upq := s.upq.issue (notice .withdrawn none) }) ∧
    (¬advises ∨ s.spm.system = .asleep ∨ s.spm.system = .waking → s.spm.system ≠ .advised →
      s.activity change = { s with spm.activityTimer := 0 }))

/-- DEEP_ENTRY (R174) under its conditions, spelled out, and what it brings (R20, R22, R30, R53, R76, R85, R115, R173): the link listens, no
poll is owed, the samples are stale, the angle is held, the lid read is abandoned, and charging sleeps. CLOCK_START_END (R176): 2 ms
after a clock start the destination is settled, AWAKE or WAKING in RUN with their WAKE notice or DOZE, then the hub change is handed
over, a listening link running again with the polls that R85 and a pending attention owe (R78), and then SLEEP is judged.

R172, R173, R175: the target depth is formed of the requested depth and the current row's; SLEEP is raised in DEEP, and in ASLEEP toward
DEEP unless the row charges a pen that is present; DEEP is left by a clock start when the target is DOZE, the link asks for
transactions, such a pen is present, or the latch is neither LATCHED nor ABSENT.
The model's choices in it: notes/assumptions/4.md. -/
def Obligations.DeepIsEnteredAndLeft : Prop :=
  ∀ s : State,
    (s.deepReady = true ↔
      s.spm.system = .asleep ∧ s.spm.target = some .deep ∧ s.spm.hub ≠ .deep ∧ s.blk.txn = none ∧ s.psc.writes = [] ∧
      (∀ i, i < s.sched.slotCount → s.eligible i = false) ∧ s.blk.link ≠ .identify ∧
      ¬(s.blk.link = .fault ∧ s.blk.retryDue = true) ∧ s.converterIdle = true ∧ s.pch.state ≠ .ident ∧ s.pch.state ≠ .charge ∧
      ¬(s.row.chargeInSleep = true ∧ s.pch.pen.isSome = true) ∧ (s.dlu.state = .latched ∨ s.dlu.state = .absent) ∧
      s.dlu.holdTimer = none ∧ s.slk.tx = none) ∧
    (s.deepReady = true → s.DriverOk →
      ∃ t, exec .deepEntry s = .next t ∧ t.spm = { s.spm with hub := .deep } ∧
        t.blk = (if s.blk.link = .running then { s.blk with link := .listen } else s.blk) ∧
        t.psc = (if s.blk.link = .running then ⟨List.replicate 12 0, List.replicate 12 0, s.psc.writes⟩ else s.psc) ∧
        t.pae.lidRead = none ∧ t.pae.candidate = none ∧ t.pae.lidAge = s.pae.lidAge.map (fun _ => 255) ∧
        t.pae.baseAge = s.pae.baseAge.map (fun _ => 255) ∧ t.pae.evaluatedLidAge = s.pae.evaluatedLidAge ∧
        t.pae.evaluatedBaseAge = s.pae.evaluatedBaseAge ∧
        t.pae.hinge = (if s.pae.hinge.status = .fresh then { s.pae.hinge with status := .held } else s.pae.hinge) ∧
        t.pae.record = s.pae.record ∧
        t.dlu = (if s.blk.link = .running then { s.dlu with button := .unknown, holdTimer := none } else s.dlu) ∧
        t.pch.pauses = { s.pch.pauses with sleep := true } ∧ s.OnlyIn [.pae, .blk, .psc, .pch, .dlu, .spm, .upq] t) ∧
    (∀ c, s.spm.clock = some c → 2 ≤ c.elapsed →
      let u : State := { s with spm.clock := none }
      let woken (w : State) : State :=
        if s.spm.wakeCause = 0 then w
        else { w with upq := w.upq.issue (.wake s.spm.wakeCause s.spm.firstPower s.posture) }
      let destination : State :=
        if c.awake then
          woken { u with
            spm.hub := .run, spm.system := .awake, spm.requested := none, spm.target := none, spm.activityTimer := 0 }
        else if s.spm.wakeCause ≠ 0 then
          woken { u with
            spm.hub := .run, spm.system := .waking, spm.requested := none, spm.target := none
            spm.wakeTimer := some ⟨0, s.policy.wakeWidth⟩, spm.wakeLow := true }
        else u.setHub .doze
      ∃ t, exec .clockStartEnd s = .next t ∧ t = destination.leftDeep.judgeSleep ∧ t.spm.clock = none ∧ t.pae.expiryDue = true ∧
        (s.blk.link = .listen →
          t.blk = { s.blk with link := .running, consecutive := 0, retryTimer := none, retryDue := false, attention := false } ∧
          t.psc = ⟨s.owedAtEntry ((s.blk.record.map BaseRecord.capability).getD 0)
              (if c.awake = true ∨ s.spm.wakeCause ≠ 0 then .run else .doze), List.replicate 12 0, s.psc.writes⟩) ∧
        (s.blk.link ≠ .listen → t.blk = s.blk) ∧
        (c.awake = true → t.spm.system = .awake ∧ t.spm.hub = .run) ∧
        (c.awake = false → s.spm.wakeCause ≠ 0 → t.spm.system = .waking ∧ t.spm.hub = .run) ∧
        (s.blk.link ≠ .listen ∨ s.dlu.state ≠ .absent →
          (c.awake = true ∨ s.spm.wakeCause ≠ 0 → s.spm.wakeCause ≠ 0 →
            t.upq.Holds (.wake s.spm.wakeCause s.spm.firstPower s.posture)) ∧
          (c.awake = false → s.spm.wakeCause = 0 → t.spm.system = s.spm.system ∧ t.spm.hub = .doze))) ∧
    s.formTarget =
      (if s.spm.system = .asleep then
        { s with spm.target :=
          if s.spm.requested = some .deep ∧ s.row.depth = .deep then some Depth.deep else some Depth.doze }
      else s) ∧
    s.judgeSleep = s.setPauses { s.pch.pauses with sleep := s.sleepWanted } ∧
    (s.sleepWanted = true ↔
      s.spm.hub = .deep ∨ (s.spm.system = .asleep ∧ s.spm.target = some .deep ∧
        ¬(s.row.chargeInSleep = true ∧ s.pch.pen.isSome = true))) ∧
    s.leaveDeep =
      (if s.spm.hub = .deep ∧ s.spm.clock = none ∧
          (s.spm.target = some .doze ∨ s.blk.link = .identify ∨ (s.blk.link = .fault ∧ s.blk.retryDue = true) ∨
            (s.row.chargeInSleep = true ∧ s.pch.pen.isSome = true) ∨ (s.dlu.state ≠ .latched ∧ s.dlu.state ≠ .absent)) then
        { s with spm.clock := some ⟨0, false⟩ }
      else s)

/-- R169, R177 and R178, a wake source: it does nothing in AWAKE and ADVISED; in ASLEEP in DEEP a clock start begins whether or not the
wake mask holds the source; in ASLEEP in DOZE a source in the mask wakes the system, WAKE# is driven low, a WAKE notice is queued, and
SLEEP is judged again; a source in the mask joins the wake cause. -/
def Obligations.WakeSourcesActByTheMask : Prop :=
  ∀ (s : State) (w : WakeSource),
    let inMask := s.row.wakeMask.getLsbD w.index
    (s.spm.system = .awake ∨ s.spm.system = .advised → s.wakeSource w = s) ∧
    (s.spm.system = .asleep → s.spm.hub = .deep →
      (s.wakeSource w).spm = { s.spm with
        wakeCause := if inMask then s.spm.wakeCause ||| w.bit else s.spm.wakeCause
        firstPower := if inMask && s.spm.wakeCause == 0 then some .deep else s.spm.firstPower
        clock := match s.spm.clock with
          | some c => some c
          | none => some ⟨0, false⟩ } ∧
      s.OnlyIn [.spm] (s.wakeSource w)) ∧
    (s.spm.system = .asleep ∨ s.spm.system = .waking → s.spm.hub ≠ .deep → inMask = false → s.wakeSource w = s) ∧
    (s.spm.system = .asleep → s.spm.hub ≠ .deep → inMask = true →
      let t := s.wakeSource w
      let cause := s.spm.wakeCause ||| w.bit
      let power := if s.spm.wakeCause = 0 then some .doze else s.spm.firstPower
      t.spm.system = .waking ∧ t.spm.hub = .run ∧ t.spm.wakeCause = cause ∧ t.spm.firstPower = power ∧ t.spm.wakeLow = true ∧
      t.spm.wakeTimer = some ⟨0, s.policy.wakeWidth⟩ ∧ t.spm.requested = none ∧ t.spm.target = none ∧
      t.pch.pauses.sleep = t.sleepWanted ∧ t.upq.Holds (.wake cause power s.posture) ∧
      s.TablesStand t ∧ s.OnlyIn [.tables, .cnv, .pch, .bcd, .spm, .upq] t) ∧
    (s.spm.system = .waking → inMask = true →
      let cause := s.spm.wakeCause ||| w.bit
      let power := if s.spm.wakeCause = 0 then some s.spm.hub.depth else s.spm.firstPower
      s.wakeSource w = { s with
        spm.wakeCause := cause, spm.firstPower := power, upq := s.upq.issue (.wake cause power s.posture) })

/-! ### The system link -/

/-- DOWN_CHARACTER_RECEIVED, DOWN_FRAME_RECEIVED, BAD_DOWN_FRAME and DOWN_FRAME_ABANDON (R181, R182): one character acts by the framer's
state. A good frame is offered to the down buffer, and counted under DOWN_OVERRUN when both places are taken. A bad one is counted
under DOWN_CRC, and the hunt goes on through the characters kept after the start character, each received again. A frame under
reception is dropped, uncounted, 100 µs after its last character's stop bit.
The model's choices in it: notes/assumptions/3.md, notes/assumptions/6.md, notes/assumptions/32.md, notes/assumptions/34.md. -/
def Obligations.FramesAreReceivedCharacterByCharacter : Prop :=
  ∀ s : State,
    (∀ c : RxChar, s.slk.framer.lapsed s.slk.rate c.time = false →
      let f := s.slk.framer
      let goesOn (state : FramerState) (kept : List RxChar) (due : Nat) : Prop :=
        exec (.downCharacterReceived c) s = .next { s with slk.framer := ⟨state, kept, due⟩ }
      let good : Prop := c.stopHigh = true ∧ crc8 ((f.kept.drop 1).map RxChar.value) = c.value
      let hunting : State := { s with slk.framer := ⟨.hunt, [], 0⟩ }
      let frame : DownFrame := ⟨((f.kept.drop 1).map RxChar.value).headD 0, ((f.kept.drop 1).map RxChar.value).drop 2⟩
      (f.state = .hunt → c.value = 0xA5 → c.stopHigh = true → goesOn .kind [c] 0) ∧
      (f.state = .hunt → c.value ≠ 0xA5 ∨ c.stopHigh = false → goesOn .hunt [] 0) ∧
      (f.state = .kind → c.stopHigh = true → goesOn .length (f.kept ++ [c]) 0) ∧
      (f.state = .length → c.stopHigh = true → c.value = 0 → goesOn .check (f.kept ++ [c]) 0) ∧
      (f.state = .length → c.stopHigh = true → c.value ≠ 0 → c.value.toNat ≤ 60 →
        goesOn .payload (f.kept ++ [c]) c.value.toNat) ∧
      (f.state = .payload → c.stopHigh = true → 2 ≤ f.due → goesOn .payload (f.kept ++ [c]) (f.due - 1)) ∧
      (f.state = .payload → c.stopHigh = true → f.due = 1 → goesOn .check (f.kept ++ [c]) 0) ∧
      (f.state = .check → good → s.slk.down.length < 2 →
        exec (.downFrameReceived c) s = .next { hunting with slk.down := s.slk.down ++ [frame] } ∧
        exec (.downCharacterReceived c) s = .next { hunting with slk.down := s.slk.down ++ [frame] }) ∧
      (f.state = .check → good → 2 ≤ s.slk.down.length →
        exec (.downFrameReceived c) s = .next (hunting.bump .overrun) ∧
        exec (.downCharacterReceived c) s = .next (hunting.bump .overrun)) ∧
      (f.state ≠ .hunt → c.stopHigh = false ∨ (f.state = .length ∧ 60 < c.value.toNat) ∨ (f.state = .check ∧ ¬good) →
        exec (.badDownFrame c) s = .next (((f.kept ++ [c]).drop 1).foldl State.receive (hunting.bump .downCrc)) ∧
        exec (.downCharacterReceived c) s = .next (((f.kept ++ [c]).drop 1).foldl State.receive (hunting.bump .downCrc)))) ∧
    (∀ c : RxChar, s.slk.framer.lapsed s.slk.rate c.time = true →
      exec (.downCharacterReceived c) s = exec (.downCharacterReceived c) { s with slk.framer := ⟨.hunt, [], 0⟩ }) ∧
    (∀ (l : RxChar) (time : Nat), s.slk.framer.state ≠ .hunt → s.slk.framer.kept.getLast? = some l →
      l.time + s.slk.rate.charTime + 100000 ≤ time →
      exec (.downFrameAbandon time) s = .next { s with slk.framer := ⟨.hunt, [], 0⟩ })

/-! ### The management requests -/

/-- R182, R183, R190: the head of the down buffer waits while both reply places are taken and after a HUB_RESET with scope ALL; an
unknown kind is answered BAD_KIND, and a payload of another length than its kind's BAD_LENGTH, with no other effect.
The model's choices in it: notes/assumptions/2.md, notes/assumptions/22.md. -/
def Obligations.RequestsWaitAndAreChecked : Prop :=
  ∀ s : State,
    (∀ f rest, s.slk.down = f :: rest → 2 ≤ s.upq.placesTaken ∨ s.slk.resetAll ≠ .idle →
      ∀ c, c ∈ ([.badKind, .tableWrite, .tableCommit, .tableRead, .query, .clearCounters, .baseWrite, .detachGrant, .detachDeny,
        .detachRelease, .chargeControl, .systemStateSleeping, .systemStateAwake, .hubResetLinks, .hubResetAll] : List Instr) →
        exec c s = .next s) ∧
    (∀ f rest, s.offers f rest → f.kind.toNat < 0x40 ∨ 0x4A < f.kind.toNat →
      exec .badKind s = .next ((s.taken rest).replied f.kind .badKind [])) ∧
    (∀ f rest, s.offers f rest →
      (f.kind = 0x40 → f.payload.length < 3 →
        exec .tableWrite s = .next ((s.taken rest).replied f.kind .badLength [])) ∧
      (f.kind = 0x44 → f.payload.length < 2 →
        exec .baseWrite s = .next ((s.taken rest).replied f.kind .badLength [])) ∧
      (∀ p, p ∈ ([(0x41, 1, .tableCommit), (0x42, 4, .tableRead), (0x43, 2, .query), (0x45, 0, .detachGrant),
        (0x46, 0, .detachDeny), (0x47, 0, .detachRelease), (0x48, 3, .chargeControl), (0x49, 2, .systemStateSleeping),
        (0x49, 2, .systemStateAwake), (0x4A, 1, .hubResetLinks), (0x4A, 1, .hubResetAll)] : List (Byte × Nat × Instr)) →
        f.kind = p.1 → f.payload.length ≠ p.2.1 →
        exec p.2.2 s = .next ((s.taken rest).replied f.kind .badLength [])))

/-- QUERY and CLEAR_COUNTERS (R187): a page that exists is answered after the request's own characters, as the state is once the request
has been taken; an unknown subject or page is BAD_VALUE. COUNTERS answers every counter, and with bit 0 of the option clears them
afterwards, the pen's two included.

R187, R191 and the page layouts: the contents of every page, field by field, and the length of each whose length is fixed; BASE and
CONVERTER have a page 1, every other subject page 0 alone.
The model's choices in it: notes/assumptions/3.md, notes/assumptions/15.md, notes/assumptions/17.md, notes/assumptions/43.md,
notes/assumptions/44.md. -/
def Obligations.QueriesAnswerAndClear : Prop :=
  (∀ (s : State) (rest : List DownFrame) (subject option : Byte), s.offers ⟨0x43, [subject, option]⟩ rest →
    let u := s.taken rest
    let c := s.counters
    let page : List Byte :=
      [c.mergedS, c.droppedC, c.forcedBlank, c.port, c.physical, c.bit, c.framing, c.length, c.check, c.refused, c.timeout,
        c.skippedKeys, c.skippedPointer, c.skippedMotion, c.skippedPower, c.skippedButton, c.writeDiscard, c.malformed, c.lost,
        c.downCrc, c.overrun, (s.pch.pen.map PenRecord.check).getD 0, (s.pch.pen.map PenRecord.violation).getD 0].map
        (BitVec.ofNat 8)
    let cleared : State :=
      { u with
        counters := .zero
        pch.pen := s.pch.pen.map fun p => { p with check := 0, violation := 0 } }
    (6 ≤ subject.toNat → exec .query s = .next (u.replied 0x43 .badValue [])) ∧
    (∀ k, Subject.ofCode subject.toNat = some k → k ≠ .counters →
      (∀ data, u.page k option.toNat = some data →
        exec .query s = .next (u.replied 0x43 .ok (subject :: option :: data))) ∧
      (u.page k option.toNat = none → exec .query s = .next (u.replied 0x43 .badValue []))) ∧
    (subject = 5 → option.getLsbD 0 = false → exec .query s = .next (u.replied 0x43 .ok (5 :: 0 :: page))) ∧
    (subject = 5 → option.getLsbD 0 = true →
      exec .query s = .next (cleared.replied 0x43 .ok (5 :: 0 :: page)) ∧
      exec .clearCounters s = .next (cleared.replied 0x43 .ok (5 :: 0 :: page)))) ∧
  (∀ (s : State),
    (∀ k n, (s.page k n).isSome = true ↔ n = 0 ∨ (n = 1 ∧ (k = .base ∨ k = .converter))) ∧
    (let b (n : Nat) : Byte := BitVec.ofNat 8 n
     let two (n : Nat) : List Byte := [b n, b (n / 256)]
     let four (n : Nat) : List Byte := [b n, b (n / 256), b (n / 65536), b (n / 16777216)]
     let signed (z : Int) : List Byte := [(BitVec.ofInt 16 z).extractLsb' 0 8, (BitVec.ofInt 16 z).extractLsb' 8 8]
     let flag (x : Bool) : Byte := if x then 1 else 0
     let set (bits : List Bool) : Byte := b ((bits.zipIdx.map fun p => if p.1 then 2 ^ p.2 else 0).sum)
     let optOne (o : Option Nat) : Byte := (o.map b).getD 0xFF
     let optTwo (o : Option Nat) : List Byte := (o.map two).getD [0xFF, 0xFF]
     let zeroTwo (o : Option Nat) : List Byte := (o.map two).getD [0, 0]
     let timer (o : Option Timer) : List Byte := (o.map fun t => four (t.duration - t.elapsed)).getD [0xFF, 0xFF, 0xFF, 0xFF]
     let tables := s.tables
     let dlu := s.dlu
     let spm := s.spm
     let pae := s.pae
     let pch := s.pch
     let blk := s.blk
     let cnv := s.cnv
     let n := s.counters
     let activity := if spm.activityTimer < 4294967296 then spm.activityTimer else (Config.longActivity spm.activityTimer).toNat
     let status : List Byte :=
       [b (s.upq.entries.countP Entry.isReport)
        , b (s.upq.entries.countP fun e => match e.content with
            | .notice _ => true
            | _ => false)
        , b (s.upq.entries.countP Entry.isReply), b s.upq.placesTaken
        , (match s.upq.entries.find? Entry.started with
            | some ⟨.reply r, _⟩ => r.request
            | some e => b e.content.upKind
            | none => 0)
        , set ([.posture, .rotation, .angle, .pen, .detach, .sleep, .wake, .event].map fun k =>
            s.upq.followOn.any fun m => m.kind == k)
        , b s.slk.down.length
        , set [false, tables.route.awaiting, tables.posture.awaiting, tables.schedule.awaiting, tables.channel.awaiting,
            tables.charge.awaiting, tables.policy.awaiting]
        , b dlu.state.code, flag s.pins.lsns, flag dlu.timedOut, b dlu.button.code]
       ++ timer dlu.requestTimer ++ timer dlu.pulseTimer ++ timer dlu.windowTimer ++ timer dlu.holdTimer
       ++ [b spm.system.code, b spm.hub.code] ++ four activity
       ++ [optOne (spm.requested.map Depth.code), optOne (spm.target.map Depth.code), spm.wakeCause
          , optOne (spm.firstPower.map Depth.code), optOne (spm.clock.map ClockStart.elapsed)
          , flag ((spm.clock.map ClockStart.awake).getD false)
          , b ((spm.wakeTimer.map fun t => t.duration - t.elapsed).getD 0), flag spm.hallF
          , optOne (spm.lastPower.map PowerReport.battery), flag ((spm.lastPower.map PowerReport.external).getD false)]
       ++ two spm.supply ++ two spm.cap ++ two (min spm.supply spm.cap) ++ two spm.latchClaim ++ two spm.stageLimit
       ++ two spm.penClaim
     let elapsed (since : TickCount) : Nat :=
       if (s.ticks - since).toNat < 65536 then (s.ticks - since).toNat
       else (Config.longElapsed (s.ticks - since).toNat).toNat
     let lid : Axes := pae.lastLid.getD ⟨0, 0, 0⟩
     let posture : List Byte :=
       set [pae.lastLid.isSome, pae.phiL.isSome, pae.psi.isSome, pae.evaluatedLidAge.isSome, pae.evaluatedBaseAge.isSome,
         pae.candidate.isSome]
       :: (signed lid.x ++ signed lid.y ++ signed lid.z
       ++ [b pae.hinge.status.code] ++ optTwo pae.hinge.theta ++ optTwo pae.hinge.phiB ++ zeroTwo pae.phiL ++ zeroTwo pae.psi
       ++ [b (pae.evaluatedLidAge.getD 0), b (pae.evaluatedBaseAge.getD 0), b pae.rotation.code
          , optOne (pae.rotCandidate.map fun c => c.rotation.code)]
       ++ optTwo (pae.rotCandidate.map fun c => elapsed c.since)
       ++ [b pae.record.posture.code, optOne pae.record.row, flag pae.record.permission] ++ four pae.record.changed.toNat
       ++ (match pae.candidate with
           | some c => [b c.posture.code, optOne c.row] ++ two (elapsed c.since)
           | none => [0, 0, 0, 0])
       ++ [set [pae.hallF, pae.hallR]])
     let pen : List Byte :=
       [b pch.state.code, flag pch.enable
        , set [pch.pauses.thermal, pch.pauses.budget, pch.pauses.latch, pch.pauses.supply, pch.pauses.sleep]
        , optOne (pch.faultReason.map FaultReason.code), b pch.attempts, b pch.burstKind.code, flag pch.penIdMark
        , optOne (pch.waiting.map Waiting.stage)]
       ++ timer pch.waitTimer ++ timer pch.burstTimer ++ timer pch.stageTimer ++ timer pch.packetTimer ++ timer pch.recheckTimer
       ++ [b pch.overcurrent, b pch.timeouts] ++ two pch.driver.period ++ [b pch.driver.dead] ++ two pch.driver.duty
       ++ [flag pch.driver.running, b pch.blanking.code, b s.bcd.mode.code]
       ++ (match pch.pen with
           | some p =>
             [set [true, p.identity.isSome, p.battery.isSome, p.age.isSome, p.stage.isSome, pch.faultReason.isSome
                , s.bcd.last.isSome]
              , p.identity.getD 0, b (p.battery.getD 0)] ++ zeroTwo p.age ++ [b (p.stage.getD 0)] ++ two pch.driver.duty
             ++ [b p.check, b p.violation, b ((pch.faultReason.map FaultReason.code).getD 0), pch.faultCode.getD 0]
           | none =>
             set [false, false, false, false, false, false, s.bcd.last.isSome] :: List.replicate 11 0)
       ++ (match s.bcd.last with
           | some l => l.kind :: l.value :: four l.time.toNat
           | none => List.replicate 6 0)
     let base : List Byte :=
       [b blk.link.code, b blk.rate.code]
       ++ (match blk.record with
           | some r => [1] ++ two r.model ++ [b r.revision, r.capability, b r.maxRate.code]
           | none => List.replicate 6 0)
       ++ [optOne (blk.txn.map fun t => t.fn.number), optOne (blk.txn.map fun t => if t.write then 1 else 0)
          , b n.physical, b n.bit, b n.framing, b n.length, b n.check, b n.refused, b n.timeout
          , b blk.consecutive, b blk.attempts, optOne blk.retryTimer, b blk.presentCount, b blk.absentCount
          , flag blk.attention, b s.psc.writes.length]
       ++ (List.range 8).map fun i => optOne ((s.psc.writes.map fun w => w.fn.number)[i]?)
     let slots : List Byte :=
       b s.sched.slotCount :: (List.range s.sched.slotCount).flatMap fun i =>
         [b (s.slot i).fn, b (s.owed i)
          , set [s.capable i, (s.slot i).backpressure && decide (s.sched.watermark ≤ s.upq.entries.countP Entry.isReport)]]
     let scan : List Byte :=
       cnv.resultS.flatMap (fun r => optTwo r.reading) ++ cnv.resultS.flatMap fun r => four r.time.toNat
     let coil : List Byte :=
       optTwo cnv.resultC.coilI ++ optTwo cnv.resultC.coilV ++ four cnv.resultC.time.toNat ++ (cnv.windows.map fun w => b w.code)
       ++ [set ((List.range 8).map s.active)] ++ cnv.debounce.map b
       ++ [flag cnv.fault, b cnv.slotS.code, b cnv.slotC.code, set [cnv.recorded, cnv.held.isSome], b n.mergedS, b n.droppedC
          , b n.forcedBlank]
     s.page .status 0 = some status ∧ status.length = 56 ∧ s.page .posture 0 = some posture ∧ posture.length = 34 ∧
     s.page .pen 0 = some pen ∧ pen.length = 56 ∧ s.page .base 0 = some base ∧ base.length = 32 ∧
     s.page .base 1 = some slots ∧ slots.length = 1 + 3 * s.sched.slotCount ∧
     s.page .converter 0 = some scan ∧ scan.length = 6 * cnv.resultS.length ∧
     s.page .converter 1 = some coil ∧ coil.length = 16 + cnv.windows.length + cnv.debounce.length))

/-- TABLE_WRITE and TABLE_READ (R184, R186): the checks in their order, the rows written into the pending image as they stand and no
other row touched, and the rows read from the image named, encoded after the request's own characters. -/
def Obligations.TablesAreWrittenAndRead : Prop :=
  ∀ (s : State) (rest : List DownFrame) (n first count : Byte),
    let u := s.taken rest
    (∀ rows, s.offers ⟨0x40, n :: first :: count :: rows⟩ rest →
      (TableId.ofNumber n.toNat = none → exec .tableWrite s = .next (u.replied 0x40 .badTable [])) ∧
      (∀ k, TableId.ofNumber n.toNat = some k →
        (¬k.holds first.toNat count.toNat → exec .tableWrite s = .next (u.replied 0x40 .badRow [])) ∧
        (k.holds first.toNat count.toNat → rows.length ≠ rowsLength k first.toNat count.toNat →
          exec .tableWrite s = .next (u.replied 0x40 .badLength [])) ∧
        (k.holds first.toNat count.toNat → rows.length = rowsLength k first.toNat count.toNat →
          ((s.tables.get k).awaiting = true → exec .tableWrite s = .next (u.replied 0x40 .busy [])) ∧
          ((s.tables.get k).awaiting = false →
            ∃ img : Image,
              exec .tableWrite s = .next
                (({ u with tables := s.tables.set k { s.tables.get k with pending := img } } : State).replied 0x40 .ok []) ∧
              img.length = (s.tables.get k).pending.length ∧
              (∀ r, r < first.toNat ∨ first.toNat + count.toNat ≤ r → img.row r = (s.tables.get k).pending.row r) ∧
              (∀ r, first.toNat ≤ r → r < first.toNat + count.toNat → r < (s.tables.get k).pending.length →
                img.row r =
                  decodeRow k r
                    ((rows.drop (rowsLength k first.toNat (r - first.toNat))).take (rowLength k r))))))) ∧
    (∀ which, s.offers ⟨0x42, [n, which, first, count]⟩ rest →
      (TableId.ofNumber n.toNat = none → exec .tableRead s = .next (u.replied 0x42 .badTable [])) ∧
      (∀ k, TableId.ofNumber n.toNat = some k →
        (which ≠ 0 → which ≠ 1 → exec .tableRead s = .next (u.replied 0x42 .badValue [])) ∧
        ((which = 0 ∨ which = 1) → ¬k.holds first.toNat count.toNat ∨ 54 < rowsLength k first.toNat count.toNat →
          exec .tableRead s = .next (u.replied 0x42 .badRow [])) ∧
        ((which = 0 ∨ which = 1) → k.holds first.toNat count.toNat → rowsLength k first.toNat count.toNat ≤ 54 →
          let img : Image := if which = 1 then (s.tables.get k).pending else (s.tables.get k).active
          exec .tableRead s = .next
            (u.replied 0x42 .ok
              (n :: which :: first :: count ::
                (List.range count.toNat).flatMap fun i => encodeRow k (first.toNat + i) (img.row (first.toNat + i)))))))

/-- TABLE_COMMIT (R185, R100, R135, R168): a table that awaits swap is busy; the first row of the pending image that fails is answered
BAD_VALUE; a valid ROUTE or POLICY swaps at once, POLICY with what its owner takes from it; a valid CHARGE swaps at once while the
driver is stopped; every other valid table awaits its boundary with no reply yet. A POLICY swap that makes the target DOZE, or lets a
pen that is present charge in sleep, brings the hub out of DEEP (R175).

R2, R40, R83, R100, R134, R168, what fails a row: a field outside its range; in ROUTE a COALESCE outside row 2; in SCHEDULE a doze period
of 1 to 9 and a function that an earlier slot has; in CHANNEL a low limit above the high one and a blank-coil COIL_I or COIL_V; in
CHARGE an empty resonance window, an empty level band, a duty range that is empty or beyond the ceiling. The rows checked: those
within the row, slot or stage count, or all. -/
def Obligations.CommitsValidateAndSwapOrWait : Prop :=
  (∀ (k : TableId) (img : Image) (r : Nat), firstBadRow k img = some r →
    rowOk k img r = false ∧ r ∈ checkedRows k img ∧ ∀ q, q ∈ checkedRows k img → q < r → rowOk k img q = true) ∧
  (∀ (k : TableId) (img : Image), firstBadRow k img = none → ∀ q, q ∈ checkedRows k img → rowOk k img q = true) ∧
  (∀ img : Image,
    let within (r : Nat) (ranges : List (Nat × Nat)) : Prop :=
      List.Forall₂ (fun n (p : Nat × Nat) => p.1 ≤ n ∧ n ≤ p.2) (img.row r) ranges
    let c := img.cell
    (∀ r, r ∈ checkedRows .route img ↔ 1 ≤ r ∧ r ≤ 5) ∧
    (∀ r, r ∈ checkedRows .posture img ↔ r ≤ min (c 0 0) 12) ∧
    (∀ r, r ∈ checkedRows .schedule img ↔ r ≤ min (c 0 0) 12) ∧
    (∀ r, r ∈ checkedRows .channel img ↔ r ≤ 8) ∧
    (∀ r, r ∈ checkedRows .charge img ↔ r ≤ min (c 0 0) 6) ∧
    (∀ r, r ∈ checkedRows .policy img ↔ r ≤ 8) ∧
    (rowOk .posture img 0 = true ↔
      within 0 [(0, 12), (10, 250), (50, 1000), (0, 4), (2, 16), (64, 1024), (5, 45), (0, 30), (128, 1024), (0, 2000),
        (0, 5000)]) ∧
    (rowOk .schedule img 0 = true ↔ within 0 [(0, 12), (4, 21), (1, 15), (0, 12), (10, 40)]) ∧
    (rowOk .channel img 0 = true ↔ within 0 [(5, 1000), (5, 1000), (100, 2000), (0, 255), (0, 1), (0, 30)]) ∧
    (rowOk .charge img 0 = true ↔
      within 0 [(1, 6), (200, 400), (0, 31), (1, 16), (1, 64), (10, 100), (1, 7), (100, 5000), (50, 1000), (10, 600), (0, 99),
        (1600, 8000), (1600, 8000), (1, 32), (0, 1)] ∧ c 0 11 < c 0 12) ∧
    (rowOk .policy img 0 = true ↔
      within 0 [(50, 1000), (100, 800), (500, 10000), (500, 10000), (2000, 10000), (0, 1000), (0, 1000), (0, 1000), (1, 50)]) ∧
    (∀ r, 1 ≤ r →
      (rowOk .route img r = true ↔ within r (List.replicate 8 (0, 2)) ∧ (r ≠ 2 → 2 ∉ img.row r)) ∧
      (rowOk .posture img r = true ↔
        within r [(2, 7), (0, 359), (0, 359), (0, 359), (0, 359), (0, 15), (0, 2000), (0, 2), (0, 1)]) ∧
      (rowOk .schedule img r = true ↔
        within r [(1, 5), (0, 32), (1, 1000), (0, 5000), (1, 8), (0, 1)] ∧ (c r 3 = 0 ∨ 10 ≤ c r 3) ∧
        ∀ q, 1 ≤ q → q < r → c q 0 ≠ c r 0) ∧
      (rowOk .channel img r = true ↔
        within r [(0, 1), (0, 4095), (0, 4095), (0, 2), (1, 15), (0, 1)] ∧ c r 1 ≤ c r 2 ∧ (r = 1 ∨ r = 2 → c r 5 = 0)) ∧
      (rowOk .charge img r = true ↔
        within r [(0, 100), (0, 100), (0, 400), (0, 400), (10, 500), (0, 7200)] ∧ c r 0 < c r 1 ∧ c r 2 ≤ c r 3 ∧
        c r 3 ≤ c 0 1 - 2 * c 0 2) ∧
      (rowOk .policy img r = true ↔ within r [(0, 3600), (0, 1), (0, 1), (0, 255), (0, 1)]))) ∧
  ∀ (s : State) (rest : List DownFrame) (n : Byte), s.offers ⟨0x41, [n]⟩ rest →
    let u := s.taken rest
    (TableId.ofNumber n.toNat = none → exec .tableCommit s = .next (u.replied 0x41 .badTable [])) ∧
    (∀ k, TableId.ofNumber n.toNat = some k →
      let pending := (s.tables.get k).pending
      let waits : State := { u with tables := s.tables.set k { s.tables.get k with awaiting := true } }
      ((s.tables.get k).awaiting = true → exec .tableCommit s = .next (u.replied 0x41 .busy [])) ∧
      ((s.tables.get k).awaiting = false →
        (∀ r, firstBadRow k pending = some r →
          exec .tableCommit s = .next (u.replied 0x41 .badValue [BitVec.ofNat 8 r])) ∧
        (firstBadRow k pending = none → k = .route →
          exec .tableCommit s = .next
            (({ u with tables := { s.tables with route := ⟨pending, pending, false⟩ } } : State).replied 0x41 .ok [])) ∧
        (firstBadRow k pending = none → k = .policy →
          let swapped : State := { u with tables := { s.tables with policy := ⟨pending, pending, false⟩ } }
          let row := policyRow pending s.posture
          let target := if s.spm.requested = some .deep ∧ row.depth = .deep then Depth.deep else Depth.doze
          ∃ t, exec .tableCommit s = .next t ∧ swapped.TablesStand t ∧
            replyEntry 0x41 .ok [] ∈ t.upq.entries ∧ t.spm.activityTimer = 0 ∧
            t.spm.supply = supplyTerm (policyGlobals pending) s.spm.lastPower ∧
            t.spm.penClaim = min t.spm.stageLimit (min t.spm.supply t.spm.cap - t.spm.latchClaim) ∧
            (s.spm.system = .asleep → t.spm.target = some target) ∧
            (s.spm.system = .asleep → s.spm.hub = .deep →
              target = .doze ∨ (row.chargeInSleep = true ∧ s.pch.pen.isSome = true) → t.spm.clock.isSome = true) ∧
            t.pch.pauses.sleep = t.sleepWanted ∧ s.OnlyIn [.tables, .cnv, .pch, .bcd, .spm, .upq, .slk] t) ∧
        (firstBadRow k pending = none → k = .charge →
          (s.pch.driver.running = true → exec .tableCommit s = .next { waits with pch.stepped := false }) ∧
          (s.pch.driver.running = false →
            ∃ t, exec .tableCommit s = .next t ∧ u.SwapsCharge t ∧
              s.OnlyIn [.tables, .cnv, .pch, .bcd, .spm, .upq, .slk] t)) ∧
        (firstBadRow k pending = none → k = .posture ∨ k = .schedule ∨ k = .channel →
          exec .tableCommit s = .next waits)))

/-- BASE_WRITE (R93): the checks in their order, and a write that passes them at the tail of the write queue. -/
def Obligations.BaseWritesAreCheckedAndQueued : Prop :=
  ∀ (s : State) (rest : List DownFrame) (n l : Byte) (data : List Byte), s.offers ⟨0x44, n :: l :: data⟩ rest →
    let u := s.taken rest
    let has : Prop := ∃ r, s.blk.record = some r ∧ r.capability.getLsbD n.toNat = true
    (n ≠ 6 → n ≠ 7 → exec .baseWrite s = .next (u.replied 0x44 .badValue [])) ∧
    (n = 6 ∨ n = 7 →
      (32 < l.toNat → exec .baseWrite s = .next (u.replied 0x44 .badValue [])) ∧
      (l.toNat ≤ 32 → data.length ≠ l.toNat → exec .baseWrite s = .next (u.replied 0x44 .badLength [])) ∧
      (l.toNat ≤ 32 → data.length = l.toNat →
        (s.blk.link ≠ .running → exec .baseWrite s = .next (u.replied 0x44 .baseAbsent [])) ∧
        (s.blk.link = .running → ¬has → exec .baseWrite s = .next (u.replied 0x44 .badValue [])) ∧
        (s.blk.link = .running → has → 8 ≤ s.psc.writes.length → exec .baseWrite s = .next (u.replied 0x44 .full [])) ∧
        (s.blk.link = .running → has → s.psc.writes.length < 8 →
          exec .baseWrite s = .next
            (({ u with
                psc.writes := s.psc.writes ++ [⟨if n = 6 then BaseFn.light else BaseFn.indicator, data⟩] } : State).replied
              0x44 .ok []))))

/-- DETACH_GRANT, DETACH_DENY and DETACH_RELEASE (R117, R118, R120, R122) by detach state: a waiting request is granted, which drives the
latch, takes the claim and brings the hub out of DEEP (R175), or denied, each with its DETACH notice (R126); with none waiting they
answer LATE or NOT_PENDING; DETACH_RELEASE in LATCHED is refused where the posture record does not allow a detach. The claim may
pause the charger, and the stop of its driver may bring the CHARGE swap (R135). The reply stands ahead of the DETACH notice, as the
worked example "a detach by button and grant" has it.
The model's choices in it: notes/assumptions/30.md, notes/assumptions/45.md. -/
def Obligations.DetachRequestsActByState : Prop :=
  ∀ (s : State) (rest : List DownFrame),
    let u := s.taken rest
    let ahead (kind : Byte) (t : State) : Prop :=
      replyEntry kind .ok [] ∈ t.upq.entries ∧
      ((∀ e, e ∈ s.upq.entries → e.isNotice .detach = false) →
        ∃ a z, t.upq.entries = a ++ replyEntry kind .ok [] :: z ∧ ∀ e, e ∈ a → e.isNotice .detach = false)
    let released (kind : Byte) (src : ReleaseSource) (c : Instr) : Prop :=
      ∃ t, exec c s = .next t ∧
        t.dlu = { s.dlu with
          state := .releasing, requestTimer := none, timedOut := false, source := some src
          ldrv := true, pulseTimer := some ⟨0, s.policy.latchPulse⟩ } ∧
        t.spm.latchClaim = s.policy.latchCurrent ∧ (s.spm.hub = .deep → t.spm.clock.isSome = true) ∧
        t.upq.Holds (.detach .releasing (some src) s.dlu.state .releasing s.pins.lsns s.posture) ∧
        ahead kind t ∧ s.TablesStand t ∧ s.OnlyIn [.tables, .cnv, .pch, .bcd, .dlu, .spm, .upq, .slk] t
    (s.offers ⟨0x45, []⟩ rest →
      (s.dlu.state = .requested → released 0x45 .grant .detachGrant) ∧
      (s.dlu.state ≠ .requested → s.dlu.timedOut = true →
        exec .detachGrant s = .next (u.replied 0x45 .late [])) ∧
      (s.dlu.state ≠ .requested → s.dlu.timedOut = false →
        exec .detachGrant s = .next (u.replied 0x45 .notPending []))) ∧
    (s.offers ⟨0x46, []⟩ rest →
      (s.dlu.state = .requested →
        ∃ t, exec .detachDeny s = .next t ∧ t.dlu = { s.dlu with state := .latched, requestTimer := none } ∧
          t.upq.Holds (.detach .denied none .requested .latched s.pins.lsns s.posture) ∧
          ahead 0x46 t ∧ s.OnlyIn [.dlu, .spm, .upq, .slk] t) ∧
      (s.dlu.state ≠ .requested → exec .detachDeny s = .next (u.replied 0x46 .notPending []))) ∧
    (s.offers ⟨0x47, []⟩ rest →
      (s.dlu.state = .latched →
        (s.posture ≠ .closed ∧ s.posture ≠ .unknown ∧ s.pae.record.permission = true →
          released 0x47 .software .detachRelease) ∧
        (¬(s.posture ≠ .closed ∧ s.posture ≠ .unknown ∧ s.pae.record.permission = true) →
          exec .detachRelease s = .next (u.replied 0x47 .badValue [2]))) ∧
      (s.dlu.state = .requested → released 0x47 .grant .detachRelease) ∧
      (s.dlu.state = .releasing ∨ s.dlu.state = .released →
        exec .detachRelease s = .next (u.replied 0x47 .ok [])) ∧
      (s.dlu.state = .absent → exec .detachRelease s = .next (u.replied 0x47 .baseAbsent [])))

/-- CHARGE_CONTROL (R151, R164, R165): the system cap, at most 1000, and the pen claim computed from it; then the enable flag.
Disabling ends in OFF with the faults and counts cleared; enabling with a pen in OFF sets the attempt count to 0 and leads to WAIT,
or to PAUSED while a reason holds; the flag that stands already changes nothing more. The reply stands ahead of what the cap and the
flag bring. A stop of the driver may bring the CHARGE swap (R135).
The model's choices in it: notes/assumptions/30.md. -/
def Obligations.ChargeControlSetsCapThenEnable : Prop :=
  ∀ (s : State) (rest : List DownFrame) (e lo hi : Byte), s.offers ⟨0x48, [e, lo, hi]⟩ rest →
    let capped := ((s.taken rest).replied 0x48 .ok []).rebudget { s.spm with cap := min (lo.toNat + 256 * hi.toNat) 1000 }
    (e ≠ 0 → e ≠ 1 → exec .chargeControl s = .next ((s.taken rest).replied 0x48 .badValue [])) ∧
    (s.pch.enable = (e == 1) → e = 0 ∨ e = 1 → exec .chargeControl s = .next capped) ∧
    (e = 0 ∨ e = 1 →
      ∃ t, exec .chargeControl s = .next t ∧
        t.spm.cap = min (lo.toNat + 256 * hi.toNat) 1000 ∧ t.spm.supply = s.spm.supply ∧ t.spm.latchClaim = s.spm.latchClaim ∧
        t.spm.penClaim = min t.spm.stageLimit (min t.spm.supply t.spm.cap - t.spm.latchClaim) ∧
        (t.pch.enable = true ↔ e = 1) ∧ replyEntry 0x48 .ok [] ∈ t.upq.entries ∧
        (e = 0 → s.pch.enable = true → s.pch.state ≠ .off →
          t.pch.state = .off ∧ t.pch.faultReason = none ∧ t.pch.faultCode = none ∧ t.pch.attempts = 0 ∧ t.pch.overcurrent = 0 ∧
          t.pch.timeouts = 0 ∧ t.pch.waiting = none ∧ t.pch.driver.running = false ∧
          t.pch.pen = s.pch.pen.map fun p => { p with stage := none }) ∧
        (e = 1 → s.pch.enable = false → s.pch.state = .off → s.pch.pen.isSome = true →
          t.pch.attempts = 0 ∧ t.pch.state = (if t.pch.pauses.none then ChargerState.wait else ChargerState.paused)) ∧
        s.TablesStand t ∧ s.OnlyIn [.tables, .cnv, .pch, .bcd, .spm, .upq, .slk] t)

/-- SYSTEM_STATE_SLEEPING and SYSTEM_STATE_AWAKE (R172, R176, R173): sleeping leads to ASLEEP with the requested depth, the target depth
formed from it and the current row, and an empty wake cause; the hub goes to DOZE from RUN, where the slots without a doze period are
owed nothing (R86), and a target of DOZE in DEEP begins a clock start (R175); awake is activity, ends ASLEEP in DOZE and WAKING in
AWAKE with the hub in RUN, and in DEEP marks the clock start. Another state, or another depth with sleeping, is BAD_VALUE.
The model's choices in it: notes/assumptions/22.md. -/
def Obligations.SystemStateSleepsAndWakes : Prop :=
  ∀ (s : State) (rest : List DownFrame) (state depth : Byte), s.offers ⟨0x49, [state, depth]⟩ rest →
    let u := s.taken rest
    (2 ≤ state.toNat ∨ (state = 1 ∧ 2 ≤ depth.toNat) →
      (state ≠ 1 → exec .systemStateAwake s = .next (u.replied 0x49 .badValue [])) ∧
      exec .systemStateSleeping s = .next (u.replied 0x49 .badValue [])) ∧
    (state = 1 → depth = 0 ∨ depth = 1 →
      let target := if depth = 1 ∧ s.row.depth = .deep then Depth.deep else Depth.doze
      ∃ t, exec .systemStateSleeping s = .next t ∧ t.spm.system = .asleep ∧
        t.spm.requested = some (if depth = 1 then Depth.deep else Depth.doze) ∧ t.spm.target = some target ∧
        t.spm.wakeCause = 0 ∧ t.spm.firstPower = none ∧
        t.spm.hub = (if s.spm.system = .asleep then s.spm.hub else .doze) ∧
        (∀ c, t.spm.clock = some c → c.awake = false) ∧
        (s.spm.system = .asleep → s.spm.hub = .deep → target = .doze → t.spm.clock.isSome = true) ∧
        (s.spm.system = .asleep ∨ s.spm.hub = .doze → t.psc = s.psc) ∧
        (s.spm.system ≠ .asleep → s.spm.hub ≠ .doze →
          t.psc = { s.psc with
            owed := (List.range s.psc.owed.length).map fun i =>
              if (s.slot i).periodDoze = 0 then 0 else s.psc.owed.getD i 0 }) ∧
        t.pch.pauses.sleep = t.sleepWanted ∧ replyEntry 0x49 .ok [] ∈ t.upq.entries ∧
        s.TablesStand t ∧ s.OnlyIn [.tables, .cnv, .psc, .pch, .bcd, .spm, .upq, .slk] t) ∧
    (state = 0 →
      ∃ t, exec .systemStateAwake s = .next t ∧ t.spm.activityTimer = 0 ∧ t.spm.wakeCause = s.spm.wakeCause ∧
        replyEntry 0x49 .ok [] ∈ t.upq.entries ∧
        s.TablesStand t ∧ s.OnlyIn [.tables, .cnv, .pch, .bcd, .spm, .upq, .slk] t ∧
        (s.spm.system = .awake ∨ s.spm.system = .advised → t.spm.system = .awake ∧ t.spm.hub = s.spm.hub) ∧
        (s.spm.system = .asleep → s.spm.hub = .deep →
          t.spm.system = .asleep ∧ t.spm.hub = .deep ∧
          t.spm.clock = some ⟨(s.spm.clock.map ClockStart.elapsed).getD 0, true⟩) ∧
        ((s.spm.system = .asleep ∧ s.spm.hub ≠ .deep) ∨ s.spm.system = .waking →
          t.spm.system = .awake ∧ t.spm.hub = .run ∧ t.spm.requested = none ∧ t.spm.target = none ∧
          t.pch.pauses.sleep = t.sleepWanted))

/-! ### Resets -/

/-- HUB_RESET_LINKS (R189, R112, R113, R124) makes the base link and the latch unit absent, with the DETACH notice of a base that is gone;
it clears the link counters, removes the waiting base reports and the rotation candidate, keeps every notice and reply in its place and
φ_L and ψ of the last evaluation (R31), and answers OK; HUB_RESET_ALL (R190) answers OK and stops further requests; another scope is BAD_VALUE. SOFT_RESET,
RESET_PIN and POWER_ON_RESET (R111, R136, R179) leave the reset state with their EVENT notice and the rate that the straps select;
that the waiting commands and the pins stay is the model's choice (notes/assumptions/7.md), and so is that either row answers another
scope (notes/assumptions/22.md). -/
def Obligations.ResetsClearWhatTheyName : Prop :=
  ∀ s : State,
    (∀ rest, s.offers ⟨0x4A, [0]⟩ rest →
      let kinds (u : Upq) : List (Option NoticeKind) := (u.entries.filter fun e => !e.isReport).map fun e => match e.content with
        | .notice n => some n.kind
        | _ => none
      ∃ t, exec .hubResetLinks s = .next t ∧
        t.blk = ⟨.absent, .k250, none, none, 0, 0, none, false, 0, 0, false, none⟩ ∧
        t.psc = ⟨List.replicate 12 0, List.replicate 12 0, []⟩ ∧ t.posture = .detached ∧ t.spm.lastPower = none ∧
        t.pae.rotCandidate = none ∧ t.pae.candidate = none ∧ t.pae.hinge = ⟨.noAngle, none, none⟩ ∧
        t.pae.phiL = s.pae.phiL ∧ t.pae.psi = s.pae.psi ∧
        (s.LatchOk → t.dlu = ⟨.absent, none, none, none, false, .unknown, none, none, false⟩) ∧
        (s.dlu.state ≠ .absent → t.upq.Holds (.detach .detached none s.dlu.state .absent s.pins.lsns .detached)) ∧
        t.counters = { Counters.zero with
          mergedS := s.counters.mergedS, droppedC := s.counters.droppedC, forcedBlank := s.counters.forcedBlank
          port := s.counters.port, downCrc := s.counters.downCrc, overrun := s.counters.overrun } ∧
        (∀ e, e ∈ t.upq.entries → e.isReport = true → e.started = true) ∧
        (∃ more, kinds t.upq = kinds s.upq ++ more) ∧
        (∃ more, t.upq.entries.filter Entry.isReply = s.upq.entries.filter Entry.isReply ++ more) ∧
        replyEntry 0x4A .ok [] ∈ t.upq.entries ∧ s.TablesStand t ∧
        s.OnlyIn [.counters, .tables, .cnv, .pae, .blk, .psc, .pch, .bcd, .dlu, .spm, .upq, .slk] t) ∧
    (∀ rest, s.offers ⟨0x4A, [1]⟩ rest →
      exec .hubResetAll s = .next { s with
        slk.down := rest, slk.resetAll := .replyQueued
        upq := { s.upq with
          entries := s.upq.entries ++ [⟨.reply ⟨0x4A, .ok, [], true⟩, false⟩]
          placesTaken := s.upq.placesTaken + 1 } }) ∧
    (∀ rest scope, s.offers ⟨0x4A, [scope]⟩ rest → scope ≠ 0 → scope ≠ 1 →
      exec .hubResetLinks s = .next ((s.taken rest).replied 0x4A .badValue []) ∧
      exec .hubResetAll s = .next ((s.taken rest).replied 0x4A .badValue [])) ∧
    (∀ straps : Straps,
      let speed : LinkSpeed := if straps.rate1 then .mbit3 else if straps.rate0 then .mbit2 else .mbit1
      let after (code : EventCode) : State :=
        { State.reset with
          pending := s.pending, pins := { s.pins with straps := straps }, slk := { State.reset.slk with rate := speed }
          upq := ⟨[⟨.notice (.event code 1), false⟩], [], 0⟩ }
      exec (.powerOnReset straps) s = .next (after .por) ∧
      exec (.resetPin straps) s = .next (after .pinReset) ∧
      (s.slk.resetAll = .replySent →
        exec (.softReset straps) s = .next
          { after .softReset with pch := { State.reset.pch with enable := s.chg.enabledAtReset } }))

/-! ### What holds after reset, and what every step keeps -/

/-- What reset leaves: the values that R13, R18, R31, R32, R41, R69, R85, R92, R111, R113, R127, R136, R163, R164, R169, R181, R185 and
R66 give, every invariant below, and no command waiting.
The model's choices in it: notes/assumptions/39.md. -/
def Obligations.ResetLeavesTheManualsValues : Prop :=
  let s := State.reset
  s.pending = [] ∧ s.ticks = 0 ∧ s.counters = .zero ∧ (∀ k, s.tables.get k = ⟨defaultImage k, defaultImage k, false⟩) ∧
  s.cnv.slotS = .idle ∧ s.cnv.slotC = .idle ∧ s.cnv.fault = false ∧ s.cnv.windows = List.replicate 8 .unset ∧
  s.pae.hinge = ⟨.noAngle, none, none⟩ ∧ s.pae.phiL = none ∧ s.pae.psi = none ∧ s.pae.evaluatedLidAge = none ∧
  s.pae.evaluatedBaseAge = none ∧ s.pae.rotation = .r0 ∧ s.pae.record = ⟨.detached, none, false, 0⟩ ∧
  s.blk.link = .absent ∧ s.blk.record = none ∧ s.psc.owed = List.replicate 12 0 ∧ s.psc.writes = [] ∧
  s.pch.state = .off ∧ s.pch.enable = true ∧ s.pch.pen = none ∧ s.pch.driver.running = false ∧
  s.pch.driver.period = 256 ∧ s.pch.driver.dead = 8 ∧ s.pch.driver.duty = 0 ∧ s.bcd.mode = .off ∧ s.bcd.decoder = .hunt ∧
  s.dlu.state = .absent ∧ s.spm.system = .awake ∧ s.spm.hub = .run ∧ s.spm.cap = 1000 ∧ s.spm.supply = 150 ∧
  s.upq.entries = [⟨.notice (.event .por 1), false⟩] ∧ s.slk.framer = ⟨.hunt, [], 0⟩ ∧ s.slk.down = [] ∧
  s.QueueOk ∧ s.ImagesOk ∧ s.PostureOk ∧ s.LatchOk ∧ s.DriverOk ∧ s.ConverterOk ∧ s.DutyOk ∧ s.ChargerOk ∧ s.PausesOk ∧
  s.SensesOk ∧ s.PowerOk ∧ s.LinkOk ∧ s.AnglesOk ∧ s.PollsOk ∧ s.CountersOk

/-- Every step keeps the bounds of the upward queue and its reply places (R105 to R107, R109, R182). -/
def Obligations.EveryStepKeepsTheQueue : Prop :=
  ∀ s t : State, s.QueueOk → step s = .next t → t.QueueOk

/-- Only validated images ever take effect (R185), and every event counter stays within 0..255. -/
def Obligations.EveryStepKeepsImagesAndCounters : Prop :=
  ∀ s t : State, step s = .next t → (s.ImagesOk → t.ImagesOk) ∧ (s.CountersOk → t.CountersOk)

/-- Every step keeps the coil driver with the charger and the blanking (R128), and a CHARGE table that awaits swap with a running driver
(R135); it keeps the latch unit's outputs and timers with its state, and its timed-out mark clear in ABSENT (R113, R122, R124, R166).

R4: it keeps the converter's promise: one conversion at a time, and no blank-coil channel converted but with the blanking in force, so
that by R128 the half-bridge does not drive. R129: it keeps the duty in effect within what period and dead band allow, and in CHARGE
within the range of the pen record's stage, from states that meet the invariants of images, driver and charger.
The model's choices in it: notes/assumptions/20.md. -/
def Obligations.EveryStepKeepsDriverAndLatch : Prop :=
  (∀ s t : State, step s = .next t →
     (s.DriverOk → t.DriverOk) ∧ (s.LatchOk → t.LatchOk) ∧ (s.ConverterOk → t.ConverterOk) ∧
     (s.ImagesOk → s.DriverOk → s.ChargerOk → s.DutyOk → t.DutyOk)) ∧
  (∀ (s : State) (ch : Nat) (rest : List Nat), s.DriverOk → s.ConverterOk →
     s.cnv.slotS = .scanning → s.cnv.todo = ch :: rest → (s.chanRow ch).blankCoil = true →
     s.cnv.slotC = .idle ∧ s.pch.driver.hbh = false ∧ s.pch.driver.hbl = false)

/-- Every step keeps the charger's state with what runs beside it, the pause reasons and the pen claim with what they are computed from,
and every reader's copy of a sense with the converter's windows (R15, R136 to R153, R165, R173). That only validated images take
effect and that the driver follows the charger and the blanking are premises, which every step keeps too. -/
def Obligations.EveryStepKeepsTheCharger : Prop :=
  ∀ s t : State, s.ImagesOk → s.DriverOk → s.SensesOk → step s = .next t →
    t.SensesOk ∧ (s.PausesOk → t.PausesOk) ∧ (s.ChargerOk → t.ChargerOk)

/-- Every step keeps system state, hub power state and link state fitted together (R76, R169, R172 to R176). -/
def Obligations.EveryStepKeepsThePowerStates : Prop :=
  ∀ s t : State, s.PowerOk → step s = .next t → t.PowerOk

/-- Every step keeps the base link's record, which is held in RUNNING and LISTEN and absent in ABSENT, ATTACHING and IDENTIFY, its timers
and its transaction fitted to the link state, and the scheduler's counts and the write queue within their bounds (R56, R69, R75, R85,
R87, R92, R93).
The model's choices in it: notes/assumptions/18.md. -/
def Obligations.EveryStepKeepsTheBaseLink : Prop :=
  ∀ s t : State, s.ImagesOk → s.PollsOk → step s = .next t → t.PollsOk ∧ (s.LinkOk → t.LinkOk)

/-- Every step keeps the angles, samples and ages in their ranges (R20 to R24, R27, R29, R31). -/
def Obligations.EveryStepKeepsTheAngles : Prop :=
  ∀ s t : State, s.AnglesOk → step s = .next t → t.AnglesOk

/-- The posture is DETACHED exactly while the base link is ABSENT (R42), after every step. -/
def Obligations.ThePostureIsDetachedExactlyWithoutABase : Prop :=
  ∀ s t : State, s.ImagesOk → s.LinkOk → s.PostureOk → step s = .next t → t.PostureOk

/-! ### Encodings -/

/-- R191: a table row's characters and its field values determine each other: decoding an encoded row whose fields fit their widths gives
it back, with its row length; encoding a decoded row of the right length gives its characters back; a row that passes the range
check fits. The fields of every row, each by its place and with its width, and the row lengths that follow.

R191, its code table: every code counts from 0 in the order of the table, tables from 1, and the wake sources are the bits of their set.
The codes that only a layout lists count in its order too: the model's choice, notes/assumptions/45.md. -/
def Obligations.RowsAndTheirEncodingsAgree : Prop :=
  (∀ (k : TableId) (r : Nat),
    (∀ row : Row, row.length = (fieldsOf k r).length →
      (∀ p, p ∈ (fieldsOf k r).zip row → p.2 < 256 ^ p.1.width) →
      (encodeRow k r row).length = rowLength k r ∧ decodeRow k r (encodeRow k r row) = row) ∧
    (∀ bs : List Byte, bs.length = rowLength k r → encodeRow k r (decodeRow k r bs) = bs) ∧
    (∀ row : Row, fieldsOk k r row = true →
      row.length = (fieldsOf k r).length ∧ ∀ p, p ∈ (fieldsOf k r).zip row → p.2 < 256 ^ p.1.width)) ∧
  (let widths (k : TableId) (r : Nat) : List Nat := (fieldsOf k r).map FieldSpec.width
   (widths .posture 0 = [1, 1, 2, 1, 1, 2, 1, 1, 2, 2, 2] ∧ rowLength .posture 0 = 16) ∧
   (widths .schedule 0 = [1, 1, 1, 1, 1] ∧ rowLength .schedule 0 = 5) ∧
   (widths .channel 0 = [2, 2, 2, 1, 1, 1] ∧ rowLength .channel 0 = 9) ∧
   (widths .charge 0 = [1, 2, 1, 1, 1, 1, 1, 2, 2, 2, 1, 2, 2, 1, 1] ∧ rowLength .charge 0 = 21) ∧
   (widths .policy 0 = [2, 2, 2, 2, 2, 2, 2, 2, 1] ∧ rowLength .policy 0 = 17) ∧
   (∀ r, 1 ≤ r →
     (widths .route r = [1, 1, 1, 1, 1, 1, 1, 1] ∧ rowLength .route r = 8) ∧
     (widths .posture r = [1, 2, 2, 2, 2, 1, 2, 1, 1] ∧ rowLength .posture r = 14) ∧
     (widths .schedule r = [1, 1, 2, 2, 1, 1] ∧ rowLength .schedule r = 8) ∧
     (widths .channel r = [1, 2, 2, 1, 1, 1] ∧ rowLength .channel r = 8) ∧
     (widths .charge r = [1, 1, 2, 2, 2, 2] ∧ rowLength .charge r = 10) ∧
     (widths .policy r = [2, 1, 1, 1, 1] ∧ rowLength .policy r = 6))) ∧
  (∀ img : Image,
    let g (i : Nat) : Nat := img.cell 0 i
    (∀ kind p, routeCell img kind p = .ofCode (img.cell kind p.code)) ∧
    postureGlobals img =
      { rowCount := g 0, periodRun := g 1, periodDoze := g 2, shift := g 3, staleLimit := g 4, mMin := g 5, amb := g 6,
        rotHysteresis := g 7, tiltMin := g 8, rotDwell := g 9, anglePeriod := g 10 } ∧
    scheduleGlobals img = { slotCount := g 0, watermark := g 1, failLimit := g 2, writeRank := g 3, turnaround := g 4 } ∧
    channelGlobals img =
      { periodRun := g 0, periodDoze := g 1, periodDeep := g 2, deepSet := BitVec.ofNat 8 (g 3), policy := .ofCode (g 4),
        deferLimit := g 5 } ∧
    chargeGlobals img =
      { stageCount := g 0, period := g 1, deadBand := g 2, dutyStep := g 3, divider := g 4, identBurst := g 5,
        identAttempts := g 6, waitInterval := g 7, packetTimeout := g 8, recheckInterval := g 9, rechargeLevel := g 10,
        resonanceLo := g 11, resonanceHi := g 12, persistence := g 13, enabledAtReset := g 14 == 1 } ∧
    policyGlobals img =
      { latchPulse := g 0, latchCurrent := g 1, requestTimeout := g 2, releaseWindow := g 3, forcedHold := g 4,
        supplyExternal := g 5, supplyBattery := g 6, supplyOtherwise := g 7, wakeWidth := g 8 } ∧
    (∀ r,
      let c (i : Nat) : Nat := img.cell r i
      let d (i : Nat) : Nat := img.cell (r + 1) i
      postureRow img r =
        { posture := .ofCode (c 0), hingeLo := c 1, hingeHi := c 2, baseLo := c 3, baseHi := c 4, hysteresis := c 5,
          dwell := c 6, rotation := .ofCode (c 7), detach := c 8 == 1 } ∧
      slotRow img r =
        { fn := d 0, maxLength := d 1, periodRun := d 2, periodDoze := d 3, maxOwed := d 4, backpressure := d 5 == 1 } ∧
      channelRow img r =
        { inScan := d 0 == 1, low := d 1, high := d 2, mode := .ofCode (d 3), debounce := d 4, blankCoil := d 5 == 1 } ∧
      stageRow img r =
        { levelLo := d 0, levelHi := d 1, dutyMin := d 2, dutyMax := d 3, currentLimit := d 4, maxTime := d 5 }) ∧
    (∀ p : Posture,
      let d (i : Nat) : Nat := img.cell (p.code + 1) i
      policyRow img p =
        { idleTimeout := d 0, adviseOnEntry := d 1 == 1, depth := .ofCode (d 2), wakeMask := BitVec.ofNat 8 (d 3),
          chargeInSleep := d 4 == 1 })) ∧
  (let postures : List Posture := [.unknown, .detached, .closed, .laptop, .flat, .stand, .tent, .tablet]
   (postures.map Posture.code = List.range 8 ∧ (List.range 8).map Posture.ofCode = postures) ∧
   [HingeStatus.noAngle, .held, .fresh].map HingeStatus.code = List.range 3 ∧
   [Rotation.r0, .r90, .r180, .r270].map Rotation.code = List.range 4 ∧
   [LinkState.absent, .attaching, .identify, .running, .fault, .listen].map LinkState.code = List.range 6 ∧
   [DetachState.absent, .latched, .requested, .releasing, .released].map DetachState.code = List.range 5 ∧
   [ChargerState.off, .wait, .ident, .charge, .paused, .done, .fault].map ChargerState.code = List.range 7 ∧
   [FaultReason.noPen, .foreignObject, .stageTime, .overcurrent, .penFault].map FaultReason.code = List.range 5 ∧
   ([WakeSource.keys, .pointer, .button, .penInsert, .penRemove, .lidOpen, .baseAttach, .baseDetach].map WakeSource.index =
      List.range 8 ∧ ∀ w : WakeSource, w.bit = BitVec.twoPow 8 w.index) ∧
   [ReplyCode.ok, .badKind, .badLength, .badTable, .badRow, .badValue, .busy, .late, .baseAbsent, .full,
      .notPending].map ReplyCode.code = List.range 11 ∧
   [EventCode.por, .pinReset, .softReset, .baseFault, .converterFault, .latchSense, .lspFault,
      .counterSaturated].map EventCode.code = List.range 8 ∧
   [WindowState.unset, .inside, .outside].map WindowState.code = List.range 3 ∧
   (List.range 3).map WindowMode.ofCode = [.off, .inside, .outside] ∧
   (List.range 3).map RouteAction.ofCode = [.forward, .drop, .coalesce] ∧
   (List.range 3).map RotationMode.ofCode = [.free, .lock0, .lock180] ∧
   ((List.range 2).map Depth.ofCode = [.doze, .deep] ∧ [Depth.doze, .deep].map Depth.code = List.range 2) ∧
   (List.range 2).map SlotCPolicy.ofCode = [.ignore, .hold] ∧
   ([LinkRate.k250, .m1].map LinkRate.code = List.range 2 ∧ [LinkRate.ofCode 0, .ofCode 1] = [.k250, .m1]) ∧
   (List.range 8).map TableId.ofNumber =
     [none, some .route, some .posture, some .schedule, some .channel, some .charge, some .policy, none] ∧
   (List.range 7).map Subject.ofCode =
     [some .status, some .posture, some .pen, some .base, some .converter, some .counters, none]) ∧
  ([PostureCause.link, .hall, .zone, .angle].map PostureCause.code = List.range 4 ∧
   [RotationCause.lock, .free].map RotationCause.code = List.range 2 ∧
   [ButtonState.released, .pressed, .unknown].map ButtonState.code = List.range 3 ∧
   [ReleaseSource.grant, .software, .forced].map ReleaseSource.code = List.range 3 ∧
   [DetachOutcome.attached, .requested, .notAllowed, .denied, .timedOut, .releasing, .aborted,
      .detached].map DetachOutcome.code = List.range 8 ∧
   [BurstKind.full, .recheck].map BurstKind.code = List.range 2 ∧
   [Blanking.idle, .requested, .inForce].map Blanking.code = List.range 3 ∧
   [CaptureMode.off, .resonance, .edge].map CaptureMode.code = List.range 3 ∧
   [SlotS.idle, .deferring, .blankWait, .ready, .scanning].map SlotS.code = List.range 5 ∧
   [SlotC.idle, .converting].map SlotC.code = List.range 2 ∧
   [SystemState.awake, .advised, .asleep, .waking].map SystemState.code = List.range 4 ∧
   [HubPower.run, .doze, .deep].map HubPower.code = List.range 3 ∧
   [Advice.advise, .withdrawn].map Advice.code = List.range 2 ∧
   [AdviceReason.idle, .posture].map AdviceReason.code = List.range 2)
end

