-- ==== Sys2Proof/Laws/State.lean ====
section
/-!
SUPPORT. One lemma for each field of each named update of a block's record, true by rfl, and what reading a counter or a table gives
after one was set.
-/

namespace Sys2Proof.Machine

/-! ### Counters and tables by name -/

@[simp] theorem Counters.get_set_self (c : Counters) (k : Counter) (n : Nat) : (c.set k n).get k = n := by cases k <;> rfl

@[simp] theorem Counters.get_set_of_ne (c : Counters) (j k : Counter) (n : Nat) (h : j ≠ k) : (c.set k n).get j = c.get j := by
  cases k <;> cases j <;> first | rfl | exact absurd rfl h

@[simp] theorem Counters.get_zero (k : Counter) : Counters.zero.get k = 0 := by cases k <;> rfl

@[simp] theorem Tables.get_set_self (t : Tables) (k : TableId) (v : Table) : (t.set k v).get k = v := by cases k <;> rfl

@[simp] theorem Tables.get_set_of_ne (t : Tables) (j k : TableId) (v : Table) (h : j ≠ k) : (t.set k v).get j = t.get j := by
  cases k <;> cases j <;> first | rfl | exact absurd rfl h

/-! ### The queue's update functions -/

@[simp] theorem Upq.issue_placesTaken (u : Upq) (n : Notice) : (u.issue n).placesTaken = u.placesTaken := by
  unfold Upq.issue
  (repeat' split) <;> rfl

@[simp] theorem Upq.startHead_followOn (u : Upq) : u.startHead.followOn = u.followOn := by
  unfold Upq.startHead
  split <;> rfl

@[simp] theorem Upq.startHead_placesTaken (u : Upq) : u.startHead.placesTaken = u.placesTaken := by
  unfold Upq.startHead
  split <;> rfl

/-! ### Driver.stop -/

@[simp] theorem Driver.stop_period (d : Driver) : d.stop.period = d.period := rfl
@[simp] theorem Driver.stop_dead (d : Driver) : d.stop.dead = d.dead := rfl
@[simp] theorem Driver.stop_duty (d : Driver) : d.stop.duty = d.duty := rfl
@[simp] theorem Driver.stop_periodB (d : Driver) : d.stop.periodB = d.periodB := rfl
@[simp] theorem Driver.stop_deadB (d : Driver) : d.stop.deadB = d.deadB := rfl
@[simp] theorem Driver.stop_dutyB (d : Driver) : d.stop.dutyB = d.dutyB := rfl
@[simp] theorem Driver.stop_running (d : Driver) : d.stop.running = false := rfl
@[simp] theorem Driver.stop_periodNo (d : Driver) : d.stop.periodNo = 0 := rfl
@[simp] theorem Driver.stop_position (d : Driver) : d.stop.position = 0 := rfl
@[simp] theorem Driver.stop_compared (d : Driver) : d.stop.compared = false := rfl

/-! ### Driver.load -/

@[simp] theorem Driver.load_period (d : Driver) : d.load.period = d.periodB := rfl
@[simp] theorem Driver.load_dead (d : Driver) : d.load.dead = d.deadB := rfl
@[simp] theorem Driver.load_duty (d : Driver) : d.load.duty = d.dutyB := rfl
@[simp] theorem Driver.load_periodB (d : Driver) : d.load.periodB = d.periodB := rfl
@[simp] theorem Driver.load_deadB (d : Driver) : d.load.deadB = d.deadB := rfl
@[simp] theorem Driver.load_dutyB (d : Driver) : d.load.dutyB = d.dutyB := rfl
@[simp] theorem Driver.load_running (d : Driver) : d.load.running = d.running := rfl
@[simp] theorem Driver.load_periodNo (d : Driver) : d.load.periodNo = d.periodNo := rfl
@[simp] theorem Driver.load_position (d : Driver) : d.load.position = d.position := rfl
@[simp] theorem Driver.load_compared (d : Driver) : d.load.compared = d.compared := rfl

/-! ### Driver.start -/

@[simp] theorem Driver.start_period (d : Driver) : d.start.period = d.periodB := rfl
@[simp] theorem Driver.start_dead (d : Driver) : d.start.dead = d.deadB := rfl
@[simp] theorem Driver.start_duty (d : Driver) : d.start.duty = d.dutyB := rfl
@[simp] theorem Driver.start_periodB (d : Driver) : d.start.periodB = d.periodB := rfl
@[simp] theorem Driver.start_deadB (d : Driver) : d.start.deadB = d.deadB := rfl
@[simp] theorem Driver.start_dutyB (d : Driver) : d.start.dutyB = d.dutyB := rfl
@[simp] theorem Driver.start_running (d : Driver) : d.start.running = true := rfl
@[simp] theorem Driver.start_periodNo (d : Driver) : d.start.periodNo = 1 := rfl
@[simp] theorem Driver.start_position (d : Driver) : d.start.position = 0 := rfl
@[simp] theorem Driver.start_compared (d : Driver) : d.start.compared = false := rfl

/-! ### Driver.boundary -/

@[simp] theorem Driver.boundary_period (d : Driver) (n : Nat) : (d.boundary n).period = d.periodB := rfl
@[simp] theorem Driver.boundary_dead (d : Driver) (n : Nat) : (d.boundary n).dead = d.deadB := rfl
@[simp] theorem Driver.boundary_duty (d : Driver) (n : Nat) : (d.boundary n).duty = d.dutyB := rfl
@[simp] theorem Driver.boundary_periodB (d : Driver) (n : Nat) : (d.boundary n).periodB = d.periodB := rfl
@[simp] theorem Driver.boundary_deadB (d : Driver) (n : Nat) : (d.boundary n).deadB = d.deadB := rfl
@[simp] theorem Driver.boundary_dutyB (d : Driver) (n : Nat) : (d.boundary n).dutyB = d.dutyB := rfl
@[simp] theorem Driver.boundary_running (d : Driver) (n : Nat) : (d.boundary n).running = d.running := rfl
@[simp] theorem Driver.boundary_periodNo (d : Driver) (n : Nat) : (d.boundary n).periodNo = if n ≤ d.periodNo then 1 else d.periodNo + 1 := rfl
@[simp] theorem Driver.boundary_position (d : Driver) (n : Nat) : (d.boundary n).position = 0 := rfl
@[simp] theorem Driver.boundary_compared (d : Driver) (n : Nat) : (d.boundary n).compared = false := rfl

/-! ### Driver.writeDuty -/

@[simp] theorem Driver.writeDuty_period (d : Driver) (duty : Nat) : (d.writeDuty duty).period = d.period := rfl
@[simp] theorem Driver.writeDuty_dead (d : Driver) (duty : Nat) : (d.writeDuty duty).dead = d.dead := rfl
@[simp] theorem Driver.writeDuty_duty (d : Driver) (duty : Nat) : (d.writeDuty duty).duty = if d.running then d.duty else duty := rfl
@[simp] theorem Driver.writeDuty_periodB (d : Driver) (duty : Nat) : (d.writeDuty duty).periodB = d.periodB := rfl
@[simp] theorem Driver.writeDuty_deadB (d : Driver) (duty : Nat) : (d.writeDuty duty).deadB = d.deadB := rfl
@[simp] theorem Driver.writeDuty_dutyB (d : Driver) (duty : Nat) : (d.writeDuty duty).dutyB = duty := rfl
@[simp] theorem Driver.writeDuty_running (d : Driver) (duty : Nat) : (d.writeDuty duty).running = d.running := rfl
@[simp] theorem Driver.writeDuty_periodNo (d : Driver) (duty : Nat) : (d.writeDuty duty).periodNo = d.periodNo := rfl
@[simp] theorem Driver.writeDuty_position (d : Driver) (duty : Nat) : (d.writeDuty duty).position = d.position := rfl
@[simp] theorem Driver.writeDuty_compared (d : Driver) (duty : Nat) : (d.writeDuty duty).compared = d.compared := rfl

/-! ### Bcd.cleared -/

@[simp] theorem Bcd.cleared_mode (b : Bcd) (m : CaptureMode) : (b.cleared m).mode = m := rfl
@[simp] theorem Bcd.cleared_edges (b : Bcd) (m : CaptureMode) : (b.cleared m).edges = 0 := rfl
@[simp] theorem Bcd.cleared_startStamp (b : Bcd) (m : CaptureMode) : (b.cleared m).startStamp = none := rfl
@[simp] theorem Bcd.cleared_decoder (b : Bcd) (m : CaptureMode) : (b.cleared m).decoder = .hunt := rfl
@[simp] theorem Bcd.cleared_ones (b : Bcd) (m : CaptureMode) : (b.cleared m).ones = 0 := rfl
@[simp] theorem Bcd.cleared_bitCount (b : Bcd) (m : CaptureMode) : (b.cleared m).bitCount = 0 := rfl
@[simp] theorem Bcd.cleared_acc (b : Bcd) (m : CaptureMode) : (b.cleared m).acc = 0 := rfl
@[simp] theorem Bcd.cleared_reference (b : Bcd) (m : CaptureMode) : (b.cleared m).reference = none := rfl
@[simp] theorem Bcd.cleared_half (b : Bcd) (m : CaptureMode) : (b.cleared m).half = false := rfl
@[simp] theorem Bcd.cleared_last (b : Bcd) (m : CaptureMode) : (b.cleared m).last = b.last := rfl
@[simp] theorem Bcd.cleared_driveCount (b : Bcd) (m : CaptureMode) : (b.cleared m).driveCount = b.driveCount := rfl
@[simp] theorem Bcd.cleared_microCount (b : Bcd) (m : CaptureMode) : (b.cleared m).microCount = b.microCount := rfl
@[simp] theorem Bcd.cleared_subMicro (b : Bcd) (m : CaptureMode) : (b.cleared m).subMicro = b.subMicro := rfl

/-! ### Bcd.toHunt -/

@[simp] theorem Bcd.toHunt_mode (b : Bcd) : b.toHunt.mode = b.mode := rfl
@[simp] theorem Bcd.toHunt_edges (b : Bcd) : b.toHunt.edges = b.edges := rfl
@[simp] theorem Bcd.toHunt_startStamp (b : Bcd) : b.toHunt.startStamp = b.startStamp := rfl
@[simp] theorem Bcd.toHunt_decoder (b : Bcd) : b.toHunt.decoder = .hunt := rfl
@[simp] theorem Bcd.toHunt_ones (b : Bcd) : b.toHunt.ones = 0 := rfl
@[simp] theorem Bcd.toHunt_bitCount (b : Bcd) : b.toHunt.bitCount = 0 := rfl
@[simp] theorem Bcd.toHunt_acc (b : Bcd) : b.toHunt.acc = 0 := rfl
@[simp] theorem Bcd.toHunt_reference (b : Bcd) : b.toHunt.reference = b.reference := rfl
@[simp] theorem Bcd.toHunt_half (b : Bcd) : b.toHunt.half = false := rfl
@[simp] theorem Bcd.toHunt_last (b : Bcd) : b.toHunt.last = b.last := rfl
@[simp] theorem Bcd.toHunt_driveCount (b : Bcd) : b.toHunt.driveCount = b.driveCount := rfl
@[simp] theorem Bcd.toHunt_microCount (b : Bcd) : b.toHunt.microCount = b.microCount := rfl
@[simp] theorem Bcd.toHunt_subMicro (b : Bcd) : b.toHunt.subMicro = b.subMicro := rfl

/-! ### Pch.stopTimers -/

@[simp] theorem Pch.stopTimers_driver (p : Pch) : p.stopTimers.driver = p.driver := rfl
@[simp] theorem Pch.stopTimers_blanking (p : Pch) : p.stopTimers.blanking = p.blanking := rfl
@[simp] theorem Pch.stopTimers_state (p : Pch) : p.stopTimers.state = p.state := rfl
@[simp] theorem Pch.stopTimers_enable (p : Pch) : p.stopTimers.enable = p.enable := rfl
@[simp] theorem Pch.stopTimers_pauses (p : Pch) : p.stopTimers.pauses = p.pauses := rfl
@[simp] theorem Pch.stopTimers_faultReason (p : Pch) : p.stopTimers.faultReason = p.faultReason := rfl
@[simp] theorem Pch.stopTimers_faultCode (p : Pch) : p.stopTimers.faultCode = p.faultCode := rfl
@[simp] theorem Pch.stopTimers_attempts (p : Pch) : p.stopTimers.attempts = p.attempts := rfl
@[simp] theorem Pch.stopTimers_burstKind (p : Pch) : p.stopTimers.burstKind = p.burstKind := rfl
@[simp] theorem Pch.stopTimers_penIdMark (p : Pch) : p.stopTimers.penIdMark = p.penIdMark := rfl
@[simp] theorem Pch.stopTimers_waiting (p : Pch) : p.stopTimers.waiting = none := rfl
@[simp] theorem Pch.stopTimers_waitTimer (p : Pch) : p.stopTimers.waitTimer = none := rfl
@[simp] theorem Pch.stopTimers_burstTimer (p : Pch) : p.stopTimers.burstTimer = none := rfl
@[simp] theorem Pch.stopTimers_stageTimer (p : Pch) : p.stopTimers.stageTimer = none := rfl
@[simp] theorem Pch.stopTimers_packetTimer (p : Pch) : p.stopTimers.packetTimer = none := rfl
@[simp] theorem Pch.stopTimers_recheckTimer (p : Pch) : p.stopTimers.recheckTimer = none := rfl
@[simp] theorem Pch.stopTimers_checkTicks (p : Pch) : p.stopTimers.checkTicks = none := rfl
@[simp] theorem Pch.stopTimers_overcurrent (p : Pch) : p.stopTimers.overcurrent = p.overcurrent := rfl
@[simp] theorem Pch.stopTimers_timeouts (p : Pch) : p.stopTimers.timeouts = p.timeouts := rfl
@[simp] theorem Pch.stopTimers_stepped (p : Pch) : p.stopTimers.stepped = p.stepped := rfl
@[simp] theorem Pch.stopTimers_pen (p : Pch) : p.stopTimers.pen = p.pen := rfl

/-! ### Spm.join -/

@[simp] theorem Spm.join_lastPower (p : Spm) (w : WakeSource) : (p.join w).lastPower = p.lastPower := rfl
@[simp] theorem Spm.join_supply (p : Spm) (w : WakeSource) : (p.join w).supply = p.supply := rfl
@[simp] theorem Spm.join_cap (p : Spm) (w : WakeSource) : (p.join w).cap = p.cap := rfl
@[simp] theorem Spm.join_latchClaim (p : Spm) (w : WakeSource) : (p.join w).latchClaim = p.latchClaim := rfl
@[simp] theorem Spm.join_stageLimit (p : Spm) (w : WakeSource) : (p.join w).stageLimit = p.stageLimit := rfl
@[simp] theorem Spm.join_penClaim (p : Spm) (w : WakeSource) : (p.join w).penClaim = p.penClaim := rfl
@[simp] theorem Spm.join_system (p : Spm) (w : WakeSource) : (p.join w).system = p.system := rfl
@[simp] theorem Spm.join_hub (p : Spm) (w : WakeSource) : (p.join w).hub = p.hub := rfl
@[simp] theorem Spm.join_activityTimer (p : Spm) (w : WakeSource) : (p.join w).activityTimer = p.activityTimer := rfl
@[simp] theorem Spm.join_requested (p : Spm) (w : WakeSource) : (p.join w).requested = p.requested := rfl
@[simp] theorem Spm.join_target (p : Spm) (w : WakeSource) : (p.join w).target = p.target := rfl
@[simp] theorem Spm.join_wakeCause (p : Spm) (w : WakeSource) : (p.join w).wakeCause = p.wakeCause ||| w.bit := rfl
@[simp] theorem Spm.join_firstPower (p : Spm) (w : WakeSource) : (p.join w).firstPower = if p.wakeCause = 0 then some p.hub.depth else p.firstPower := rfl
@[simp] theorem Spm.join_clock (p : Spm) (w : WakeSource) : (p.join w).clock = p.clock := rfl
@[simp] theorem Spm.join_wakeTimer (p : Spm) (w : WakeSource) : (p.join w).wakeTimer = p.wakeTimer := rfl
@[simp] theorem Spm.join_wakeLow (p : Spm) (w : WakeSource) : (p.join w).wakeLow = p.wakeLow := rfl
@[simp] theorem Spm.join_hallF (p : Spm) (w : WakeSource) : (p.join w).hallF = p.hallF := rfl

/-! ### Pae.enterDeep -/

@[simp] theorem Pae.enterDeep_periodTimer (p : Pae) : p.enterDeep.periodTimer = p.periodTimer := rfl
@[simp] theorem Pae.enterDeep_expiryDue (p : Pae) : p.enterDeep.expiryDue = false := rfl
@[simp] theorem Pae.enterDeep_lidRead (p : Pae) : p.enterDeep.lidRead = none := rfl
@[simp] theorem Pae.enterDeep_lastLid (p : Pae) : p.enterDeep.lastLid = p.lastLid := rfl
@[simp] theorem Pae.enterDeep_lidFailing (p : Pae) : p.enterDeep.lidFailing = p.lidFailing := rfl
@[simp] theorem Pae.enterDeep_lidFilter (p : Pae) : p.enterDeep.lidFilter = p.lidFilter := rfl
@[simp] theorem Pae.enterDeep_baseFilter (p : Pae) : p.enterDeep.baseFilter = p.baseFilter := rfl
@[simp] theorem Pae.enterDeep_lidAge (p : Pae) : p.enterDeep.lidAge = p.lidAge.map fun _ => 255 := rfl
@[simp] theorem Pae.enterDeep_baseAge (p : Pae) : p.enterDeep.baseAge = p.baseAge.map fun _ => 255 := rfl
@[simp] theorem Pae.enterDeep_phiL (p : Pae) : p.enterDeep.phiL = p.phiL := rfl
@[simp] theorem Pae.enterDeep_psi (p : Pae) : p.enterDeep.psi = p.psi := rfl
@[simp] theorem Pae.enterDeep_evaluatedLidAge (p : Pae) : p.enterDeep.evaluatedLidAge = p.evaluatedLidAge := rfl
@[simp] theorem Pae.enterDeep_evaluatedBaseAge (p : Pae) : p.enterDeep.evaluatedBaseAge = p.evaluatedBaseAge := rfl
@[simp] theorem Pae.enterDeep_hinge (p : Pae) : p.enterDeep.hinge = p.hinge.hold := rfl
@[simp] theorem Pae.enterDeep_rotation (p : Pae) : p.enterDeep.rotation = p.rotation := rfl
@[simp] theorem Pae.enterDeep_rotCandidate (p : Pae) : p.enterDeep.rotCandidate = p.rotCandidate := rfl
@[simp] theorem Pae.enterDeep_angleTimer (p : Pae) : p.enterDeep.angleTimer = p.angleTimer := rfl
@[simp] theorem Pae.enterDeep_record (p : Pae) : p.enterDeep.record = p.record := rfl
@[simp] theorem Pae.enterDeep_candidate (p : Pae) : p.enterDeep.candidate = none := rfl
@[simp] theorem Pae.enterDeep_hallF (p : Pae) : p.enterDeep.hallF = p.hallF := rfl
@[simp] theorem Pae.enterDeep_hallR (p : Pae) : p.enterDeep.hallR = p.hallR := rfl

/-! ### Upq.append -/

@[simp] theorem Upq.append_entries (u : Upq) (c : Content) : (u.append c).entries = u.entries ++ [⟨c, false⟩] := rfl
@[simp] theorem Upq.append_followOn (u : Upq) (c : Content) : (u.append c).followOn = u.followOn := rfl
@[simp] theorem Upq.append_placesTaken (u : Upq) (c : Content) : (u.append c).placesTaken = u.placesTaken := rfl

/-! ### Upq.dropReports -/

@[simp] theorem Upq.dropReports_entries (u : Upq) : u.dropReports.entries = u.entries.filter fun e => !e.isReport || e.started := rfl
@[simp] theorem Upq.dropReports_followOn (u : Upq) : u.dropReports.followOn = u.followOn := rfl
@[simp] theorem Upq.dropReports_placesTaken (u : Upq) : u.dropReports.placesTaken = u.placesTaken := rfl

/-! ### Pins.sampled -/

@[simp] theorem Pins.sampled_pres (p : Pins) (straps : Straps) : (p.sampled straps).pres = p.pres := rfl
@[simp] theorem Pins.sampled_lsns (p : Pins) (straps : Straps) : (p.sampled straps).lsns = p.lsns := rfl
@[simp] theorem Pins.sampled_srdy (p : Pins) (straps : Straps) : (p.sampled straps).srdy = p.srdy := rfl
@[simp] theorem Pins.sampled_bdq (p : Pins) (straps : Straps) : (p.sampled straps).bdq = p.bdq := rfl
@[simp] theorem Pins.sampled_bci (p : Pins) (straps : Straps) : (p.sampled straps).bci = p.bci := rfl
@[simp] theorem Pins.sampled_straps (p : Pins) (straps : Straps) : (p.sampled straps).straps = straps := rfl

/-! ### Table.swap -/

@[simp] theorem Table.swap_active (t : Table) : t.swap.active = t.pending := rfl
@[simp] theorem Table.swap_pending (t : Table) : t.swap.pending = t.pending := rfl
@[simp] theorem Table.swap_awaiting (t : Table) : t.swap.awaiting = false := rfl

/-! ### Counters.clearLinks -/

@[simp] theorem Counters.clearLinks_mergedS (c : Counters) : c.clearLinks.mergedS = c.mergedS := rfl
@[simp] theorem Counters.clearLinks_droppedC (c : Counters) : c.clearLinks.droppedC = c.droppedC := rfl
@[simp] theorem Counters.clearLinks_forcedBlank (c : Counters) : c.clearLinks.forcedBlank = c.forcedBlank := rfl
@[simp] theorem Counters.clearLinks_port (c : Counters) : c.clearLinks.port = c.port := rfl
@[simp] theorem Counters.clearLinks_physical (c : Counters) : c.clearLinks.physical = 0 := rfl
@[simp] theorem Counters.clearLinks_bit (c : Counters) : c.clearLinks.bit = 0 := rfl
@[simp] theorem Counters.clearLinks_framing (c : Counters) : c.clearLinks.framing = 0 := rfl
@[simp] theorem Counters.clearLinks_length (c : Counters) : c.clearLinks.length = 0 := rfl
@[simp] theorem Counters.clearLinks_check (c : Counters) : c.clearLinks.check = 0 := rfl
@[simp] theorem Counters.clearLinks_refused (c : Counters) : c.clearLinks.refused = 0 := rfl
@[simp] theorem Counters.clearLinks_timeout (c : Counters) : c.clearLinks.timeout = 0 := rfl
@[simp] theorem Counters.clearLinks_skippedKeys (c : Counters) : c.clearLinks.skippedKeys = 0 := rfl
@[simp] theorem Counters.clearLinks_skippedPointer (c : Counters) : c.clearLinks.skippedPointer = 0 := rfl
@[simp] theorem Counters.clearLinks_skippedMotion (c : Counters) : c.clearLinks.skippedMotion = 0 := rfl
@[simp] theorem Counters.clearLinks_skippedPower (c : Counters) : c.clearLinks.skippedPower = 0 := rfl
@[simp] theorem Counters.clearLinks_skippedButton (c : Counters) : c.clearLinks.skippedButton = 0 := rfl
@[simp] theorem Counters.clearLinks_writeDiscard (c : Counters) : c.clearLinks.writeDiscard = 0 := rfl
@[simp] theorem Counters.clearLinks_malformed (c : Counters) : c.clearLinks.malformed = 0 := rfl
@[simp] theorem Counters.clearLinks_lost (c : Counters) : c.clearLinks.lost = 0 := rfl
@[simp] theorem Counters.clearLinks_downCrc (c : Counters) : c.clearLinks.downCrc = c.downCrc := rfl
@[simp] theorem Counters.clearLinks_overrun (c : Counters) : c.clearLinks.overrun = c.overrun := rfl

end Sys2Proof.Machine
end

