-- ==== Sys2Proof/Laws/Frames.lean ====
section
/-!
SUPPORT. For each operation on the state, one lemma that says which parts it leaves alone, in the order in which the
operations build on each other. simp takes each part from the lemma.
-/

namespace Sys2Proof.Machine

theorem State.OnlyIn.refl (parts : List Part) (s : State) : s.OnlyIn parts s := by
  intro p _
  cases p <;> rfl

theorem State.OnlyIn.trans {parts : List Part} {s t u : State} (h : s.OnlyIn parts t) (h' : t.OnlyIn parts u) :
    s.OnlyIn parts u := by
  intro p hp
  have a := h p hp
  have b := h' p hp
  cases p <;> exact Eq.trans b a

theorem State.OnlyIn.mono {parts more : List Part} {s t : State} (h : s.OnlyIn parts t) (sub : parts ⊆ more) :
    s.OnlyIn more t := fun p hp => h p fun hp' => hp (sub hp')

/-- A fold keeps what every turn keeps. -/
theorem foldl_keeps {α β γ : Type} (f : β → α → β) (read : β → γ) (h : ∀ b a, read (f b a) = read b) (l : List α) (b : β) :
    read (l.foldl f b) = read b := by
  induction l generalizing b with
  | nil => rfl
  | cons a l ih => rw [List.foldl_cons, ih, h]

@[simp] theorem State.notice_frame (s : State) (n : Notice) :
    (s.notice n).pending = s.pending ∧
    (s.notice n).ticks = s.ticks ∧ (s.notice n).pins = s.pins ∧ (s.notice n).counters = s.counters ∧
    (s.notice n).tables = s.tables ∧ (s.notice n).cnv = s.cnv ∧ (s.notice n).pae = s.pae ∧ (s.notice n).blk = s.blk ∧
    (s.notice n).psc = s.psc ∧ (s.notice n).pch = s.pch ∧ (s.notice n).bcd = s.bcd ∧ (s.notice n).dlu = s.dlu ∧
    (s.notice n).spm = s.spm ∧ (s.notice n).slk = s.slk := by
  unfold State.notice
  simp

@[simp] theorem State.reply_frame (s : State) (kind : Byte) (code : ReplyCode) (data : List Byte) :
    (s.reply kind code data).pending = s.pending ∧ (s.reply kind code data).ticks = s.ticks ∧
    (s.reply kind code data).pins = s.pins ∧ (s.reply kind code data).counters = s.counters ∧
    (s.reply kind code data).tables = s.tables ∧ (s.reply kind code data).cnv = s.cnv ∧
    (s.reply kind code data).pae = s.pae ∧ (s.reply kind code data).blk = s.blk ∧
    (s.reply kind code data).psc = s.psc ∧ (s.reply kind code data).pch = s.pch ∧
    (s.reply kind code data).bcd = s.bcd ∧ (s.reply kind code data).dlu = s.dlu ∧
    (s.reply kind code data).spm = s.spm ∧ (s.reply kind code data).slk = s.slk := by
  unfold State.reply
  simp

@[simp] theorem State.requestBlanking_frame (s : State) :
    s.requestBlanking.pending = s.pending ∧
    s.requestBlanking.ticks = s.ticks ∧ s.requestBlanking.pins = s.pins ∧ s.requestBlanking.counters = s.counters ∧
    s.requestBlanking.tables = s.tables ∧ s.requestBlanking.pae = s.pae ∧ s.requestBlanking.blk = s.blk ∧
    s.requestBlanking.psc = s.psc ∧ s.requestBlanking.bcd = s.bcd ∧ s.requestBlanking.dlu = s.dlu ∧
    s.requestBlanking.spm = s.spm ∧ s.requestBlanking.upq = s.upq ∧ s.requestBlanking.slk = s.slk := by
  unfold State.requestBlanking
  simp

@[simp] theorem State.startClock_frame (s : State) :
    s.startClock.pending = s.pending ∧
    s.startClock.ticks = s.ticks ∧ s.startClock.pins = s.pins ∧ s.startClock.counters = s.counters ∧
    s.startClock.tables = s.tables ∧ s.startClock.cnv = s.cnv ∧ s.startClock.pae = s.pae ∧ s.startClock.blk = s.blk ∧
    s.startClock.psc = s.psc ∧ s.startClock.pch = s.pch ∧ s.startClock.bcd = s.bcd ∧ s.startClock.dlu = s.dlu ∧
    s.startClock.upq = s.upq ∧ s.startClock.slk = s.slk := by
  unfold State.startClock
  (repeat' split) <;> simp

@[simp] theorem State.setHub_frame (s : State) (h : HubPower) :
    (s.setHub h).pending = s.pending ∧
    (s.setHub h).ticks = s.ticks ∧ (s.setHub h).pins = s.pins ∧ (s.setHub h).counters = s.counters ∧
    (s.setHub h).tables = s.tables ∧ (s.setHub h).cnv = s.cnv ∧ (s.setHub h).pae = s.pae ∧ (s.setHub h).blk = s.blk ∧
    (s.setHub h).pch = s.pch ∧ (s.setHub h).bcd = s.bcd ∧ (s.setHub h).dlu = s.dlu ∧ (s.setHub h).upq = s.upq ∧
    (s.setHub h).slk = s.slk := by
  unfold State.setHub
  (repeat' split) <;> simp

@[simp] theorem State.setHub_run_psc (s : State) : (s.setHub .run).psc = s.psc := by
  unfold State.setHub
  split <;> simp_all

@[simp] theorem State.formTarget_frame (s : State) :
    s.formTarget.pending = s.pending ∧
    s.formTarget.ticks = s.ticks ∧ s.formTarget.pins = s.pins ∧ s.formTarget.counters = s.counters ∧
    s.formTarget.tables = s.tables ∧ s.formTarget.cnv = s.cnv ∧ s.formTarget.pae = s.pae ∧ s.formTarget.blk = s.blk ∧
    s.formTarget.psc = s.psc ∧ s.formTarget.pch = s.pch ∧ s.formTarget.bcd = s.bcd ∧ s.formTarget.dlu = s.dlu ∧
    s.formTarget.upq = s.upq ∧ s.formTarget.slk = s.slk := by
  unfold State.formTarget
  (repeat' split) <;> simp

@[simp] theorem State.forgetButton_frame (s : State) :
    s.forgetButton.pending = s.pending ∧
    s.forgetButton.ticks = s.ticks ∧ s.forgetButton.pins = s.pins ∧ s.forgetButton.counters = s.counters ∧
    s.forgetButton.tables = s.tables ∧ s.forgetButton.cnv = s.cnv ∧ s.forgetButton.pae = s.pae ∧
    s.forgetButton.blk = s.blk ∧ s.forgetButton.psc = s.psc ∧ s.forgetButton.pch = s.pch ∧
    s.forgetButton.bcd = s.bcd ∧ s.forgetButton.spm = s.spm ∧ s.forgetButton.upq = s.upq ∧
    s.forgetButton.slk = s.slk := by
  unfold State.forgetButton
  simp

@[simp] theorem State.writeStep_frame (s : State) (duty : Nat) :
    (s.writeStep duty).pending = s.pending ∧
    (s.writeStep duty).ticks = s.ticks ∧ (s.writeStep duty).pins = s.pins ∧ (s.writeStep duty).counters = s.counters ∧
    (s.writeStep duty).tables = s.tables ∧ (s.writeStep duty).cnv = s.cnv ∧ (s.writeStep duty).pae = s.pae ∧
    (s.writeStep duty).blk = s.blk ∧ (s.writeStep duty).psc = s.psc ∧ (s.writeStep duty).bcd = s.bcd ∧
    (s.writeStep duty).dlu = s.dlu ∧ (s.writeStep duty).spm = s.spm ∧ (s.writeStep duty).upq = s.upq ∧
    (s.writeStep duty).slk = s.slk := by
  unfold State.writeStep
  simp

@[simp] theorem State.awaitCharge_frame (s : State) (b : Nat) :
    (s.awaitCharge b).pending = s.pending ∧
    (s.awaitCharge b).ticks = s.ticks ∧ (s.awaitCharge b).pins = s.pins ∧ (s.awaitCharge b).counters = s.counters ∧
    (s.awaitCharge b).tables = s.tables ∧ (s.awaitCharge b).cnv = s.cnv ∧ (s.awaitCharge b).pae = s.pae ∧
    (s.awaitCharge b).blk = s.blk ∧ (s.awaitCharge b).psc = s.psc ∧ (s.awaitCharge b).bcd = s.bcd ∧
    (s.awaitCharge b).dlu = s.dlu ∧ (s.awaitCharge b).spm = s.spm ∧ (s.awaitCharge b).upq = s.upq ∧
    (s.awaitCharge b).slk = s.slk := by
  unfold State.awaitCharge
  simp

@[simp] theorem State.rechoose_frame (s : State) :
    s.rechoose.pending = s.pending ∧ s.rechoose.ticks = s.ticks ∧
    s.rechoose.pins = s.pins ∧ s.rechoose.counters = s.counters ∧ s.rechoose.tables = s.tables ∧
    s.rechoose.cnv = s.cnv ∧ s.rechoose.pae = s.pae ∧ s.rechoose.blk = s.blk ∧ s.rechoose.psc = s.psc ∧
    s.rechoose.bcd = s.bcd ∧ s.rechoose.dlu = s.dlu ∧ s.rechoose.spm = s.spm ∧ s.rechoose.upq = s.upq ∧
    s.rechoose.slk = s.slk := by
  unfold State.rechoose
  (repeat' split) <;> simp

@[simp] theorem State.updateWindow_frame (s : State) (ch reading : Nat) :
    (s.updateWindow ch reading).pending = s.pending ∧ (s.updateWindow ch reading).ticks = s.ticks ∧
    (s.updateWindow ch reading).pins = s.pins ∧ (s.updateWindow ch reading).counters = s.counters ∧
    (s.updateWindow ch reading).tables = s.tables ∧ (s.updateWindow ch reading).pae = s.pae ∧
    (s.updateWindow ch reading).blk = s.blk ∧ (s.updateWindow ch reading).psc = s.psc ∧
    (s.updateWindow ch reading).pch = s.pch ∧ (s.updateWindow ch reading).bcd = s.bcd ∧
    (s.updateWindow ch reading).dlu = s.dlu ∧ (s.updateWindow ch reading).spm = s.spm ∧
    (s.updateWindow ch reading).upq = s.upq ∧ (s.updateWindow ch reading).slk = s.slk := by
  unfold State.updateWindow
  dsimp only
  (repeat' split) <;> simp

@[simp] theorem State.storeReadings_frame (s : State) (readings : List (Nat × Nat)) :
    (s.storeReadings readings).pending = s.pending ∧ (s.storeReadings readings).ticks = s.ticks ∧
    (s.storeReadings readings).pins = s.pins ∧ (s.storeReadings readings).counters = s.counters ∧
    (s.storeReadings readings).tables = s.tables ∧ (s.storeReadings readings).pae = s.pae ∧
    (s.storeReadings readings).blk = s.blk ∧ (s.storeReadings readings).psc = s.psc ∧
    (s.storeReadings readings).pch = s.pch ∧ (s.storeReadings readings).bcd = s.bcd ∧
    (s.storeReadings readings).dlu = s.dlu ∧ (s.storeReadings readings).spm = s.spm ∧
    (s.storeReadings readings).upq = s.upq ∧ (s.storeReadings readings).slk = s.slk := by
  unfold State.storeReadings
  simp

@[simp] theorem State.releaseBlanking_frame (s : State) :
    s.releaseBlanking.pending = s.pending ∧
    s.releaseBlanking.ticks = s.ticks ∧ s.releaseBlanking.pins = s.pins ∧ s.releaseBlanking.counters = s.counters ∧
    s.releaseBlanking.tables = s.tables ∧ s.releaseBlanking.cnv = s.cnv ∧ s.releaseBlanking.pae = s.pae ∧
    s.releaseBlanking.blk = s.blk ∧ s.releaseBlanking.psc = s.psc ∧ s.releaseBlanking.bcd = s.bcd ∧
    s.releaseBlanking.dlu = s.dlu ∧ s.releaseBlanking.spm = s.spm ∧ s.releaseBlanking.upq = s.upq ∧
    s.releaseBlanking.slk = s.slk := by
  unfold State.releaseBlanking
  simp

@[simp] theorem State.settleOff_frame (s : State) :
    s.settleOff.pending = s.pending ∧
    s.settleOff.ticks = s.ticks ∧ s.settleOff.pins = s.pins ∧ s.settleOff.counters = s.counters ∧
    s.settleOff.tables = s.tables ∧ s.settleOff.pae = s.pae ∧ s.settleOff.blk = s.blk ∧ s.settleOff.psc = s.psc ∧
    s.settleOff.pch = s.pch ∧ s.settleOff.bcd = s.bcd ∧ s.settleOff.dlu = s.dlu ∧ s.settleOff.spm = s.spm ∧
    s.settleOff.upq = s.upq ∧ s.settleOff.slk = s.slk := by
  unfold State.settleOff
  simp

@[simp] theorem State.baseSample_frame (s : State) (axes : Axes) :
    (s.baseSample axes).pending = s.pending ∧
    (s.baseSample axes).ticks = s.ticks ∧ (s.baseSample axes).pins = s.pins ∧
    (s.baseSample axes).counters = s.counters ∧ (s.baseSample axes).tables = s.tables ∧
    (s.baseSample axes).cnv = s.cnv ∧ (s.baseSample axes).blk = s.blk ∧ (s.baseSample axes).psc = s.psc ∧
    (s.baseSample axes).pch = s.pch ∧ (s.baseSample axes).bcd = s.bcd ∧ (s.baseSample axes).dlu = s.dlu ∧
    (s.baseSample axes).spm = s.spm ∧ (s.baseSample axes).upq = s.upq ∧ (s.baseSample axes).slk = s.slk := by
  unfold State.baseSample
  simp

@[simp] theorem State.lidSample_frame (s : State) (axes : Axes) (limit : Nat) :
    (s.lidSample axes limit).pending = s.pending ∧ (s.lidSample axes limit).ticks = s.ticks ∧
    (s.lidSample axes limit).pins = s.pins ∧ (s.lidSample axes limit).counters = s.counters ∧
    (s.lidSample axes limit).tables = s.tables ∧ (s.lidSample axes limit).cnv = s.cnv ∧
    (s.lidSample axes limit).blk = s.blk ∧ (s.lidSample axes limit).psc = s.psc ∧
    (s.lidSample axes limit).pch = s.pch ∧ (s.lidSample axes limit).bcd = s.bcd ∧
    (s.lidSample axes limit).dlu = s.dlu ∧ (s.lidSample axes limit).spm = s.spm ∧
    (s.lidSample axes limit).upq = s.upq ∧ (s.lidSample axes limit).slk = s.slk := by
  unfold State.lidSample
  simp

@[simp] theorem State.directions_frame (s : State) :
    s.directions.pending = s.pending ∧
    s.directions.ticks = s.ticks ∧ s.directions.pins = s.pins ∧ s.directions.counters = s.counters ∧
    s.directions.tables = s.tables ∧ s.directions.cnv = s.cnv ∧ s.directions.blk = s.blk ∧ s.directions.psc = s.psc ∧
    s.directions.pch = s.pch ∧ s.directions.bcd = s.bcd ∧ s.directions.dlu = s.dlu ∧ s.directions.spm = s.spm ∧
    s.directions.upq = s.upq ∧ s.directions.slk = s.slk := by
  unfold State.directions
  simp

@[simp] theorem State.hingeStep_frame (s : State) :
    s.hingeStep.pending = s.pending ∧
    s.hingeStep.ticks = s.ticks ∧ s.hingeStep.pins = s.pins ∧ s.hingeStep.counters = s.counters ∧
    s.hingeStep.tables = s.tables ∧ s.hingeStep.cnv = s.cnv ∧ s.hingeStep.blk = s.blk ∧ s.hingeStep.psc = s.psc ∧
    s.hingeStep.pch = s.pch ∧ s.hingeStep.bcd = s.bcd ∧ s.hingeStep.dlu = s.dlu ∧ s.hingeStep.spm = s.spm ∧
    s.hingeStep.upq = s.upq ∧ s.hingeStep.slk = s.slk := by
  unfold State.hingeStep
  simp

@[simp] theorem State.ageStep_frame (s : State) :
    s.ageStep.pending = s.pending ∧ s.ageStep.ticks = s.ticks ∧
    s.ageStep.pins = s.pins ∧ s.ageStep.counters = s.counters ∧ s.ageStep.tables = s.tables ∧ s.ageStep.cnv = s.cnv ∧
    s.ageStep.blk = s.blk ∧ s.ageStep.psc = s.psc ∧ s.ageStep.pch = s.pch ∧ s.ageStep.bcd = s.bcd ∧
    s.ageStep.dlu = s.dlu ∧ s.ageStep.spm = s.spm ∧ s.ageStep.upq = s.upq ∧ s.ageStep.slk = s.slk := by
  unfold State.ageStep
  simp

@[simp] theorem State.ageStep_lidAge (s : State) : s.ageStep.pae.lidAge = olderAge s.pae.lidAge := rfl
@[simp] theorem State.ageStep_baseAge (s : State) : s.ageStep.pae.baseAge = olderAge s.pae.baseAge := rfl
@[simp] theorem State.ageStep_evaluatedLidAge (s : State) : s.ageStep.pae.evaluatedLidAge = s.pae.lidAge := rfl
@[simp] theorem State.ageStep_evaluatedBaseAge (s : State) : s.ageStep.pae.evaluatedBaseAge = s.pae.baseAge := rfl

@[simp] theorem State.buttonReleased_frame (s : State) :
    s.buttonReleased.pending = s.pending ∧
    s.buttonReleased.ticks = s.ticks ∧ s.buttonReleased.pins = s.pins ∧ s.buttonReleased.counters = s.counters ∧
    s.buttonReleased.tables = s.tables ∧ s.buttonReleased.cnv = s.cnv ∧ s.buttonReleased.pae = s.pae ∧
    s.buttonReleased.blk = s.blk ∧ s.buttonReleased.psc = s.psc ∧ s.buttonReleased.pch = s.pch ∧
    s.buttonReleased.bcd = s.bcd ∧ s.buttonReleased.spm = s.spm ∧ s.buttonReleased.upq = s.upq ∧
    s.buttonReleased.slk = s.slk := by
  unfold State.buttonReleased
  simp

@[simp] theorem State.startPolls_frame (s : State) :
    s.startPolls.pending = s.pending ∧
    s.startPolls.ticks = s.ticks ∧ s.startPolls.pins = s.pins ∧ s.startPolls.counters = s.counters ∧
    s.startPolls.tables = s.tables ∧ s.startPolls.cnv = s.cnv ∧ s.startPolls.pae = s.pae ∧ s.startPolls.blk = s.blk ∧
    s.startPolls.pch = s.pch ∧ s.startPolls.bcd = s.bcd ∧ s.startPolls.dlu = s.dlu ∧ s.startPolls.spm = s.spm ∧
    s.startPolls.upq = s.upq ∧ s.startPolls.slk = s.slk := by
  unfold State.startPolls
  simp

@[simp] theorem State.stopPolls_frame (s : State) :
    s.stopPolls.pending = s.pending ∧
    s.stopPolls.ticks = s.ticks ∧ s.stopPolls.pins = s.pins ∧ s.stopPolls.counters = s.counters ∧
    s.stopPolls.tables = s.tables ∧ s.stopPolls.cnv = s.cnv ∧ s.stopPolls.pae = s.pae ∧ s.stopPolls.blk = s.blk ∧
    s.stopPolls.pch = s.pch ∧ s.stopPolls.bcd = s.bcd ∧ s.stopPolls.dlu = s.dlu ∧ s.stopPolls.spm = s.spm ∧
    s.stopPolls.upq = s.upq ∧ s.stopPolls.slk = s.slk := by
  unfold State.stopPolls
  simp

@[simp] theorem State.attentionPoll_frame (s : State) :
    s.attentionPoll.pending = s.pending ∧
    s.attentionPoll.ticks = s.ticks ∧ s.attentionPoll.pins = s.pins ∧ s.attentionPoll.counters = s.counters ∧
    s.attentionPoll.tables = s.tables ∧ s.attentionPoll.cnv = s.cnv ∧ s.attentionPoll.pae = s.pae ∧
    s.attentionPoll.blk = s.blk ∧ s.attentionPoll.pch = s.pch ∧ s.attentionPoll.bcd = s.bcd ∧
    s.attentionPoll.dlu = s.dlu ∧ s.attentionPoll.spm = s.spm ∧ s.attentionPoll.upq = s.upq ∧
    s.attentionPoll.slk = s.slk := by
  unfold State.attentionPoll
  (repeat' split) <;> simp

@[simp] theorem State.settlePoll_frame (s : State) (t : Txn) :
    (s.settlePoll t).pending = s.pending ∧
    (s.settlePoll t).ticks = s.ticks ∧ (s.settlePoll t).pins = s.pins ∧ (s.settlePoll t).counters = s.counters ∧
    (s.settlePoll t).tables = s.tables ∧ (s.settlePoll t).cnv = s.cnv ∧ (s.settlePoll t).pae = s.pae ∧
    (s.settlePoll t).blk = s.blk ∧ (s.settlePoll t).pch = s.pch ∧ (s.settlePoll t).bcd = s.bcd ∧
    (s.settlePoll t).dlu = s.dlu ∧ (s.settlePoll t).spm = s.spm ∧ (s.settlePoll t).upq = s.upq ∧
    (s.settlePoll t).slk = s.slk := by
  unfold State.settlePoll
  (repeat' split) <;> simp

@[simp] theorem State.seeBci_frame (s : State) (change : BciChange) (stamp : Stamp) :
    (s.seeBci change stamp).pending = s.pending ∧ (s.seeBci change stamp).ticks = s.ticks ∧
    (s.seeBci change stamp).counters = s.counters ∧ (s.seeBci change stamp).tables = s.tables ∧
    (s.seeBci change stamp).cnv = s.cnv ∧ (s.seeBci change stamp).pae = s.pae ∧ (s.seeBci change stamp).blk = s.blk ∧
    (s.seeBci change stamp).psc = s.psc ∧ (s.seeBci change stamp).pch = s.pch ∧ (s.seeBci change stamp).dlu = s.dlu ∧
    (s.seeBci change stamp).spm = s.spm ∧ (s.seeBci change stamp).upq = s.upq ∧ (s.seeBci change stamp).slk = s.slk := by
  unfold State.seeBci
  simp

@[simp] theorem State.startFrame_frame (s : State) :
    s.startFrame.pending = s.pending ∧
    s.startFrame.ticks = s.ticks ∧ s.startFrame.pins = s.pins ∧ s.startFrame.counters = s.counters ∧
    s.startFrame.tables = s.tables ∧ s.startFrame.cnv = s.cnv ∧ s.startFrame.pae = s.pae ∧ s.startFrame.blk = s.blk ∧
    s.startFrame.psc = s.psc ∧ s.startFrame.pch = s.pch ∧ s.startFrame.bcd = s.bcd ∧ s.startFrame.dlu = s.dlu ∧
    s.startFrame.spm = s.spm := by
  unfold State.startFrame
  (repeat' split) <;> simp

@[simp] theorem State.claim_frame (s : State) :
    s.claim.pending = s.pending ∧ s.claim.ticks = s.ticks ∧
    s.claim.pins = s.pins ∧ s.claim.counters = s.counters ∧ s.claim.tables = s.tables ∧ s.claim.cnv = s.cnv ∧
    s.claim.pae = s.pae ∧ s.claim.blk = s.blk ∧ s.claim.psc = s.psc ∧ s.claim.pch = s.pch ∧ s.claim.bcd = s.bcd ∧
    s.claim.dlu = s.dlu ∧ s.claim.spm = s.spm := by
  unfold State.claim
  simp

@[simp] theorem State.clearCounters_frame (s : State) :
    s.clearCounters.pending = s.pending ∧
    s.clearCounters.ticks = s.ticks ∧ s.clearCounters.pins = s.pins ∧ s.clearCounters.tables = s.tables ∧
    s.clearCounters.cnv = s.cnv ∧ s.clearCounters.pae = s.pae ∧ s.clearCounters.blk = s.blk ∧
    s.clearCounters.psc = s.psc ∧ s.clearCounters.bcd = s.bcd ∧ s.clearCounters.dlu = s.dlu ∧
    s.clearCounters.spm = s.spm ∧ s.clearCounters.upq = s.upq ∧ s.clearCounters.slk = s.slk := by
  unfold State.clearCounters
  simp

@[simp] theorem State.tickTimers_frame (s : State) :
    s.tickTimers.pending = s.pending ∧
    s.tickTimers.pins = s.pins ∧ s.tickTimers.counters = s.counters ∧ s.tickTimers.tables = s.tables ∧
    s.tickTimers.bcd = s.bcd ∧ s.tickTimers.upq = s.upq ∧ s.tickTimers.slk = s.slk := by
  unfold State.tickTimers
  simp

@[simp] theorem State.driveTick_frame (s : State) :
    s.driveTick.pending = s.pending ∧
    s.driveTick.ticks = s.ticks ∧ s.driveTick.pins = s.pins ∧ s.driveTick.counters = s.counters ∧
    s.driveTick.tables = s.tables ∧ s.driveTick.cnv = s.cnv ∧ s.driveTick.pae = s.pae ∧ s.driveTick.blk = s.blk ∧
    s.driveTick.psc = s.psc ∧ s.driveTick.dlu = s.dlu ∧ s.driveTick.spm = s.spm ∧ s.driveTick.upq = s.upq ∧
    s.driveTick.slk = s.slk := by
  unfold State.driveTick
  (repeat' split) <;> simp

@[simp] theorem State.event_frame (s : State) (c : EventCode) :
    (s.event c).pending = s.pending ∧
    (s.event c).ticks = s.ticks ∧ (s.event c).pins = s.pins ∧ (s.event c).counters = s.counters ∧
    (s.event c).tables = s.tables ∧ (s.event c).cnv = s.cnv ∧ (s.event c).pae = s.pae ∧ (s.event c).blk = s.blk ∧
    (s.event c).psc = s.psc ∧ (s.event c).pch = s.pch ∧ (s.event c).bcd = s.bcd ∧ (s.event c).dlu = s.dlu ∧
    (s.event c).spm = s.spm ∧ (s.event c).slk = s.slk := by
  unfold State.event
  simp

@[simp] theorem State.swapTable_frame (s : State) (t : TableId) :
    (s.swapTable t).pending = s.pending ∧
    (s.swapTable t).ticks = s.ticks ∧ (s.swapTable t).pins = s.pins ∧ (s.swapTable t).counters = s.counters ∧
    (s.swapTable t).cnv = s.cnv ∧ (s.swapTable t).pae = s.pae ∧ (s.swapTable t).blk = s.blk ∧
    (s.swapTable t).psc = s.psc ∧ (s.swapTable t).pch = s.pch ∧ (s.swapTable t).bcd = s.bcd ∧
    (s.swapTable t).dlu = s.dlu ∧ (s.swapTable t).spm = s.spm ∧ (s.swapTable t).slk = s.slk := by
  unfold State.swapTable
  simp

@[simp] theorem State.penNotice_frame (s : State) :
    s.penNotice.pending = s.pending ∧
    s.penNotice.ticks = s.ticks ∧ s.penNotice.pins = s.pins ∧ s.penNotice.counters = s.counters ∧
    s.penNotice.tables = s.tables ∧ s.penNotice.cnv = s.cnv ∧ s.penNotice.pae = s.pae ∧ s.penNotice.blk = s.blk ∧
    s.penNotice.psc = s.psc ∧ s.penNotice.pch = s.pch ∧ s.penNotice.bcd = s.bcd ∧ s.penNotice.dlu = s.dlu ∧
    s.penNotice.spm = s.spm ∧ s.penNotice.slk = s.slk := by
  unfold State.penNotice
  simp

@[simp] theorem State.dataLeft_frame (s : State) :
    s.dataLeft.pending = s.pending ∧ s.dataLeft.ticks = s.ticks ∧
    s.dataLeft.pins = s.pins ∧ s.dataLeft.counters = s.counters ∧ s.dataLeft.tables = s.tables ∧
    s.dataLeft.pae = s.pae ∧ s.dataLeft.blk = s.blk ∧ s.dataLeft.psc = s.psc ∧ s.dataLeft.bcd = s.bcd ∧
    s.dataLeft.dlu = s.dlu ∧ s.dataLeft.spm = s.spm ∧ s.dataLeft.upq = s.upq ∧ s.dataLeft.slk = s.slk := by
  unfold State.dataLeft
  (repeat' split) <;> simp

@[simp] theorem State.leaveDeep_frame (s : State) :
    s.leaveDeep.pending = s.pending ∧
    s.leaveDeep.ticks = s.ticks ∧ s.leaveDeep.pins = s.pins ∧ s.leaveDeep.counters = s.counters ∧
    s.leaveDeep.tables = s.tables ∧ s.leaveDeep.cnv = s.cnv ∧ s.leaveDeep.pae = s.pae ∧ s.leaveDeep.blk = s.blk ∧
    s.leaveDeep.psc = s.psc ∧ s.leaveDeep.pch = s.pch ∧ s.leaveDeep.bcd = s.bcd ∧ s.leaveDeep.dlu = s.dlu ∧
    s.leaveDeep.upq = s.upq ∧ s.leaveDeep.slk = s.slk := by
  unfold State.leaveDeep
  (repeat' split) <;> simp

@[simp] theorem State.sleepNotice_frame (s : State) (a : Advice) (r : Option AdviceReason) :
    (s.sleepNotice a r).pending = s.pending ∧ (s.sleepNotice a r).ticks = s.ticks ∧
    (s.sleepNotice a r).pins = s.pins ∧ (s.sleepNotice a r).counters = s.counters ∧
    (s.sleepNotice a r).tables = s.tables ∧ (s.sleepNotice a r).cnv = s.cnv ∧ (s.sleepNotice a r).pae = s.pae ∧
    (s.sleepNotice a r).blk = s.blk ∧ (s.sleepNotice a r).psc = s.psc ∧ (s.sleepNotice a r).pch = s.pch ∧
    (s.sleepNotice a r).bcd = s.bcd ∧ (s.sleepNotice a r).dlu = s.dlu ∧ (s.sleepNotice a r).spm = s.spm ∧
    (s.sleepNotice a r).slk = s.slk := by
  unfold State.sleepNotice
  simp

@[simp] theorem State.wakeNotice_frame (s : State) :
    s.wakeNotice.pending = s.pending ∧
    s.wakeNotice.ticks = s.ticks ∧ s.wakeNotice.pins = s.pins ∧ s.wakeNotice.counters = s.counters ∧
    s.wakeNotice.tables = s.tables ∧ s.wakeNotice.cnv = s.cnv ∧ s.wakeNotice.pae = s.pae ∧ s.wakeNotice.blk = s.blk ∧
    s.wakeNotice.psc = s.psc ∧ s.wakeNotice.pch = s.pch ∧ s.wakeNotice.bcd = s.bcd ∧ s.wakeNotice.dlu = s.dlu ∧
    s.wakeNotice.spm = s.spm ∧ s.wakeNotice.slk = s.slk := by
  unfold State.wakeNotice
  simp

@[simp] theorem State.adjust_frame (s : State) (v : Int) :
    (s.adjust v).pending = s.pending ∧
    (s.adjust v).ticks = s.ticks ∧ (s.adjust v).pins = s.pins ∧ (s.adjust v).counters = s.counters ∧
    (s.adjust v).tables = s.tables ∧ (s.adjust v).cnv = s.cnv ∧ (s.adjust v).pae = s.pae ∧ (s.adjust v).blk = s.blk ∧
    (s.adjust v).psc = s.psc ∧ (s.adjust v).bcd = s.bcd ∧ (s.adjust v).dlu = s.dlu ∧ (s.adjust v).spm = s.spm ∧
    (s.adjust v).upq = s.upq ∧ (s.adjust v).slk = s.slk := by
  unfold State.adjust
  simp

@[simp] theorem State.startScan_frame (s : State) :
    s.startScan.pending = s.pending ∧
    s.startScan.ticks = s.ticks ∧ s.startScan.pins = s.pins ∧ s.startScan.counters = s.counters ∧
    s.startScan.tables = s.tables ∧ s.startScan.pae = s.pae ∧ s.startScan.blk = s.blk ∧ s.startScan.psc = s.psc ∧
    s.startScan.bcd = s.bcd ∧ s.startScan.dlu = s.dlu ∧ s.startScan.spm = s.spm ∧ s.startScan.upq = s.upq ∧
    s.startScan.slk = s.slk := by
  unfold State.startScan
  dsimp only
  (repeat' split) <;> simp

@[simp] theorem State.turn_frame (s : State) (r : Rotation) (cause : RotationCause) :
    (s.turn r cause).pending = s.pending ∧ (s.turn r cause).ticks = s.ticks ∧ (s.turn r cause).pins = s.pins ∧
    (s.turn r cause).counters = s.counters ∧ (s.turn r cause).tables = s.tables ∧ (s.turn r cause).cnv = s.cnv ∧
    (s.turn r cause).blk = s.blk ∧ (s.turn r cause).psc = s.psc ∧ (s.turn r cause).pch = s.pch ∧
    (s.turn r cause).bcd = s.bcd ∧ (s.turn r cause).dlu = s.dlu ∧ (s.turn r cause).spm = s.spm ∧
    (s.turn r cause).slk = s.slk := by
  unfold State.turn
  simp

@[simp] theorem State.angleStep_frame (s : State) :
    s.angleStep.pending = s.pending ∧
    s.angleStep.ticks = s.ticks ∧ s.angleStep.pins = s.pins ∧ s.angleStep.counters = s.counters ∧
    s.angleStep.tables = s.tables ∧ s.angleStep.cnv = s.cnv ∧ s.angleStep.blk = s.blk ∧ s.angleStep.psc = s.psc ∧
    s.angleStep.pch = s.pch ∧ s.angleStep.bcd = s.bcd ∧ s.angleStep.dlu = s.dlu ∧ s.angleStep.spm = s.spm ∧
    s.angleStep.slk = s.slk := by
  unfold State.angleStep
  (repeat' split) <;> simp

@[simp] theorem State.leaveRunning_frame (s : State) :
    s.leaveRunning.pending = s.pending ∧
    s.leaveRunning.ticks = s.ticks ∧ s.leaveRunning.pins = s.pins ∧ s.leaveRunning.counters = s.counters ∧
    s.leaveRunning.tables = s.tables ∧ s.leaveRunning.cnv = s.cnv ∧ s.leaveRunning.pae = s.pae ∧
    s.leaveRunning.blk = s.blk ∧ s.leaveRunning.pch = s.pch ∧ s.leaveRunning.bcd = s.bcd ∧
    s.leaveRunning.spm = s.spm ∧ s.leaveRunning.upq = s.upq ∧ s.leaveRunning.slk = s.slk := by
  unfold State.leaveRunning
  simp

@[simp] theorem State.answer_frame (s : State) (f : DownFrame) (c : ReplyCode) (data : List Byte) :
    (s.answer f c data).pending = s.pending ∧ (s.answer f c data).ticks = s.ticks ∧
    (s.answer f c data).pins = s.pins ∧ (s.answer f c data).counters = s.counters ∧
    (s.answer f c data).tables = s.tables ∧ (s.answer f c data).cnv = s.cnv ∧ (s.answer f c data).pae = s.pae ∧
    (s.answer f c data).blk = s.blk ∧ (s.answer f c data).psc = s.psc ∧ (s.answer f c data).pch = s.pch ∧
    (s.answer f c data).bcd = s.bcd ∧ (s.answer f c data).dlu = s.dlu ∧ (s.answer f c data).spm = s.spm ∧
    (s.answer f c data).slk = s.slk := by
  unfold State.answer
  simp

@[simp] theorem State.resetAll_frame (s : State) (f : DownFrame) :
    (s.resetAll f).pending = s.pending ∧
    (s.resetAll f).ticks = s.ticks ∧ (s.resetAll f).pins = s.pins ∧ (s.resetAll f).counters = s.counters ∧
    (s.resetAll f).tables = s.tables ∧ (s.resetAll f).cnv = s.cnv ∧ (s.resetAll f).pae = s.pae ∧
    (s.resetAll f).blk = s.blk ∧ (s.resetAll f).psc = s.psc ∧ (s.resetAll f).pch = s.pch ∧
    (s.resetAll f).bcd = s.bcd ∧ (s.resetAll f).dlu = s.dlu ∧ (s.resetAll f).spm = s.spm := by
  unfold State.resetAll
  simp

@[simp] theorem State.bumpBy_frame (s : State) (k : Counter) (n : Nat) :
    (s.bumpBy k n).pending = s.pending ∧
    (s.bumpBy k n).ticks = s.ticks ∧ (s.bumpBy k n).pins = s.pins ∧ (s.bumpBy k n).tables = s.tables ∧
    (s.bumpBy k n).cnv = s.cnv ∧ (s.bumpBy k n).pae = s.pae ∧ (s.bumpBy k n).blk = s.blk ∧
    (s.bumpBy k n).psc = s.psc ∧ (s.bumpBy k n).pch = s.pch ∧ (s.bumpBy k n).bcd = s.bcd ∧
    (s.bumpBy k n).dlu = s.dlu ∧ (s.bumpBy k n).spm = s.spm ∧ (s.bumpBy k n).slk = s.slk := by
  unfold State.bumpBy
  dsimp only
  (repeat' split) <;> simp

@[simp] theorem State.capture_frame (s : State) (m : CaptureMode) :
    (s.capture m).pending = s.pending ∧
    (s.capture m).ticks = s.ticks ∧ (s.capture m).pins = s.pins ∧ (s.capture m).counters = s.counters ∧
    (s.capture m).tables = s.tables ∧ (s.capture m).pae = s.pae ∧ (s.capture m).blk = s.blk ∧
    (s.capture m).psc = s.psc ∧ (s.capture m).dlu = s.dlu ∧ (s.capture m).spm = s.spm ∧ (s.capture m).upq = s.upq ∧
    (s.capture m).slk = s.slk := by
  unfold State.capture
  (repeat' split) <;> simp

@[simp] theorem State.activity_frame (s : State) (postureChange : Bool) :
    (s.activity postureChange).pending = s.pending ∧ (s.activity postureChange).ticks = s.ticks ∧
    (s.activity postureChange).pins = s.pins ∧ (s.activity postureChange).counters = s.counters ∧
    (s.activity postureChange).tables = s.tables ∧ (s.activity postureChange).cnv = s.cnv ∧
    (s.activity postureChange).pae = s.pae ∧ (s.activity postureChange).blk = s.blk ∧
    (s.activity postureChange).psc = s.psc ∧ (s.activity postureChange).pch = s.pch ∧
    (s.activity postureChange).bcd = s.bcd ∧ (s.activity postureChange).dlu = s.dlu ∧
    (s.activity postureChange).slk = s.slk := by
  unfold State.activity
  (repeat' split) <;> simp

@[simp] theorem State.setPen_frame (s : State) (p : PenRecord) :
    (s.setPen p).pending = s.pending ∧
    (s.setPen p).ticks = s.ticks ∧ (s.setPen p).pins = s.pins ∧ (s.setPen p).counters = s.counters ∧
    (s.setPen p).tables = s.tables ∧ (s.setPen p).cnv = s.cnv ∧ (s.setPen p).pae = s.pae ∧ (s.setPen p).blk = s.blk ∧
    (s.setPen p).psc = s.psc ∧ (s.setPen p).bcd = s.bcd ∧ (s.setPen p).dlu = s.dlu ∧ (s.setPen p).spm = s.spm ∧
    (s.setPen p).slk = s.slk := by
  unfold State.setPen
  (repeat' split) <;> simp

@[simp] theorem State.judgeVref_frame (s : State) (reading : Option Nat) :
    (s.judgeVref reading).pending = s.pending ∧ (s.judgeVref reading).ticks = s.ticks ∧
    (s.judgeVref reading).pins = s.pins ∧ (s.judgeVref reading).counters = s.counters ∧
    (s.judgeVref reading).tables = s.tables ∧ (s.judgeVref reading).pae = s.pae ∧ (s.judgeVref reading).blk = s.blk ∧
    (s.judgeVref reading).psc = s.psc ∧ (s.judgeVref reading).pch = s.pch ∧ (s.judgeVref reading).bcd = s.bcd ∧
    (s.judgeVref reading).dlu = s.dlu ∧ (s.judgeVref reading).spm = s.spm ∧ (s.judgeVref reading).slk = s.slk := by
  unfold State.judgeVref
  dsimp only
  (repeat' split) <;> simp

@[simp] theorem State.swapPosture_frame (s : State) :
    s.swapPosture.pending = s.pending ∧
    s.swapPosture.ticks = s.ticks ∧ s.swapPosture.pins = s.pins ∧ s.swapPosture.counters = s.counters ∧
    s.swapPosture.cnv = s.cnv ∧ s.swapPosture.blk = s.blk ∧ s.swapPosture.psc = s.psc ∧ s.swapPosture.pch = s.pch ∧
    s.swapPosture.bcd = s.bcd ∧ s.swapPosture.dlu = s.dlu ∧ s.swapPosture.spm = s.spm ∧
    s.swapPosture.slk = s.slk := by
  unfold State.swapPosture
  simp

@[simp] theorem State.lockRotation_frame (s : State) (r : Rotation) :
    (s.lockRotation r).pending = s.pending ∧
    (s.lockRotation r).ticks = s.ticks ∧ (s.lockRotation r).pins = s.pins ∧ (s.lockRotation r).counters = s.counters ∧
    (s.lockRotation r).tables = s.tables ∧ (s.lockRotation r).cnv = s.cnv ∧ (s.lockRotation r).blk = s.blk ∧
    (s.lockRotation r).psc = s.psc ∧ (s.lockRotation r).pch = s.pch ∧ (s.lockRotation r).bcd = s.bcd ∧
    (s.lockRotation r).dlu = s.dlu ∧ (s.lockRotation r).spm = s.spm ∧ (s.lockRotation r).slk = s.slk := by
  unfold State.lockRotation
  (repeat' split) <;> simp

@[simp] theorem State.freeRotation_frame (s : State) :
    s.freeRotation.pending = s.pending ∧
    s.freeRotation.ticks = s.ticks ∧ s.freeRotation.pins = s.pins ∧ s.freeRotation.counters = s.counters ∧
    s.freeRotation.tables = s.tables ∧ s.freeRotation.cnv = s.cnv ∧ s.freeRotation.blk = s.blk ∧
    s.freeRotation.psc = s.psc ∧ s.freeRotation.pch = s.pch ∧ s.freeRotation.bcd = s.bcd ∧
    s.freeRotation.dlu = s.dlu ∧ s.freeRotation.spm = s.spm ∧ s.freeRotation.slk = s.slk := by
  unfold State.freeRotation
  dsimp only
  (repeat' split) <;> simp

@[simp] theorem State.penCount_frame (s : State) (old : Nat) (set : PenRecord → Nat → PenRecord) :
    (s.penCount old set).pending = s.pending ∧ (s.penCount old set).ticks = s.ticks ∧
    (s.penCount old set).pins = s.pins ∧ (s.penCount old set).counters = s.counters ∧
    (s.penCount old set).tables = s.tables ∧ (s.penCount old set).cnv = s.cnv ∧ (s.penCount old set).pae = s.pae ∧
    (s.penCount old set).blk = s.blk ∧ (s.penCount old set).psc = s.psc ∧ (s.penCount old set).bcd = s.bcd ∧
    (s.penCount old set).dlu = s.dlu ∧ (s.penCount old set).spm = s.spm ∧ (s.penCount old set).slk = s.slk := by
  unfold State.penCount
  (repeat' split) <;> simp

@[simp] theorem State.tableWrite_frame (s : State) (f : DownFrame) :
    (s.tableWrite f).pending = s.pending ∧
    (s.tableWrite f).ticks = s.ticks ∧ (s.tableWrite f).pins = s.pins ∧ (s.tableWrite f).counters = s.counters ∧
    (s.tableWrite f).cnv = s.cnv ∧ (s.tableWrite f).pae = s.pae ∧ (s.tableWrite f).blk = s.blk ∧
    (s.tableWrite f).psc = s.psc ∧ (s.tableWrite f).pch = s.pch ∧ (s.tableWrite f).bcd = s.bcd ∧
    (s.tableWrite f).dlu = s.dlu ∧ (s.tableWrite f).spm = s.spm ∧ (s.tableWrite f).slk = s.slk := by
  unfold State.tableWrite
  dsimp only
  (repeat' split) <;> simp

@[simp] theorem State.tableRead_frame (s : State) (f : DownFrame) :
    (s.tableRead f).pending = s.pending ∧
    (s.tableRead f).ticks = s.ticks ∧ (s.tableRead f).pins = s.pins ∧ (s.tableRead f).counters = s.counters ∧
    (s.tableRead f).tables = s.tables ∧ (s.tableRead f).cnv = s.cnv ∧ (s.tableRead f).pae = s.pae ∧
    (s.tableRead f).blk = s.blk ∧ (s.tableRead f).psc = s.psc ∧ (s.tableRead f).pch = s.pch ∧
    (s.tableRead f).bcd = s.bcd ∧ (s.tableRead f).dlu = s.dlu ∧ (s.tableRead f).spm = s.spm ∧
    (s.tableRead f).slk = s.slk := by
  unfold State.tableRead
  dsimp only
  (repeat' split) <;> simp

@[simp] theorem State.queryPage_frame (s : State) (f : DownFrame) (subject : Subject) :
    (s.queryPage f subject).pending = s.pending ∧ (s.queryPage f subject).ticks = s.ticks ∧
    (s.queryPage f subject).pins = s.pins ∧ (s.queryPage f subject).counters = s.counters ∧
    (s.queryPage f subject).tables = s.tables ∧ (s.queryPage f subject).cnv = s.cnv ∧
    (s.queryPage f subject).pae = s.pae ∧ (s.queryPage f subject).blk = s.blk ∧ (s.queryPage f subject).psc = s.psc ∧
    (s.queryPage f subject).pch = s.pch ∧ (s.queryPage f subject).bcd = s.bcd ∧ (s.queryPage f subject).dlu = s.dlu ∧
    (s.queryPage f subject).spm = s.spm ∧ (s.queryPage f subject).slk = s.slk := by
  unfold State.queryPage
  (repeat' split) <;> simp

@[simp] theorem State.queryCounters_frame (s : State) (f : DownFrame) :
    (s.queryCounters f).pending = s.pending ∧
    (s.queryCounters f).ticks = s.ticks ∧ (s.queryCounters f).pins = s.pins ∧ (s.queryCounters f).tables = s.tables ∧
    (s.queryCounters f).cnv = s.cnv ∧ (s.queryCounters f).pae = s.pae ∧ (s.queryCounters f).blk = s.blk ∧
    (s.queryCounters f).psc = s.psc ∧ (s.queryCounters f).bcd = s.bcd ∧ (s.queryCounters f).dlu = s.dlu ∧
    (s.queryCounters f).spm = s.spm ∧ (s.queryCounters f).slk = s.slk := by
  unfold State.queryCounters
  (repeat' split) <;> simp

@[simp] theorem State.queueWrite_frame (s : State) (f : DownFrame) (fn : BaseFn) (l : Nat) :
    (s.queueWrite f fn l).pending = s.pending ∧ (s.queueWrite f fn l).ticks = s.ticks ∧
    (s.queueWrite f fn l).pins = s.pins ∧ (s.queueWrite f fn l).counters = s.counters ∧
    (s.queueWrite f fn l).tables = s.tables ∧ (s.queueWrite f fn l).cnv = s.cnv ∧ (s.queueWrite f fn l).pae = s.pae ∧
    (s.queueWrite f fn l).blk = s.blk ∧ (s.queueWrite f fn l).pch = s.pch ∧ (s.queueWrite f fn l).bcd = s.bcd ∧
    (s.queueWrite f fn l).dlu = s.dlu ∧ (s.queueWrite f fn l).spm = s.spm ∧ (s.queueWrite f fn l).slk = s.slk := by
  unfold State.queueWrite
  (repeat' split) <;> simp

@[simp] theorem State.bump_frame (s : State) (k : Counter) :
    (s.bump k).pending = s.pending ∧
    (s.bump k).ticks = s.ticks ∧ (s.bump k).pins = s.pins ∧ (s.bump k).tables = s.tables ∧ (s.bump k).cnv = s.cnv ∧
    (s.bump k).pae = s.pae ∧ (s.bump k).blk = s.blk ∧ (s.bump k).psc = s.psc ∧ (s.bump k).pch = s.pch ∧
    (s.bump k).bcd = s.bcd ∧ (s.bump k).dlu = s.dlu ∧ (s.bump k).spm = s.spm ∧ (s.bump k).slk = s.slk := by
  unfold State.bump
  simp

@[simp] theorem State.enterCharger_frame (s : State) (c : ChargerState) :
    (s.enterCharger c).pending = s.pending ∧ (s.enterCharger c).ticks = s.ticks ∧ (s.enterCharger c).pins = s.pins ∧
    (s.enterCharger c).counters = s.counters ∧ (s.enterCharger c).tables = s.tables ∧ (s.enterCharger c).pae = s.pae ∧
    (s.enterCharger c).blk = s.blk ∧ (s.enterCharger c).psc = s.psc ∧ (s.enterCharger c).dlu = s.dlu ∧
    (s.enterCharger c).spm = s.spm ∧ (s.enterCharger c).upq = s.upq ∧ (s.enterCharger c).slk = s.slk := by
  unfold State.enterCharger
  dsimp only
  (repeat' split) <;> simp

/-- The parts that a change of charger state may touch, the CHARGE swap of a stopping driver included. -/
def chargerParts : List Part := [.tables, .cnv, .pch, .bcd, .spm, .upq]

theorem State.toPausedBy_onlyIn (go : State → ChargerState → State) (h : ∀ (s : State) c, s.OnlyIn chargerParts (go s c)) (s : State) :
    s.OnlyIn chargerParts (s.toPausedBy go) := by
  intro p hp
  have := h { s with
      pch.waitTimer := none, pch.burstTimer := none, pch.stageTimer := none, pch.packetTimer := none, pch.waiting := none
      pch.checkTicks := none } .paused p hp
  cases p <;> first | exact this | exact absurd (by decide) hp

theorem State.toWaitBy_onlyIn (go : State → ChargerState → State) (h : ∀ (s : State) c, s.OnlyIn chargerParts (go s c)) (s : State) :
    s.OnlyIn chargerParts (s.toWaitBy go) := by
  intro p hp
  have := h s .wait p hp
  cases p <;> first | exact absurd (by decide) hp | simpa [Part.Same, State.toWaitBy, State.penNotice, State.notice] using this

theorem State.setPausesBy_onlyIn (go : State → ChargerState → State) (h : ∀ (s : State) c, s.OnlyIn chargerParts (go s c)) (s : State)
    (q : Pauses) : s.OnlyIn chargerParts (s.setPausesBy go q) := by
  unfold State.setPausesBy
  dsimp only
  have paused := State.toPausedBy_onlyIn go h { s with pch.pauses := q }
  have wait := State.toWaitBy_onlyIn go h { s with pch.pauses := q, pch.attempts := 0 }
  intro p hp
  have a := paused p hp
  have b := wait p hp
  cases p <;> first
    | exact absurd (by decide) hp
    | (split; · rfl
       split
       · simpa [Part.Same, State.penNotice, State.notice] using a
       split
       · exact b
       · simp [Part.Same, State.penNotice, State.notice])

theorem State.rebudgetBy_onlyIn (go : State → ChargerState → State) (h : ∀ (s : State) c, s.OnlyIn chargerParts (go s c)) (s : State)
    (r : Spm) : s.OnlyIn chargerParts (s.rebudgetBy go r) := by
  have set := State.setPausesBy_onlyIn go h { s with spm := { r with penClaim := r.claim } }
    (s.pch.pauses.forClaim r.claim (decide (0 < r.latchClaim)))
  intro p hp
  have a := set p hp
  unfold State.rebudgetBy
  dsimp only
  split
  · cases p <;> first | exact absurd (by decide) hp | rfl
  · cases p <;> first | exact absurd (by decide) hp | exact a

theorem State.enterCharger_onlyIn (s : State) (c : ChargerState) : s.OnlyIn chargerParts (s.enterCharger c) := by
  intro p hp
  cases p <;> first | exact absurd (by decide) hp | simp [Part.Same]

theorem State.swapStopped_onlyIn (s : State) : s.OnlyIn chargerParts s.swapStopped := by
  intro p hp
  have a := fun t : State => State.rebudgetBy_onlyIn State.enterCharger State.enterCharger_onlyIn t
    { t.spm with stageLimit := (t.stage ((t.pch.pen.bind PenRecord.stage).getD 0)).currentLimit } p hp
  cases p <;> first | exact absurd (by decide) hp | exact (a _).trans (by simp)

theorem State.toCharger_onlyIn (s : State) (c : ChargerState) : s.OnlyIn chargerParts (s.toCharger c) := by
  unfold State.toCharger
  dsimp only
  split
  · exact (State.enterCharger_onlyIn s c).trans (State.swapStopped_onlyIn _)
  · exact State.enterCharger_onlyIn s c

/-- What lies outside the parts is the same. -/
theorem State.OnlyIn.charger {s t : State} (h : s.OnlyIn chargerParts t) :
    t.pending = s.pending ∧ t.ticks = s.ticks ∧ t.pins = s.pins ∧ t.counters = s.counters ∧ t.pae = s.pae ∧ t.blk = s.blk ∧
    t.psc = s.psc ∧ t.dlu = s.dlu ∧ t.slk = s.slk :=
  ⟨h .pending (by decide), h .ticks (by decide), h .pins (by decide), h .counters (by decide), h .pae (by decide),
    h .blk (by decide), h .psc (by decide), h .dlu (by decide), h .slk (by decide)⟩

@[simp] theorem State.toCharger_frame (s : State) (c : ChargerState) :
    (s.toCharger c).pending = s.pending ∧ (s.toCharger c).ticks = s.ticks ∧ (s.toCharger c).pins = s.pins ∧
    (s.toCharger c).counters = s.counters ∧ (s.toCharger c).pae = s.pae ∧ (s.toCharger c).blk = s.blk ∧
    (s.toCharger c).psc = s.psc ∧ (s.toCharger c).dlu = s.dlu ∧ (s.toCharger c).slk = s.slk := (State.toCharger_onlyIn s c).charger

@[simp] theorem State.detachNotice_frame (s : State) (o : DetachOutcome) (src : Option ReleaseSource) (before : DetachState) :
    (s.detachNotice o src before).pending = s.pending ∧ (s.detachNotice o src before).ticks = s.ticks ∧
    (s.detachNotice o src before).pins = s.pins ∧ (s.detachNotice o src before).counters = s.counters ∧
    (s.detachNotice o src before).tables = s.tables ∧ (s.detachNotice o src before).cnv = s.cnv ∧
    (s.detachNotice o src before).pae = s.pae ∧ (s.detachNotice o src before).blk = s.blk ∧
    (s.detachNotice o src before).psc = s.psc ∧ (s.detachNotice o src before).pch = s.pch ∧
    (s.detachNotice o src before).bcd = s.bcd ∧ (s.detachNotice o src before).dlu = s.dlu ∧
    (s.detachNotice o src before).slk = s.slk := by
  unfold State.detachNotice
  simp

@[simp] theorem State.toIdent_frame (s : State) (kind : BurstKind) :
    (s.toIdent kind).pending = s.pending ∧
    (s.toIdent kind).ticks = s.ticks ∧ (s.toIdent kind).pins = s.pins ∧ (s.toIdent kind).counters = s.counters ∧
    (s.toIdent kind).tables = s.tables ∧ (s.toIdent kind).pae = s.pae ∧ (s.toIdent kind).blk = s.blk ∧
    (s.toIdent kind).psc = s.psc ∧ (s.toIdent kind).dlu = s.dlu ∧ (s.toIdent kind).spm = s.spm ∧
    (s.toIdent kind).slk = s.slk := by
  unfold State.toIdent
  simp

@[simp] theorem State.rotate_frame (s : State) :
    s.rotate.pending = s.pending ∧ s.rotate.ticks = s.ticks ∧ s.rotate.pins = s.pins ∧ s.rotate.counters = s.counters ∧
    s.rotate.tables = s.tables ∧ s.rotate.cnv = s.cnv ∧ s.rotate.blk = s.blk ∧ s.rotate.psc = s.psc ∧
    s.rotate.pch = s.pch ∧ s.rotate.bcd = s.bcd ∧ s.rotate.dlu = s.dlu ∧ s.rotate.spm = s.spm ∧ s.rotate.slk = s.slk := by
  unfold State.rotate
  (repeat' split) <;> simp

@[simp] theorem State.flushWrites_frame (s : State) (counted : Bool) :
    (s.flushWrites counted).pending = s.pending ∧ (s.flushWrites counted).ticks = s.ticks ∧
    (s.flushWrites counted).pins = s.pins ∧ (s.flushWrites counted).tables = s.tables ∧
    (s.flushWrites counted).cnv = s.cnv ∧ (s.flushWrites counted).pae = s.pae ∧ (s.flushWrites counted).blk = s.blk ∧
    (s.flushWrites counted).pch = s.pch ∧ (s.flushWrites counted).bcd = s.bcd ∧ (s.flushWrites counted).dlu = s.dlu ∧
    (s.flushWrites counted).spm = s.spm ∧ (s.flushWrites counted).slk = s.slk := by
  unfold State.flushWrites
  (repeat' split) <;> simp

@[simp] theorem State.checkFailed_frame (s : State) :
    s.checkFailed.pending = s.pending ∧
    s.checkFailed.ticks = s.ticks ∧ s.checkFailed.pins = s.pins ∧ s.checkFailed.counters = s.counters ∧
    s.checkFailed.tables = s.tables ∧ s.checkFailed.cnv = s.cnv ∧ s.checkFailed.pae = s.pae ∧
    s.checkFailed.blk = s.blk ∧ s.checkFailed.psc = s.psc ∧ s.checkFailed.bcd = s.bcd ∧ s.checkFailed.dlu = s.dlu ∧
    s.checkFailed.spm = s.spm ∧ s.checkFailed.slk = s.slk := by
  unfold State.checkFailed
  (repeat' split) <;> simp

@[simp] theorem State.packetBroken_frame (s : State) :
    s.packetBroken.pending = s.pending ∧
    s.packetBroken.ticks = s.ticks ∧ s.packetBroken.pins = s.pins ∧ s.packetBroken.counters = s.counters ∧
    s.packetBroken.tables = s.tables ∧ s.packetBroken.cnv = s.cnv ∧ s.packetBroken.pae = s.pae ∧
    s.packetBroken.blk = s.blk ∧ s.packetBroken.psc = s.psc ∧ s.packetBroken.bcd = s.bcd ∧
    s.packetBroken.dlu = s.dlu ∧ s.packetBroken.spm = s.spm ∧ s.packetBroken.slk = s.slk := by
  unfold State.packetBroken
  (repeat' split) <;> simp

@[simp] theorem State.query_frame (s : State) (f : DownFrame) :
    (s.query f).pending = s.pending ∧
    (s.query f).ticks = s.ticks ∧ (s.query f).pins = s.pins ∧ (s.query f).tables = s.tables ∧
    (s.query f).cnv = s.cnv ∧ (s.query f).pae = s.pae ∧ (s.query f).blk = s.blk ∧ (s.query f).psc = s.psc ∧
    (s.query f).bcd = s.bcd ∧ (s.query f).dlu = s.dlu ∧ (s.query f).spm = s.spm ∧ (s.query f).slk = s.slk := by
  unfold State.query
  (repeat' split) <;> simp

@[simp] theorem State.baseWrite_frame (s : State) (f : DownFrame) :
    (s.baseWrite f).pending = s.pending ∧
    (s.baseWrite f).ticks = s.ticks ∧ (s.baseWrite f).pins = s.pins ∧ (s.baseWrite f).counters = s.counters ∧
    (s.baseWrite f).tables = s.tables ∧ (s.baseWrite f).cnv = s.cnv ∧ (s.baseWrite f).pae = s.pae ∧
    (s.baseWrite f).blk = s.blk ∧ (s.baseWrite f).pch = s.pch ∧ (s.baseWrite f).bcd = s.bcd ∧
    (s.baseWrite f).dlu = s.dlu ∧ (s.baseWrite f).spm = s.spm ∧ (s.baseWrite f).slk = s.slk := by
  unfold State.baseWrite
  (repeat' split) <;> simp

@[simp] theorem State.toPaused_frame (s : State) :
    s.toPaused.pending = s.pending ∧ s.toPaused.ticks = s.ticks ∧ s.toPaused.pins = s.pins ∧
    s.toPaused.counters = s.counters ∧ s.toPaused.pae = s.pae ∧ s.toPaused.blk = s.blk ∧ s.toPaused.psc = s.psc ∧
    s.toPaused.dlu = s.dlu ∧ s.toPaused.slk = s.slk :=
  (State.toPausedBy_onlyIn _ State.toCharger_onlyIn s).charger

@[simp] theorem State.toWait_frame (s : State) :
    s.toWait.pending = s.pending ∧ s.toWait.ticks = s.ticks ∧ s.toWait.pins = s.pins ∧ s.toWait.counters = s.counters ∧
    s.toWait.pae = s.pae ∧ s.toWait.blk = s.blk ∧ s.toWait.psc = s.psc ∧ s.toWait.dlu = s.dlu ∧ s.toWait.slk = s.slk :=
  (State.toWaitBy_onlyIn _ State.toCharger_onlyIn s).charger

@[simp] theorem State.abortRequest_frame (s : State) :
    s.abortRequest.pending = s.pending ∧
    s.abortRequest.ticks = s.ticks ∧ s.abortRequest.pins = s.pins ∧ s.abortRequest.counters = s.counters ∧
    s.abortRequest.tables = s.tables ∧ s.abortRequest.cnv = s.cnv ∧ s.abortRequest.pae = s.pae ∧
    s.abortRequest.blk = s.blk ∧ s.abortRequest.psc = s.psc ∧ s.abortRequest.pch = s.pch ∧
    s.abortRequest.bcd = s.bcd ∧ s.abortRequest.slk = s.slk := by
  unfold State.abortRequest
  simp

@[simp] theorem State.toDone_frame (s : State) :
    s.toDone.pending = s.pending ∧ s.toDone.ticks = s.ticks ∧ s.toDone.pins = s.pins ∧ s.toDone.counters = s.counters ∧
    s.toDone.pae = s.pae ∧ s.toDone.blk = s.blk ∧ s.toDone.psc = s.psc ∧ s.toDone.dlu = s.dlu ∧ s.toDone.slk = s.slk := by
  unfold State.toDone
  simp

@[simp] theorem State.toFault_frame (s : State) (r : FaultReason) (code : Option Byte) :
    (s.toFault r code).pending = s.pending ∧ (s.toFault r code).ticks = s.ticks ∧ (s.toFault r code).pins = s.pins ∧
    (s.toFault r code).counters = s.counters ∧ (s.toFault r code).pae = s.pae ∧ (s.toFault r code).blk = s.blk ∧
    (s.toFault r code).psc = s.psc ∧ (s.toFault r code).dlu = s.dlu ∧ (s.toFault r code).slk = s.slk := by
  unfold State.toFault
  simp

@[simp] theorem State.packetTimedOut_frame (s : State) :
    s.packetTimedOut.pending = s.pending ∧
    s.packetTimedOut.ticks = s.ticks ∧ s.packetTimedOut.pins = s.pins ∧ s.packetTimedOut.counters = s.counters ∧
    s.packetTimedOut.tables = s.tables ∧ s.packetTimedOut.pae = s.pae ∧ s.packetTimedOut.blk = s.blk ∧
    s.packetTimedOut.psc = s.psc ∧ s.packetTimedOut.dlu = s.dlu ∧ s.packetTimedOut.spm = s.spm ∧
    s.packetTimedOut.slk = s.slk := by
  unfold State.packetTimedOut
  dsimp only
  (repeat' split) <;> simp

@[simp] theorem State.takeS_frame (s : State) :
    s.takeS.pending = s.pending ∧ s.takeS.ticks = s.ticks ∧
    s.takeS.pins = s.pins ∧ s.takeS.tables = s.tables ∧ s.takeS.pae = s.pae ∧ s.takeS.blk = s.blk ∧
    s.takeS.psc = s.psc ∧ s.takeS.bcd = s.bcd ∧ s.takeS.dlu = s.dlu ∧ s.takeS.spm = s.spm ∧ s.takeS.slk = s.slk := by
  unfold State.takeS
  (repeat' split) <;> simp

@[simp] theorem State.serveHeld_frame (s : State) :
    s.serveHeld.pending = s.pending ∧
    s.serveHeld.ticks = s.ticks ∧ s.serveHeld.pins = s.pins ∧ s.serveHeld.tables = s.tables ∧
    s.serveHeld.pae = s.pae ∧ s.serveHeld.blk = s.blk ∧ s.serveHeld.psc = s.psc ∧ s.serveHeld.pch = s.pch ∧
    s.serveHeld.bcd = s.bcd ∧ s.serveHeld.dlu = s.dlu ∧ s.serveHeld.spm = s.spm ∧ s.serveHeld.slk = s.slk := by
  unfold State.serveHeld
  (repeat' split) <;> simp

@[simp] theorem State.takeC_frame (s : State) :
    s.takeC.pending = s.pending ∧ s.takeC.ticks = s.ticks ∧
    s.takeC.pins = s.pins ∧ s.takeC.tables = s.tables ∧ s.takeC.pae = s.pae ∧ s.takeC.blk = s.blk ∧
    s.takeC.psc = s.psc ∧ s.takeC.pch = s.pch ∧ s.takeC.bcd = s.bcd ∧ s.takeC.dlu = s.dlu ∧ s.takeC.spm = s.spm ∧
    s.takeC.slk = s.slk := by
  unfold State.takeC
  (repeat' split) <;> simp

@[simp] theorem State.toRequested_frame (s : State) :
    s.toRequested.pending = s.pending ∧
    s.toRequested.ticks = s.ticks ∧ s.toRequested.pins = s.pins ∧ s.toRequested.counters = s.counters ∧
    s.toRequested.tables = s.tables ∧ s.toRequested.cnv = s.cnv ∧ s.toRequested.pae = s.pae ∧
    s.toRequested.blk = s.blk ∧ s.toRequested.psc = s.psc ∧ s.toRequested.pch = s.pch ∧ s.toRequested.bcd = s.bcd ∧
    s.toRequested.slk = s.slk := by
  unfold State.toRequested
  simp

@[simp] theorem State.forward_frame (s : State) (r : Report) :
    (s.forward r).pending = s.pending ∧
    (s.forward r).ticks = s.ticks ∧ (s.forward r).pins = s.pins ∧ (s.forward r).tables = s.tables ∧
    (s.forward r).cnv = s.cnv ∧ (s.forward r).pae = s.pae ∧ (s.forward r).blk = s.blk ∧ (s.forward r).psc = s.psc ∧
    (s.forward r).pch = s.pch ∧ (s.forward r).bcd = s.bcd ∧ (s.forward r).dlu = s.dlu ∧ (s.forward r).spm = s.spm ∧
    (s.forward r).slk = s.slk := by
  unfold State.forward
  (repeat' split) <;> simp

@[simp] theorem State.coalesce_frame (s : State) (r : Report) :
    (s.coalesce r).pending = s.pending ∧
    (s.coalesce r).ticks = s.ticks ∧ (s.coalesce r).pins = s.pins ∧ (s.coalesce r).tables = s.tables ∧
    (s.coalesce r).cnv = s.cnv ∧ (s.coalesce r).pae = s.pae ∧ (s.coalesce r).blk = s.blk ∧
    (s.coalesce r).psc = s.psc ∧ (s.coalesce r).pch = s.pch ∧ (s.coalesce r).bcd = s.bcd ∧
    (s.coalesce r).dlu = s.dlu ∧ (s.coalesce r).spm = s.spm ∧ (s.coalesce r).slk = s.slk := by
  unfold State.coalesce
  (repeat' split) <;> simp

@[simp] theorem State.dueTime_frame (s : State) (i : Nat) :
    (s.dueTime i).pending = s.pending ∧
    (s.dueTime i).ticks = s.ticks ∧ (s.dueTime i).pins = s.pins ∧ (s.dueTime i).tables = s.tables ∧
    (s.dueTime i).cnv = s.cnv ∧ (s.dueTime i).pae = s.pae ∧ (s.dueTime i).blk = s.blk ∧ (s.dueTime i).pch = s.pch ∧
    (s.dueTime i).bcd = s.bcd ∧ (s.dueTime i).dlu = s.dlu ∧ (s.dueTime i).spm = s.spm ∧
    (s.dueTime i).slk = s.slk := by
  unfold State.dueTime
  (repeat' split) <;> simp

@[simp] theorem State.violation_frame (s : State) :
    s.violation.pending = s.pending ∧
    s.violation.ticks = s.ticks ∧ s.violation.pins = s.pins ∧ s.violation.counters = s.counters ∧
    s.violation.tables = s.tables ∧ s.violation.pae = s.pae ∧ s.violation.blk = s.blk ∧ s.violation.psc = s.psc ∧
    s.violation.dlu = s.dlu ∧ s.violation.spm = s.spm ∧ s.violation.slk = s.slk := by
  unfold State.violation
  (repeat' split) <;> simp

@[simp] theorem State.offer_frame (s : State) (f : DownFrame) :
    (s.offer f).pending = s.pending ∧
    (s.offer f).ticks = s.ticks ∧ (s.offer f).pins = s.pins ∧ (s.offer f).tables = s.tables ∧
    (s.offer f).cnv = s.cnv ∧ (s.offer f).pae = s.pae ∧ (s.offer f).blk = s.blk ∧ (s.offer f).psc = s.psc ∧
    (s.offer f).pch = s.pch ∧ (s.offer f).bcd = s.bcd ∧ (s.offer f).dlu = s.dlu ∧ (s.offer f).spm = s.spm := by
  unfold State.offer
  (repeat' split) <;> simp

@[simp] theorem State.detachDeny_frame (s : State) (f : DownFrame) :
    (s.detachDeny f).pending = s.pending ∧
    (s.detachDeny f).ticks = s.ticks ∧ (s.detachDeny f).pins = s.pins ∧ (s.detachDeny f).counters = s.counters ∧
    (s.detachDeny f).tables = s.tables ∧ (s.detachDeny f).cnv = s.cnv ∧ (s.detachDeny f).pae = s.pae ∧
    (s.detachDeny f).blk = s.blk ∧ (s.detachDeny f).psc = s.psc ∧ (s.detachDeny f).pch = s.pch ∧
    (s.detachDeny f).bcd = s.bcd ∧ (s.detachDeny f).slk = s.slk := by
  unfold State.detachDeny
  (repeat' split) <;> simp

@[simp] theorem State.waitFromOff_frame (s : State) :
    s.waitFromOff.pending = s.pending ∧ s.waitFromOff.ticks = s.ticks ∧ s.waitFromOff.pins = s.pins ∧
    s.waitFromOff.counters = s.counters ∧ s.waitFromOff.pae = s.pae ∧ s.waitFromOff.blk = s.blk ∧
    s.waitFromOff.psc = s.psc ∧ s.waitFromOff.dlu = s.dlu ∧ s.waitFromOff.slk = s.slk := by
  unfold State.waitFromOff
  (repeat' split) <;> simp

@[simp] theorem State.setPauses_frame (s : State) (q : Pauses) :
    (s.setPauses q).pending = s.pending ∧ (s.setPauses q).ticks = s.ticks ∧ (s.setPauses q).pins = s.pins ∧
    (s.setPauses q).counters = s.counters ∧ (s.setPauses q).pae = s.pae ∧ (s.setPauses q).blk = s.blk ∧
    (s.setPauses q).psc = s.psc ∧ (s.setPauses q).dlu = s.dlu ∧ (s.setPauses q).slk = s.slk :=
  (State.setPausesBy_onlyIn _ State.toCharger_onlyIn s q).charger

@[simp] theorem State.regulate_frame (s : State) (coilI : Nat) :
    (s.regulate coilI).pending = s.pending ∧ (s.regulate coilI).ticks = s.ticks ∧ (s.regulate coilI).pins = s.pins ∧
    (s.regulate coilI).counters = s.counters ∧ (s.regulate coilI).pae = s.pae ∧ (s.regulate coilI).blk = s.blk ∧
    (s.regulate coilI).psc = s.psc ∧ (s.regulate coilI).dlu = s.dlu ∧ (s.regulate coilI).slk = s.slk := by
  unfold State.regulate
  dsimp only
  (repeat' split) <;> simp

@[simp] theorem State.batteryInIdent_frame (s : State) (b : Nat) :
    (s.batteryInIdent b).pending = s.pending ∧ (s.batteryInIdent b).ticks = s.ticks ∧ (s.batteryInIdent b).pins = s.pins ∧
    (s.batteryInIdent b).counters = s.counters ∧ (s.batteryInIdent b).pae = s.pae ∧ (s.batteryInIdent b).blk = s.blk ∧
    (s.batteryInIdent b).psc = s.psc ∧ (s.batteryInIdent b).dlu = s.dlu ∧ (s.batteryInIdent b).slk = s.slk := by
  unfold State.batteryInIdent
  (repeat' split) <;> simp

@[simp] theorem State.batteryInCharge_frame (s : State) (b : Nat) :
    (s.batteryInCharge b).pending = s.pending ∧ (s.batteryInCharge b).ticks = s.ticks ∧
    (s.batteryInCharge b).pins = s.pins ∧ (s.batteryInCharge b).counters = s.counters ∧ (s.batteryInCharge b).pae = s.pae ∧
    (s.batteryInCharge b).blk = s.blk ∧ (s.batteryInCharge b).psc = s.psc ∧ (s.batteryInCharge b).dlu = s.dlu ∧
    (s.batteryInCharge b).slk = s.slk := by
  unfold State.batteryInCharge
  dsimp only
  (repeat' split) <;> simp

@[simp] theorem State.burstFailed_frame (s : State) :
    s.burstFailed.pending = s.pending ∧ s.burstFailed.ticks = s.ticks ∧ s.burstFailed.pins = s.pins ∧
    s.burstFailed.counters = s.counters ∧ s.burstFailed.pae = s.pae ∧ s.burstFailed.blk = s.blk ∧
    s.burstFailed.psc = s.psc ∧ s.burstFailed.dlu = s.dlu ∧ s.burstFailed.slk = s.slk := by
  unfold State.burstFailed
  dsimp only
  (repeat' split) <;> simp

@[simp] theorem State.buttonPressed_frame (s : State) :
    s.buttonPressed.pending = s.pending ∧
    s.buttonPressed.ticks = s.ticks ∧ s.buttonPressed.pins = s.pins ∧ s.buttonPressed.counters = s.counters ∧
    s.buttonPressed.tables = s.tables ∧ s.buttonPressed.cnv = s.cnv ∧ s.buttonPressed.pae = s.pae ∧
    s.buttonPressed.blk = s.blk ∧ s.buttonPressed.psc = s.psc ∧ s.buttonPressed.pch = s.pch ∧
    s.buttonPressed.bcd = s.bcd ∧ s.buttonPressed.slk = s.slk := by
  unfold State.buttonPressed
  (repeat' split) <;> simp

@[simp] theorem State.applyAction_frame (s : State) (a : RouteAction) (r : Report) :
    (s.applyAction a r).pending = s.pending ∧ (s.applyAction a r).ticks = s.ticks ∧
    (s.applyAction a r).pins = s.pins ∧ (s.applyAction a r).tables = s.tables ∧ (s.applyAction a r).cnv = s.cnv ∧
    (s.applyAction a r).pae = s.pae ∧ (s.applyAction a r).blk = s.blk ∧ (s.applyAction a r).psc = s.psc ∧
    (s.applyAction a r).pch = s.pch ∧ (s.applyAction a r).bcd = s.bcd ∧ (s.applyAction a r).dlu = s.dlu ∧
    (s.applyAction a r).spm = s.spm ∧ (s.applyAction a r).slk = s.slk := by
  unfold State.applyAction
  (repeat' split) <;> simp

@[simp] theorem State.enterFault_frame (s : State) :
    s.enterFault.pending = s.pending ∧
    s.enterFault.ticks = s.ticks ∧ s.enterFault.pins = s.pins ∧ s.enterFault.tables = s.tables ∧
    s.enterFault.cnv = s.cnv ∧ s.enterFault.pae = s.pae ∧ s.enterFault.pch = s.pch ∧ s.enterFault.bcd = s.bcd ∧
    s.enterFault.slk = s.slk := by
  unfold State.enterFault
  dsimp only
  (repeat' split) <;> simp

@[simp] theorem State.judgeInterval_frame (s : State) (ticks : Nat) :
    (s.judgeInterval ticks).pending = s.pending ∧ (s.judgeInterval ticks).ticks = s.ticks ∧
    (s.judgeInterval ticks).pins = s.pins ∧ (s.judgeInterval ticks).counters = s.counters ∧
    (s.judgeInterval ticks).pae = s.pae ∧ (s.judgeInterval ticks).blk = s.blk ∧ (s.judgeInterval ticks).psc = s.psc ∧
    (s.judgeInterval ticks).dlu = s.dlu ∧ (s.judgeInterval ticks).slk = s.slk := by
  unfold State.judgeInterval
  (repeat' split) <;> simp

@[simp] theorem State.silence_frame (s : State) :
    s.silence.pending = s.pending ∧ s.silence.ticks = s.ticks ∧
    s.silence.pins = s.pins ∧ s.silence.counters = s.counters ∧ s.silence.tables = s.tables ∧ s.silence.pae = s.pae ∧
    s.silence.blk = s.blk ∧ s.silence.psc = s.psc ∧ s.silence.dlu = s.dlu ∧ s.silence.spm = s.spm ∧
    s.silence.slk = s.slk := by
  unfold State.silence
  simp

@[simp] theorem State.hunt_frame (n : Nat) (s : State) (l : List RxChar) :
    (State.hunt n s l).pending = s.pending ∧ (State.hunt n s l).ticks = s.ticks ∧ (State.hunt n s l).pins = s.pins ∧
    (State.hunt n s l).tables = s.tables ∧ (State.hunt n s l).cnv = s.cnv ∧ (State.hunt n s l).pae = s.pae ∧
    (State.hunt n s l).blk = s.blk ∧ (State.hunt n s l).psc = s.psc ∧ (State.hunt n s l).pch = s.pch ∧
    (State.hunt n s l).bcd = s.bcd ∧ (State.hunt n s l).dlu = s.dlu ∧ (State.hunt n s l).spm = s.spm := by
  induction n generalizing s l with
  | zero => simp [State.hunt]
  | succ n ih =>
    cases l with
    | nil => simp [State.hunt]
    | cons c r =>
      simp only [State.hunt]
      split <;> simp [ih]

@[simp] theorem State.rebudget_frame (s : State) (p : Spm) :
    (s.rebudget p).pending = s.pending ∧ (s.rebudget p).ticks = s.ticks ∧ (s.rebudget p).pins = s.pins ∧
    (s.rebudget p).counters = s.counters ∧ (s.rebudget p).pae = s.pae ∧ (s.rebudget p).blk = s.blk ∧
    (s.rebudget p).psc = s.psc ∧ (s.rebudget p).dlu = s.dlu ∧ (s.rebudget p).slk = s.slk :=
  (State.rebudgetBy_onlyIn _ State.toCharger_onlyIn s p).charger

@[simp] theorem State.judgeSleep_frame (s : State) :
    s.judgeSleep.pending = s.pending ∧ s.judgeSleep.ticks = s.ticks ∧ s.judgeSleep.pins = s.pins ∧
    s.judgeSleep.counters = s.counters ∧ s.judgeSleep.pae = s.pae ∧ s.judgeSleep.blk = s.blk ∧ s.judgeSleep.psc = s.psc ∧
    s.judgeSleep.dlu = s.dlu ∧ s.judgeSleep.slk = s.slk := by
  unfold State.judgeSleep
  simp

@[simp] theorem State.enableCharging_frame (s : State) :
    s.enableCharging.pending = s.pending ∧ s.enableCharging.ticks = s.ticks ∧ s.enableCharging.pins = s.pins ∧
    s.enableCharging.counters = s.counters ∧ s.enableCharging.pae = s.pae ∧ s.enableCharging.blk = s.blk ∧
    s.enableCharging.psc = s.psc ∧ s.enableCharging.dlu = s.dlu ∧ s.enableCharging.slk = s.slk := by
  unfold State.enableCharging
  dsimp only
  (repeat' split) <;> simp

@[simp] theorem State.deliver_frame (s : State) (kind value : Byte) :
    (s.deliver kind value).pending = s.pending ∧ (s.deliver kind value).ticks = s.ticks ∧
    (s.deliver kind value).pins = s.pins ∧ (s.deliver kind value).counters = s.counters ∧
    (s.deliver kind value).pae = s.pae ∧ (s.deliver kind value).blk = s.blk ∧ (s.deliver kind value).psc = s.psc ∧
    (s.deliver kind value).dlu = s.dlu ∧ (s.deliver kind value).slk = s.slk := by
  unfold State.deliver
  dsimp only
  (repeat' split) <;> simp

@[simp] theorem State.attemptFailed_frame (s : State) :
    s.attemptFailed.pending = s.pending ∧
    s.attemptFailed.ticks = s.ticks ∧ s.attemptFailed.pins = s.pins ∧ s.attemptFailed.tables = s.tables ∧
    s.attemptFailed.cnv = s.cnv ∧ s.attemptFailed.pae = s.pae ∧ s.attemptFailed.pch = s.pch ∧
    s.attemptFailed.bcd = s.bcd ∧ s.attemptFailed.slk = s.slk := by
  unfold State.attemptFailed
  dsimp only
  (repeat' split) <;> simp

@[simp] theorem State.pollFailed_frame (s : State) :
    s.pollFailed.pending = s.pending ∧
    s.pollFailed.ticks = s.ticks ∧ s.pollFailed.pins = s.pins ∧ s.pollFailed.tables = s.tables ∧
    s.pollFailed.cnv = s.cnv ∧ s.pollFailed.pae = s.pae ∧ s.pollFailed.pch = s.pch ∧ s.pollFailed.bcd = s.bcd ∧
    s.pollFailed.slk = s.slk := by
  unfold State.pollFailed
  dsimp only
  (repeat' split) <;> simp

@[simp] theorem State.risingEdge_frame (s : State) (stamp : Stamp) :
    (s.risingEdge stamp).pending = s.pending ∧ (s.risingEdge stamp).ticks = s.ticks ∧ (s.risingEdge stamp).pins = s.pins ∧
    (s.risingEdge stamp).counters = s.counters ∧ (s.risingEdge stamp).pae = s.pae ∧ (s.risingEdge stamp).blk = s.blk ∧
    (s.risingEdge stamp).psc = s.psc ∧ (s.risingEdge stamp).dlu = s.dlu ∧ (s.risingEdge stamp).slk = s.slk := by
  unfold State.risingEdge
  dsimp only
  (repeat' split) <;> simp

@[simp] theorem State.receive_frame (s : State) (c : RxChar) :
    (s.receive c).pending = s.pending ∧
    (s.receive c).ticks = s.ticks ∧ (s.receive c).pins = s.pins ∧ (s.receive c).tables = s.tables ∧
    (s.receive c).cnv = s.cnv ∧ (s.receive c).pae = s.pae ∧ (s.receive c).blk = s.blk ∧ (s.receive c).psc = s.psc ∧
    (s.receive c).pch = s.pch ∧ (s.receive c).bcd = s.bcd ∧ (s.receive c).dlu = s.dlu ∧
    (s.receive c).spm = s.spm := by
  unfold State.receive
  simp

@[simp] theorem State.setPower_frame (s : State) (r : Option PowerReport) :
    (s.setPower r).pending = s.pending ∧ (s.setPower r).ticks = s.ticks ∧ (s.setPower r).pins = s.pins ∧
    (s.setPower r).counters = s.counters ∧ (s.setPower r).pae = s.pae ∧ (s.setPower r).blk = s.blk ∧
    (s.setPower r).psc = s.psc ∧ (s.setPower r).dlu = s.dlu ∧ (s.setPower r).slk = s.slk := by
  unfold State.setPower
  simp

@[simp] theorem State.handLimit_frame (s : State) :
    s.handLimit.pending = s.pending ∧ s.handLimit.ticks = s.ticks ∧ s.handLimit.pins = s.pins ∧
    s.handLimit.counters = s.counters ∧ s.handLimit.pae = s.pae ∧ s.handLimit.blk = s.blk ∧ s.handLimit.psc = s.psc ∧
    s.handLimit.dlu = s.dlu ∧ s.handLimit.slk = s.slk :=
  (State.rebudgetBy_onlyIn _ State.toCharger_onlyIn s _).charger

@[simp] theorem State.setLatchClaim_frame (s : State) (mA : Nat) :
    (s.setLatchClaim mA).pending = s.pending ∧ (s.setLatchClaim mA).ticks = s.ticks ∧ (s.setLatchClaim mA).pins = s.pins ∧
    (s.setLatchClaim mA).counters = s.counters ∧ (s.setLatchClaim mA).pae = s.pae ∧ (s.setLatchClaim mA).blk = s.blk ∧
    (s.setLatchClaim mA).psc = s.psc ∧ (s.setLatchClaim mA).dlu = s.dlu ∧ (s.setLatchClaim mA).slk = s.slk := by
  unfold State.setLatchClaim
  simp

@[simp] theorem State.intoWaking_frame (s : State) :
    s.intoWaking.pending = s.pending ∧ s.intoWaking.ticks = s.ticks ∧ s.intoWaking.pins = s.pins ∧
    s.intoWaking.counters = s.counters ∧ s.intoWaking.tables = s.tables ∧ s.intoWaking.cnv = s.cnv ∧
    s.intoWaking.pae = s.pae ∧ s.intoWaking.blk = s.blk ∧ s.intoWaking.pch = s.pch ∧ s.intoWaking.bcd = s.bcd ∧
    s.intoWaking.dlu = s.dlu ∧ s.intoWaking.upq = s.upq ∧ s.intoWaking.slk = s.slk ∧ s.intoWaking.psc = s.psc := by
  unfold State.intoWaking
  simp

@[simp] theorem State.intoAwake_frame (s : State) :
    s.intoAwake.pending = s.pending ∧ s.intoAwake.ticks = s.ticks ∧ s.intoAwake.pins = s.pins ∧
    s.intoAwake.counters = s.counters ∧ s.intoAwake.tables = s.tables ∧ s.intoAwake.cnv = s.cnv ∧ s.intoAwake.pae = s.pae ∧
    s.intoAwake.blk = s.blk ∧ s.intoAwake.pch = s.pch ∧ s.intoAwake.bcd = s.bcd ∧ s.intoAwake.dlu = s.dlu ∧
    s.intoAwake.upq = s.upq ∧ s.intoAwake.slk = s.slk ∧ s.intoAwake.psc = s.psc := by
  unfold State.intoAwake
  simp

@[simp] theorem State.toWaking_frame (s : State) :
    s.toWaking.pending = s.pending ∧ s.toWaking.ticks = s.ticks ∧ s.toWaking.pins = s.pins ∧
    s.toWaking.counters = s.counters ∧ s.toWaking.pae = s.pae ∧ s.toWaking.blk = s.blk ∧ s.toWaking.psc = s.psc ∧
    s.toWaking.dlu = s.dlu ∧ s.toWaking.slk = s.slk := by
  unfold State.toWaking
  simp

@[simp] theorem State.toAwake_frame (s : State) :
    s.toAwake.pending = s.pending ∧ s.toAwake.ticks = s.ticks ∧ s.toAwake.pins = s.pins ∧ s.toAwake.counters = s.counters ∧
    s.toAwake.pae = s.pae ∧ s.toAwake.blk = s.blk ∧ s.toAwake.psc = s.psc ∧ s.toAwake.dlu = s.dlu ∧
    s.toAwake.slk = s.slk := by
  unfold State.toAwake
  simp

@[simp] theorem State.spmPosture_frame (s : State) :
    s.spmPosture.pending = s.pending ∧ s.spmPosture.ticks = s.ticks ∧ s.spmPosture.pins = s.pins ∧
    s.spmPosture.counters = s.counters ∧ s.spmPosture.pae = s.pae ∧ s.spmPosture.blk = s.blk ∧ s.spmPosture.psc = s.psc ∧
    s.spmPosture.dlu = s.dlu ∧ s.spmPosture.slk = s.slk := by
  unfold State.spmPosture
  simp

@[simp] theorem State.fail_frame (s : State) (t : Txn) (e : LineError) (low : Option LineLow) :
    (s.fail t e low).pending = s.pending ∧ (s.fail t e low).ticks = s.ticks ∧ (s.fail t e low).pins = s.pins ∧
    (s.fail t e low).tables = s.tables ∧ (s.fail t e low).cnv = s.cnv ∧ (s.fail t e low).pae = s.pae ∧
    (s.fail t e low).pch = s.pch ∧ (s.fail t e low).bcd = s.bcd ∧ (s.fail t e low).slk = s.slk := by
  unfold State.fail
  dsimp only
  (repeat' split) <;> simp

@[simp] theorem State.stuck_frame (s : State) :
    s.stuck.pending = s.pending ∧ s.stuck.ticks = s.ticks ∧
    s.stuck.pins = s.pins ∧ s.stuck.tables = s.tables ∧ s.stuck.cnv = s.cnv ∧ s.stuck.pae = s.pae ∧
    s.stuck.pch = s.pch ∧ s.stuck.bcd = s.bcd ∧ s.stuck.slk = s.slk := by
  unfold State.stuck
  (repeat' split) <;> simp

@[simp] theorem State.systemSleeping_frame (s : State) (d : Depth) :
    (s.systemSleeping d).pending = s.pending ∧ (s.systemSleeping d).ticks = s.ticks ∧ (s.systemSleeping d).pins = s.pins ∧
    (s.systemSleeping d).counters = s.counters ∧ (s.systemSleeping d).pae = s.pae ∧ (s.systemSleeping d).blk = s.blk ∧
    (s.systemSleeping d).dlu = s.dlu ∧ (s.systemSleeping d).slk = s.slk := by
  unfold State.systemSleeping
  (repeat' split) <;> simp

@[simp] theorem State.enterDeep_frame (s : State) :
    s.enterDeep.pending = s.pending ∧ s.enterDeep.ticks = s.ticks ∧ s.enterDeep.pins = s.pins ∧
    s.enterDeep.counters = s.counters ∧ s.enterDeep.slk = s.slk := by
  unfold State.enterDeep
  (repeat' split) <;> simp

@[simp] theorem State.complete_frame (s : State) (acc : BitVec 24) :
    (s.complete acc).pending = s.pending ∧ (s.complete acc).ticks = s.ticks ∧ (s.complete acc).pins = s.pins ∧
    (s.complete acc).counters = s.counters ∧ (s.complete acc).pae = s.pae ∧ (s.complete acc).blk = s.blk ∧
    (s.complete acc).psc = s.psc ∧ (s.complete acc).dlu = s.dlu ∧ (s.complete acc).slk = s.slk := by
  unfold State.complete
  dsimp only
  (repeat' split) <;> simp

@[simp] theorem State.wakeSource_frame (s : State) (w : WakeSource) :
    (s.wakeSource w).pending = s.pending ∧ (s.wakeSource w).ticks = s.ticks ∧ (s.wakeSource w).pins = s.pins ∧
    (s.wakeSource w).counters = s.counters ∧ (s.wakeSource w).pae = s.pae ∧ (s.wakeSource w).blk = s.blk ∧
    (s.wakeSource w).psc = s.psc ∧ (s.wakeSource w).dlu = s.dlu ∧ (s.wakeSource w).slk = s.slk := by
  unfold State.wakeSource
  dsimp only
  (repeat' split) <;> simp

@[simp] theorem State.toReleasing_frame (s : State) (src : ReleaseSource) :
    (s.toReleasing src).pending = s.pending ∧ (s.toReleasing src).ticks = s.ticks ∧ (s.toReleasing src).pins = s.pins ∧
    (s.toReleasing src).counters = s.counters ∧ (s.toReleasing src).pae = s.pae ∧ (s.toReleasing src).blk = s.blk ∧
    (s.toReleasing src).psc = s.psc ∧ (s.toReleasing src).slk = s.slk := by
  unfold State.toReleasing
  simp

@[simp] theorem State.endPulse_frame (s : State) :
    s.endPulse.pending = s.pending ∧ s.endPulse.ticks = s.ticks ∧ s.endPulse.pins = s.pins ∧
    s.endPulse.counters = s.counters ∧ s.endPulse.pae = s.pae ∧ s.endPulse.blk = s.blk ∧ s.endPulse.psc = s.psc ∧
    s.endPulse.slk = s.slk := by
  unfold State.endPulse
  simp

@[simp] theorem State.toCharge_frame (s : State) (stage : Nat) :
    (s.toCharge stage).pending = s.pending ∧ (s.toCharge stage).ticks = s.ticks ∧ (s.toCharge stage).pins = s.pins ∧
    (s.toCharge stage).counters = s.counters ∧ (s.toCharge stage).pae = s.pae ∧ (s.toCharge stage).blk = s.blk ∧
    (s.toCharge stage).psc = s.psc ∧ (s.toCharge stage).dlu = s.dlu ∧ (s.toCharge stage).slk = s.slk := by
  unfold State.toCharge
  simp

@[simp] theorem State.toStage_frame (s : State) (stage : Nat) :
    (s.toStage stage).pending = s.pending ∧ (s.toStage stage).ticks = s.ticks ∧ (s.toStage stage).pins = s.pins ∧
    (s.toStage stage).counters = s.counters ∧ (s.toStage stage).pae = s.pae ∧ (s.toStage stage).blk = s.blk ∧
    (s.toStage stage).psc = s.psc ∧ (s.toStage stage).dlu = s.dlu ∧ (s.toStage stage).slk = s.slk := by
  unfold State.toStage
  simp

@[simp] theorem State.disable_frame (s : State) :
    s.disable.pending = s.pending ∧ s.disable.ticks = s.ticks ∧ s.disable.pins = s.pins ∧ s.disable.counters = s.counters ∧
    s.disable.pae = s.pae ∧ s.disable.blk = s.blk ∧ s.disable.psc = s.psc ∧ s.disable.dlu = s.dlu ∧
    s.disable.slk = s.slk := by
  unfold State.disable
  dsimp only
  (repeat' split) <;> simp

@[simp] theorem State.deliverReport_frame (s : State) (x : Report) :
    (s.deliverReport x).pending = s.pending ∧ (s.deliverReport x).ticks = s.ticks ∧ (s.deliverReport x).pins = s.pins ∧
    (s.deliverReport x).counters = s.counters ∧ (s.deliverReport x).blk = s.blk ∧ (s.deliverReport x).psc = s.psc ∧
    (s.deliverReport x).slk = s.slk := by
  unfold State.deliverReport
  (repeat' split) <;> simp

@[simp] theorem State.failChar_frame (s : State) (t : Txn) (c : Byte) :
    (s.failChar t c).pending = s.pending ∧
    (s.failChar t c).ticks = s.ticks ∧ (s.failChar t c).pins = s.pins ∧ (s.failChar t c).tables = s.tables ∧
    (s.failChar t c).cnv = s.cnv ∧ (s.failChar t c).pae = s.pae ∧ (s.failChar t c).pch = s.pch ∧
    (s.failChar t c).bcd = s.bcd ∧ (s.failChar t c).slk = s.slk := by
  unfold State.failChar
  (repeat' split) <;> simp

@[simp] theorem State.systemAwake_frame (s : State) :
    s.systemAwake.pending = s.pending ∧ s.systemAwake.ticks = s.ticks ∧ s.systemAwake.pins = s.pins ∧
    s.systemAwake.counters = s.counters ∧ s.systemAwake.pae = s.pae ∧ s.systemAwake.blk = s.blk ∧
    s.systemAwake.dlu = s.dlu ∧ s.systemAwake.slk = s.slk := by
  unfold State.systemAwake
  (repeat' split) <;> simp

@[simp] theorem State.takeBit_frame (s : State) (one : Bool) :
    (s.takeBit one).pending = s.pending ∧ (s.takeBit one).ticks = s.ticks ∧ (s.takeBit one).pins = s.pins ∧
    (s.takeBit one).counters = s.counters ∧ (s.takeBit one).pae = s.pae ∧ (s.takeBit one).blk = s.blk ∧
    (s.takeBit one).psc = s.psc ∧ (s.takeBit one).dlu = s.dlu ∧ (s.takeBit one).slk = s.slk := by
  unfold State.takeBit
  (repeat' split) <;> simp

@[simp] theorem State.policySwapped_frame (s : State) :
    s.policySwapped.pending = s.pending ∧ s.policySwapped.ticks = s.ticks ∧ s.policySwapped.pins = s.pins ∧
    s.policySwapped.counters = s.counters ∧ s.policySwapped.pae = s.pae ∧ s.policySwapped.blk = s.blk ∧
    s.policySwapped.psc = s.psc ∧ s.policySwapped.dlu = s.dlu ∧ s.policySwapped.slk = s.slk := by
  unfold State.policySwapped
  simp

@[simp] theorem State.dluPosture_frame (s : State) :
    s.dluPosture.pending = s.pending ∧ s.dluPosture.ticks = s.ticks ∧ s.dluPosture.pins = s.pins ∧
    s.dluPosture.counters = s.counters ∧ s.dluPosture.pae = s.pae ∧ s.dluPosture.blk = s.blk ∧ s.dluPosture.psc = s.psc ∧
    s.dluPosture.slk = s.slk := by
  unfold State.dluPosture
  (repeat' split) <;> simp

@[simp] theorem State.makeWaiting_frame (s : State) :
    s.makeWaiting.pending = s.pending ∧ s.makeWaiting.ticks = s.ticks ∧ s.makeWaiting.pins = s.pins ∧
    s.makeWaiting.counters = s.counters ∧ s.makeWaiting.pae = s.pae ∧ s.makeWaiting.blk = s.blk ∧
    s.makeWaiting.psc = s.psc ∧ s.makeWaiting.dlu = s.dlu ∧ s.makeWaiting.slk = s.slk := by
  unfold State.makeWaiting
  (repeat' split) <;> simp

@[simp] theorem State.penInserted_frame (s : State) :
    s.penInserted.pending = s.pending ∧ s.penInserted.ticks = s.ticks ∧ s.penInserted.pins = s.pins ∧
    s.penInserted.counters = s.counters ∧ s.penInserted.pae = s.pae ∧ s.penInserted.blk = s.blk ∧
    s.penInserted.psc = s.psc ∧ s.penInserted.dlu = s.dlu ∧ s.penInserted.slk = s.slk := by
  unfold State.penInserted
  dsimp only
  (repeat' split) <;> simp

@[simp] theorem State.penRemoved_frame (s : State) :
    s.penRemoved.pending = s.pending ∧ s.penRemoved.ticks = s.ticks ∧ s.penRemoved.pins = s.pins ∧
    s.penRemoved.counters = s.counters ∧ s.penRemoved.pae = s.pae ∧ s.penRemoved.blk = s.blk ∧ s.penRemoved.psc = s.psc ∧
    s.penRemoved.dlu = s.dlu ∧ s.penRemoved.slk = s.slk := by
  unfold State.penRemoved
  simp

@[simp] theorem State.chargeControl_frame (s : State) (enable : Bool) (cap : Nat) :
    (s.chargeControl enable cap).pending = s.pending ∧ (s.chargeControl enable cap).ticks = s.ticks ∧
    (s.chargeControl enable cap).pins = s.pins ∧ (s.chargeControl enable cap).counters = s.counters ∧
    (s.chargeControl enable cap).pae = s.pae ∧ (s.chargeControl enable cap).blk = s.blk ∧
    (s.chargeControl enable cap).psc = s.psc ∧ (s.chargeControl enable cap).dlu = s.dlu ∧
    (s.chargeControl enable cap).slk = s.slk := by
  unfold State.chargeControl
  dsimp only
  (repeat' split) <;> simp

@[simp] theorem State.hallToSpm_frame (s : State) (active : Bool) :
    (s.hallToSpm active).pending = s.pending ∧ (s.hallToSpm active).ticks = s.ticks ∧ (s.hallToSpm active).pins = s.pins ∧
    (s.hallToSpm active).counters = s.counters ∧ (s.hallToSpm active).pae = s.pae ∧ (s.hallToSpm active).blk = s.blk ∧
    (s.hallToSpm active).psc = s.psc ∧ (s.hallToSpm active).dlu = s.dlu ∧ (s.hallToSpm active).slk = s.slk := by
  unfold State.hallToSpm
  (repeat' split) <;> simp

@[simp] theorem State.attach_frame (s : State) (identified : Bool) :
    (s.attach identified).pending = s.pending ∧ (s.attach identified).ticks = s.ticks ∧
    (s.attach identified).pins = s.pins ∧ (s.attach identified).counters = s.counters ∧ (s.attach identified).pae = s.pae ∧
    (s.attach identified).blk = s.blk ∧ (s.attach identified).psc = s.psc ∧ (s.attach identified).slk = s.slk := by
  unfold State.attach
  (repeat' split) <;> simp

@[simp] theorem State.detached_frame (s : State) :
    s.detached.pending = s.pending ∧ s.detached.ticks = s.ticks ∧ s.detached.pins = s.pins ∧
    s.detached.counters = s.counters ∧ s.detached.pae = s.pae ∧ s.detached.blk = s.blk ∧ s.detached.psc = s.psc ∧
    s.detached.slk = s.slk := by
  unfold State.detached
  simp

@[simp] theorem State.handOn_frame (s : State) (a : RouteAction) (r : Report) :
    (s.handOn a r).pending = s.pending ∧ (s.handOn a r).ticks = s.ticks ∧ (s.handOn a r).pins = s.pins ∧
    (s.handOn a r).counters = s.counters ∧ (s.handOn a r).pae = s.pae ∧ (s.handOn a r).blk = s.blk ∧
    (s.handOn a r).dlu = s.dlu ∧ (s.handOn a r).slk = s.slk := by
  unfold State.handOn
  (repeat' split) <;> simp

@[simp] theorem State.attention_frame (s : State) :
    s.attention.pending = s.pending ∧ s.attention.ticks = s.ticks ∧ s.attention.pins = s.pins ∧
    s.attention.counters = s.counters ∧ s.attention.pae = s.pae ∧ s.attention.dlu = s.dlu ∧ s.attention.slk = s.slk := by
  unfold State.attention
  (repeat' split) <;> simp

@[simp] theorem State.takeSymbol_frame (s : State) (y : Symbol) :
    (s.takeSymbol y).pending = s.pending ∧ (s.takeSymbol y).ticks = s.ticks ∧ (s.takeSymbol y).pins = s.pins ∧
    (s.takeSymbol y).counters = s.counters ∧ (s.takeSymbol y).pae = s.pae ∧ (s.takeSymbol y).blk = s.blk ∧
    (s.takeSymbol y).psc = s.psc ∧ (s.takeSymbol y).dlu = s.dlu ∧ (s.takeSymbol y).slk = s.slk := by
  unfold State.takeSymbol
  (repeat' split) <;> simp

@[simp] theorem State.detachGrant_frame (s : State) (f : DownFrame) :
    (s.detachGrant f).pending = s.pending ∧ (s.detachGrant f).ticks = s.ticks ∧ (s.detachGrant f).pins = s.pins ∧
    (s.detachGrant f).counters = s.counters ∧ (s.detachGrant f).pae = s.pae ∧ (s.detachGrant f).blk = s.blk ∧
    (s.detachGrant f).psc = s.psc ∧ (s.detachGrant f).slk = s.slk := by
  unfold State.detachGrant
  (repeat' split) <;> simp

@[simp] theorem State.detachRelease_frame (s : State) (f : DownFrame) :
    (s.detachRelease f).pending = s.pending ∧ (s.detachRelease f).ticks = s.ticks ∧ (s.detachRelease f).pins = s.pins ∧
    (s.detachRelease f).counters = s.counters ∧ (s.detachRelease f).pae = s.pae ∧ (s.detachRelease f).blk = s.blk ∧
    (s.detachRelease f).psc = s.psc ∧ (s.detachRelease f).slk = s.slk := by
  unfold State.detachRelease
  (repeat' split) <;> simp

@[simp] theorem State.systemRequest_frame (s : State) (f : DownFrame) :
    (s.systemRequest f).pending = s.pending ∧ (s.systemRequest f).ticks = s.ticks ∧ (s.systemRequest f).pins = s.pins ∧
    (s.systemRequest f).counters = s.counters ∧ (s.systemRequest f).pae = s.pae ∧ (s.systemRequest f).blk = s.blk ∧
    (s.systemRequest f).dlu = s.dlu ∧ (s.systemRequest f).slk = s.slk := by
  unfold State.systemRequest
  (repeat' split) <;> simp

@[simp] theorem State.changePosture_frame (s : State) (p : Posture) (row : Option Nat) (permission : Bool) (cause : PostureCause) :
    (s.changePosture p row permission cause).pending = s.pending ∧
    (s.changePosture p row permission cause).ticks = s.ticks ∧ (s.changePosture p row permission cause).pins = s.pins ∧
    (s.changePosture p row permission cause).counters = s.counters ∧ (s.changePosture p row permission cause).blk = s.blk ∧
    (s.changePosture p row permission cause).psc = s.psc ∧ (s.changePosture p row permission cause).slk = s.slk := by
  unfold State.changePosture
  simp

@[simp] theorem State.swapCharge_frame (s : State) :
    s.swapCharge.pending = s.pending ∧ s.swapCharge.ticks = s.ticks ∧ s.swapCharge.pins = s.pins ∧
    s.swapCharge.counters = s.counters ∧ s.swapCharge.pae = s.pae ∧ s.swapCharge.blk = s.blk ∧ s.swapCharge.psc = s.psc ∧
    s.swapCharge.dlu = s.dlu ∧ s.swapCharge.slk = s.slk := by
  unfold State.swapCharge
  simp

@[simp] theorem State.grantBlanking_frame (s : State) :
    s.grantBlanking.pending = s.pending ∧ s.grantBlanking.ticks = s.ticks ∧ s.grantBlanking.pins = s.pins ∧
    s.grantBlanking.counters = s.counters ∧ s.grantBlanking.pae = s.pae ∧ s.grantBlanking.blk = s.blk ∧
    s.grantBlanking.psc = s.psc ∧ s.grantBlanking.dlu = s.dlu ∧ s.grantBlanking.slk = s.slk := by
  unfold State.grantBlanking
  dsimp only
  split <;> simp

@[simp] theorem State.inform_frame (s : State) (ch : Nat) :
    (s.inform ch).pending = s.pending ∧ (s.inform ch).ticks = s.ticks ∧ (s.inform ch).pins = s.pins ∧
    (s.inform ch).counters = s.counters ∧ (s.inform ch).blk = s.blk ∧ (s.inform ch).psc = s.psc ∧
    (s.inform ch).dlu = s.dlu ∧ (s.inform ch).slk = s.slk := by
  unfold State.inform
  (repeat' split) <;> simp

@[simp] theorem State.informAll_frame (s : State) (chs : List Nat) :
    (s.informAll chs).pending = s.pending ∧ (s.informAll chs).ticks = s.ticks ∧ (s.informAll chs).pins = s.pins ∧
    (s.informAll chs).counters = s.counters ∧ (s.informAll chs).blk = s.blk ∧ (s.informAll chs).psc = s.psc ∧
    (s.informAll chs).dlu = s.dlu ∧ (s.informAll chs).slk = s.slk := by
  unfold State.informAll
  induction chs generalizing s with
  | nil => simp
  | cons c r ih => simp [ih]

@[simp] theorem State.route_frame (s : State) (fn : BaseFn) (data : List Byte) :
    (s.route fn data).pending = s.pending ∧ (s.route fn data).ticks = s.ticks ∧ (s.route fn data).pins = s.pins ∧
    (s.route fn data).blk = s.blk ∧ (s.route fn data).slk = s.slk := by
  unfold State.route
  (repeat' split) <;> simp

@[simp] theorem State.enterRunning_frame (s : State) (identified : Bool) :
    (s.enterRunning identified).pending = s.pending ∧ (s.enterRunning identified).ticks = s.ticks ∧
    (s.enterRunning identified).pins = s.pins ∧ (s.enterRunning identified).counters = s.counters ∧
    (s.enterRunning identified).pae = s.pae ∧ (s.enterRunning identified).slk = s.slk := by
  unfold State.enterRunning
  (repeat' split) <;> simp

@[simp] theorem State.edge_frame (s : State) (stamp : Stamp) :
    (s.edge stamp).pending = s.pending ∧ (s.edge stamp).ticks = s.ticks ∧ (s.edge stamp).pins = s.pins ∧
    (s.edge stamp).counters = s.counters ∧ (s.edge stamp).pae = s.pae ∧ (s.edge stamp).blk = s.blk ∧
    (s.edge stamp).psc = s.psc ∧ (s.edge stamp).dlu = s.dlu ∧ (s.edge stamp).slk = s.slk := by
  unfold State.edge
  (repeat' split) <;> simp

@[simp] theorem State.chargeRequest_frame (s : State) (f : DownFrame) :
    (s.chargeRequest f).pending = s.pending ∧ (s.chargeRequest f).ticks = s.ticks ∧ (s.chargeRequest f).pins = s.pins ∧
    (s.chargeRequest f).counters = s.counters ∧ (s.chargeRequest f).pae = s.pae ∧ (s.chargeRequest f).blk = s.blk ∧
    (s.chargeRequest f).psc = s.psc ∧ (s.chargeRequest f).dlu = s.dlu ∧ (s.chargeRequest f).slk = s.slk := by
  unfold State.chargeRequest
  (repeat' split) <;> simp

@[simp] theorem State.boundary_frame (s : State) :
    s.boundary.pending = s.pending ∧ s.boundary.ticks = s.ticks ∧ s.boundary.pins = s.pins ∧
    s.boundary.counters = s.counters ∧ s.boundary.pae = s.pae ∧ s.boundary.blk = s.blk ∧ s.boundary.psc = s.psc ∧
    s.boundary.dlu = s.dlu ∧ s.boundary.slk = s.slk := by
  unfold State.boundary
  (repeat' split) <;> simp

@[simp] theorem State.adopt_frame (s : State) (p : Posture) (row : Option Nat) (cause : PostureCause) :
    (s.adopt p row cause).pending = s.pending ∧ (s.adopt p row cause).ticks = s.ticks ∧
    (s.adopt p row cause).pins = s.pins ∧ (s.adopt p row cause).counters = s.counters ∧ (s.adopt p row cause).blk = s.blk ∧
    (s.adopt p row cause).psc = s.psc ∧ (s.adopt p row cause).slk = s.slk := by
  unfold State.adopt
  (repeat' split) <;> simp

@[simp] theorem State.paeAbsent_frame (s : State) :
    s.paeAbsent.pending = s.pending ∧ s.paeAbsent.ticks = s.ticks ∧ s.paeAbsent.pins = s.pins ∧
    s.paeAbsent.counters = s.counters ∧ s.paeAbsent.blk = s.blk ∧ s.paeAbsent.psc = s.psc ∧ s.paeAbsent.slk = s.slk := by
  unfold State.paeAbsent
  (repeat' split) <;> simp

@[simp] theorem State.samplePresence_frame (s : State) (pres : Bool) :
    (s.samplePresence pres).pending = s.pending ∧ (s.samplePresence pres).ticks = s.ticks ∧
    (s.samplePresence pres).pins = s.pins ∧ (s.samplePresence pres).counters = s.counters ∧
    (s.samplePresence pres).psc = s.psc ∧ (s.samplePresence pres).slk = s.slk := by
  unfold State.samplePresence
  (repeat' split) <;> simp

@[simp] theorem State.identified_frame (s : State) (data : List Byte) :
    (s.identified data).pending = s.pending ∧ (s.identified data).ticks = s.ticks ∧ (s.identified data).pins = s.pins ∧
    (s.identified data).counters = s.counters ∧ (s.identified data).pae = s.pae ∧ (s.identified data).slk = s.slk := by
  unfold State.identified
  simp

@[simp] theorem State.leftDeep_frame (s : State) :
    s.leftDeep.pending = s.pending ∧ s.leftDeep.ticks = s.ticks ∧ s.leftDeep.pins = s.pins ∧
    s.leftDeep.counters = s.counters ∧ s.leftDeep.slk = s.slk := by
  unfold State.leftDeep
  (repeat' split) <;> simp

@[simp] theorem State.committed_frame (s : State) (t : TableId) :
    (s.committed t).pending = s.pending ∧ (s.committed t).ticks = s.ticks ∧ (s.committed t).pins = s.pins ∧
    (s.committed t).counters = s.counters ∧ (s.committed t).pae = s.pae ∧ (s.committed t).blk = s.blk ∧
    (s.committed t).psc = s.psc ∧ (s.committed t).dlu = s.dlu ∧ (s.committed t).slk = s.slk := by
  unfold State.committed
  (repeat' split) <;> simp

@[simp] theorem State.periodBoundary_frame (s : State) :
    s.periodBoundary.pending = s.pending ∧ s.periodBoundary.ticks = s.ticks ∧ s.periodBoundary.pins = s.pins ∧
    s.periodBoundary.counters = s.counters ∧ s.periodBoundary.pae = s.pae ∧ s.periodBoundary.blk = s.blk ∧
    s.periodBoundary.psc = s.psc ∧ s.periodBoundary.dlu = s.dlu ∧ s.periodBoundary.slk = s.slk := by
  unfold State.periodBoundary
  dsimp only
  (repeat' split) <;> simp

@[simp] theorem State.updateWindows_frame (s : State) (readings : List (Nat × Nat)) :
    (s.updateWindows readings).pending = s.pending ∧ (s.updateWindows readings).ticks = s.ticks ∧
    (s.updateWindows readings).pins = s.pins ∧ (s.updateWindows readings).counters = s.counters ∧
    (s.updateWindows readings).blk = s.blk ∧ (s.updateWindows readings).psc = s.psc ∧
    (s.updateWindows readings).dlu = s.dlu ∧ (s.updateWindows readings).slk = s.slk := by
  have keep : ∀ {γ : Type} (read : State → γ), (∀ t ch v, read (State.updateWindow t ch v) = read t) →
      read (readings.foldl (fun u p => u.updateWindow p.1 p.2) s) = read s :=
    fun read h => foldl_keeps _ read (fun b a => h b a.1 a.2) readings s
  unfold State.updateWindows
  dsimp only
  refine ⟨?_, ?_, ?_, ?_, ?_, ?_, ?_, ?_⟩ <;> (simp; apply keep; simp)

@[simp] theorem State.swapChannel_frame (s : State) :
    s.swapChannel.pending = s.pending ∧ s.swapChannel.ticks = s.ticks ∧ s.swapChannel.pins = s.pins ∧
    s.swapChannel.blk = s.blk ∧ s.swapChannel.psc = s.psc ∧ s.swapChannel.dlu = s.dlu ∧ s.swapChannel.slk = s.slk := by
  unfold State.swapChannel
  dsimp only
  (repeat' split) <;> simp

@[simp] theorem State.propose_frame (s : State) (p : Posture) (row : Option Nat) (cause : PostureCause) :
    (s.propose p row cause).pending = s.pending ∧ (s.propose p row cause).ticks = s.ticks ∧
    (s.propose p row cause).pins = s.pins ∧ (s.propose p row cause).counters = s.counters ∧
    (s.propose p row cause).blk = s.blk ∧ (s.propose p row cause).psc = s.psc ∧ (s.propose p row cause).slk = s.slk := by
  unfold State.propose
  dsimp only
  (repeat' split) <;> simp

@[simp] theorem State.enterAbsent_frame (s : State) (counted : Bool) :
    (s.enterAbsent counted).pending = s.pending ∧ (s.enterAbsent counted).ticks = s.ticks ∧
    (s.enterAbsent counted).pins = s.pins ∧ (s.enterAbsent counted).slk = s.slk := by
  unfold State.enterAbsent
  (repeat' split) <;> simp

@[simp] theorem State.succeed_frame (s : State) (t : Txn) (data : List Byte) :
    (s.succeed t data).pending = s.pending ∧ (s.succeed t data).ticks = s.ticks ∧ (s.succeed t data).pins = s.pins ∧
    (s.succeed t data).slk = s.slk := by
  unfold State.succeed
  (repeat' split) <;> simp

@[simp] theorem State.settleDestination_frame (s : State) (awake : Bool) :
    (s.settleDestination awake).pending = s.pending ∧ (s.settleDestination awake).ticks = s.ticks ∧
    (s.settleDestination awake).pins = s.pins ∧ (s.settleDestination awake).counters = s.counters ∧
    (s.settleDestination awake).tables = s.tables ∧ (s.settleDestination awake).cnv = s.cnv ∧
    (s.settleDestination awake).pae = s.pae ∧ (s.settleDestination awake).blk = s.blk ∧
    (s.settleDestination awake).pch = s.pch ∧ (s.settleDestination awake).bcd = s.bcd ∧
    (s.settleDestination awake).dlu = s.dlu ∧ (s.settleDestination awake).slk = s.slk := by
  unfold State.settleDestination
  (repeat' split) <;> simp

@[simp] theorem State.clockStarted_frame (s : State) (awake : Bool) :
    (s.clockStarted awake).pending = s.pending ∧ (s.clockStarted awake).ticks = s.ticks ∧
    (s.clockStarted awake).pins = s.pins ∧ (s.clockStarted awake).counters = s.counters ∧
    (s.clockStarted awake).slk = s.slk := by
  unfold State.clockStarted
  simp

@[simp] theorem State.tableCommit_frame (s : State) (f : DownFrame) :
    (s.tableCommit f).pending = s.pending ∧ (s.tableCommit f).ticks = s.ticks ∧ (s.tableCommit f).pins = s.pins ∧
    (s.tableCommit f).counters = s.counters ∧ (s.tableCommit f).pae = s.pae ∧ (s.tableCommit f).blk = s.blk ∧
    (s.tableCommit f).psc = s.psc ∧ (s.tableCommit f).dlu = s.dlu ∧ (s.tableCommit f).slk = s.slk := by
  unfold State.tableCommit
  (repeat' split) <;> simp

@[simp] theorem State.completeScan_frame (s : State) (readings : List (Nat × Nat)) :
    (s.completeScan readings).pending = s.pending ∧ (s.completeScan readings).ticks = s.ticks ∧
    (s.completeScan readings).pins = s.pins ∧ (s.completeScan readings).blk = s.blk ∧
    (s.completeScan readings).psc = s.psc ∧ (s.completeScan readings).dlu = s.dlu ∧
    (s.completeScan readings).slk = s.slk := by
  unfold State.completeScan
  dsimp only
  (repeat' split) <;> simp

@[simp] theorem State.classify_frame (s : State) :
    s.classify.pending = s.pending ∧ s.classify.ticks = s.ticks ∧ s.classify.pins = s.pins ∧
    s.classify.counters = s.counters ∧ s.classify.blk = s.blk ∧ s.classify.psc = s.psc ∧ s.classify.slk = s.slk := by
  unfold State.classify
  (repeat' split) <;> simp

@[simp] theorem State.takeChar_frame (s : State) (t : Txn) (c : Byte) :
    (s.takeChar t c).pending = s.pending ∧ (s.takeChar t c).ticks = s.ticks ∧ (s.takeChar t c).pins = s.pins ∧
    (s.takeChar t c).slk = s.slk := by
  unfold State.takeChar
  (repeat' split) <;> simp

@[simp] theorem State.resetLinks_frame (s : State) (f : DownFrame) :
    (s.resetLinks f).pending = s.pending ∧ (s.resetLinks f).ticks = s.ticks ∧ (s.resetLinks f).pins = s.pins ∧
    (s.resetLinks f).slk = s.slk := by
  unfold State.resetLinks
  simp

@[simp] theorem State.convert_frame (s : State) (ch : Nat) (rest : List Nat) (code : Nat) :
    (s.convert ch rest code).pending = s.pending ∧ (s.convert ch rest code).ticks = s.ticks ∧
    (s.convert ch rest code).pins = s.pins ∧ (s.convert ch rest code).blk = s.blk ∧ (s.convert ch rest code).dlu = s.dlu ∧
    (s.convert ch rest code).slk = s.slk := by
  unfold State.convert
  (repeat' split) <;> simp

@[simp] theorem State.evaluate_frame (s : State) (sample : Option Axes) :
    (s.evaluate sample).pending = s.pending ∧ (s.evaluate sample).ticks = s.ticks ∧ (s.evaluate sample).pins = s.pins ∧
    (s.evaluate sample).counters = s.counters ∧ (s.evaluate sample).blk = s.blk ∧ (s.evaluate sample).psc = s.psc ∧
    (s.evaluate sample).slk = s.slk := by
  unfold State.evaluate
  (repeat' split) <;> simp

@[simp] theorem State.hubReset_frame (s : State) (f : DownFrame) :
    (s.hubReset f).pending = s.pending ∧ (s.hubReset f).ticks = s.ticks ∧ (s.hubReset f).pins = s.pins := by
  unfold State.hubReset
  (repeat' split) <;> simp

@[simp] theorem State.lidCompleted_frame (s : State) (axes : Axes) :
    (s.lidCompleted axes).pending = s.pending ∧ (s.lidCompleted axes).ticks = s.ticks ∧
    (s.lidCompleted axes).pins = s.pins ∧ (s.lidCompleted axes).counters = s.counters ∧ (s.lidCompleted axes).blk = s.blk ∧
    (s.lidCompleted axes).psc = s.psc ∧ (s.lidCompleted axes).slk = s.slk := by
  unfold State.lidCompleted
  simp

@[simp] theorem State.lidFailed_frame (s : State) :
    s.lidFailed.pending = s.pending ∧ s.lidFailed.ticks = s.ticks ∧ s.lidFailed.pins = s.pins ∧ s.lidFailed.blk = s.blk ∧
    s.lidFailed.psc = s.psc ∧ s.lidFailed.slk = s.slk := by
  unfold State.lidFailed
  (repeat' split) <;> simp

@[simp] theorem State.lidEnds_frame (s : State) (x : LidEnding) :
    (s.lidEnds x).pending = s.pending ∧ (s.lidEnds x).ticks = s.ticks ∧ (s.lidEnds x).pins = s.pins ∧
    (s.lidEnds x).blk = s.blk ∧ (s.lidEnds x).psc = s.psc ∧ (s.lidEnds x).slk = s.slk := by
  unfold State.lidEnds
  (repeat' split) <;> simp

@[simp] theorem State.takeLidLimit_frame (s : State) :
    s.takeLidLimit.pending = s.pending ∧ s.takeLidLimit.ticks = s.ticks ∧ s.takeLidLimit.pins = s.pins ∧
    s.takeLidLimit.blk = s.blk ∧ s.takeLidLimit.psc = s.psc ∧ s.takeLidLimit.slk = s.slk := by
  unfold State.takeLidLimit
  (repeat' split) <;> simp

@[simp] theorem State.takeLidEnding_frame (s : State) (ending : LidEnding) :
    (s.takeLidEnding ending).pending = s.pending ∧ (s.takeLidEnding ending).ticks = s.ticks ∧
    (s.takeLidEnding ending).pins = s.pins ∧ (s.takeLidEnding ending).blk = s.blk ∧ (s.takeLidEnding ending).psc = s.psc ∧
    (s.takeLidEnding ending).slk = s.slk := by
  unfold State.takeLidEnding
  (repeat' split) <;> simp

end Sys2Proof.Machine
end

