-- ==== Sys2Proof/Laws/Operations.lean ====
section
/-!
SUPPORT. For each shared operation, one lemma that says everything it can do: the cases it distinguishes, each with its guard and the
state it gives. A proof about a command cites these and does not unfold the operation.
-/

namespace Sys2Proof.Machine

/-! ### The step -/

theorem step_of_pending {s : State} {c : Instr} {rest : List Instr} (h : s.pending = c :: rest) :
    step s = exec c { s with pending := rest } := by
  unfold step
  rw [h]

theorem step_of_idle {s : State} (h : s.pending = []) : step s = .next s.driveTick := by
  unfold step
  rw [h]

/-! ### The upward queue -/

@[simp] theorem Upq.events_nil (u : Upq) : u.events [] = u := rfl

@[simp] theorem Upq.events_cons (u : Upq) (c : EventCode) (cs : List EventCode) :
    u.events (c :: cs) = (u.issue (.event c u.nextEventCount)).events cs := rfl

theorem Upq.events_append (u : Upq) (cs ds : List EventCode) : u.events (cs ++ ds) = (u.events cs).events ds := by
  simp [Upq.events, List.foldl_append]

theorem State.event_eq (s : State) (c : EventCode) : s.event c = { s with upq := s.upq.events [c] } := rfl

theorem Upq.issue_cases (u : Upq) (n : Notice) :
    (u.entries.any (Entry.waits n.kind) = true ∧
      u.issue n = { u with
        entries := u.entries.map fun e => if e.waits n.kind then { e with content := .notice n } else e }) ∨
    (u.entries.any (Entry.waits n.kind) = false ∧ u.entries.any (Entry.isNotice n.kind) = true ∧
      u.issue n = { u with followOn := u.followOn.filter (fun m => m.kind != n.kind) ++ [n] }) ∨
    (u.entries.any (Entry.waits n.kind) = false ∧ u.entries.any (Entry.isNotice n.kind) = false ∧
      u.issue n = u.append (.notice n)) := by
  unfold Upq.issue
  split
  · exact .inl ⟨by assumption, rfl⟩
  · split
    · exact .inr (.inl ⟨by simp_all, by assumption, rfl⟩)
    · exact .inr (.inr ⟨by simp_all, by simp_all, rfl⟩)

/-- An entry that is no notice stays when a notice is issued. -/
theorem Upq.mem_issue {u : Upq} {e : Entry} (n : Notice) (h : e ∈ u.entries) (no : ∀ m, e.content ≠ .notice m) :
    e ∈ (u.issue n).entries := by
  have waits : ∀ k, e.waits k = false := by
    intro k
    unfold Entry.waits Entry.isNotice
    cases c : e.content with
    | notice m => exact absurd c (no m)
    | report r => rfl
    | reply r => rfl
  rcases u.issue_cases n with ⟨_, eq⟩ | ⟨_, _, eq⟩ | ⟨_, _, eq⟩
  · rw [eq]
    exact List.mem_map.mpr ⟨e, h, by simp [waits]⟩
  · rw [eq]
    exact h
  · rw [eq]
    simp [h]

theorem State.notice_upq (s : State) (n : Notice) : (s.notice n).upq = s.upq.issue n := rfl

theorem State.reply_upq (s : State) (kind : Byte) (code : ReplyCode) (data : List Byte) :
    (s.reply kind code data).upq = s.upq.append (.reply ⟨kind, code, data, false⟩) := rfl

theorem State.bumpBy_cases (s : State) (k : Counter) (n : Nat) :
    (s.counters.get k < 255 ∧ min (s.counters.get k + n) 255 = 255 ∧
      s.bumpBy k n = ({ s with counters := s.counters.set k 255 } : State).event .counterSaturated) ∨
    (¬(s.counters.get k < 255 ∧ min (s.counters.get k + n) 255 = 255) ∧
      s.bumpBy k n = { s with counters := s.counters.set k (min (s.counters.get k + n) 255) }) := by
  by_cases h : s.counters.get k < 255 ∧ min (s.counters.get k + n) 255 = 255
  · refine .inl ⟨h.1, h.2, (if_pos h).trans ?_⟩
    rw [← h.2]
    rfl
  · exact .inr ⟨h, if_neg h⟩

/-! ### The coil driver, the capture unit and the charger -/

theorem Pch.settle_cases (p : Pch) :
    (p.state.drives = true ∧ p.blanking ≠ .inForce ∧ p.driver.running = true ∧ p.settle = p) ∨
    (p.state.drives = true ∧ p.blanking ≠ .inForce ∧ p.driver.running = false ∧
      p.settle = { p with driver := p.driver.start }) ∨
    ((p.state.drives = false ∨ p.blanking = .inForce) ∧ p.driver.running = true ∧
      p.settle = { p with driver := p.driver.stop }) ∨
    ((p.state.drives = false ∨ p.blanking = .inForce) ∧ p.driver.running = false ∧ p.settle = p) := by
  unfold Pch.settle
  cases h : p.state.drives <;> cases r : p.driver.running <;> by_cases b : p.blanking = .inForce <;> simp [b]

/-- R128: the driver runs while the charger is in IDENT or CHARGE and no blanking is in force. -/
theorem Pch.settle_running (p : Pch) :
    p.settle.driver.running = (p.state.drives && !decide (p.blanking = .inForce)) := by
  rcases p.settle_cases with ⟨a, b, c, e⟩ | ⟨a, b, c, e⟩ | ⟨a, c, e⟩ | ⟨a, c, e⟩ <;> rw [e]
  · simp [a, b, c]
  · simp [a, b]
  · rcases a with a | a <;> simp [a]
  · rcases a with a | a <;> simp [a, c]

/-- `settle` touches the driver alone. -/
theorem Pch.settle_eq (p : Pch) : p.settle = { p with driver := p.settle.driver } := by
  rcases p.settle_cases with ⟨_, _, _, e⟩ | ⟨_, _, _, e⟩ | ⟨_, _, e⟩ | ⟨_, _, e⟩ <;> rw [e]

theorem State.dataLeft_cases (s : State) :
    (s.cnv.slotS = .deferring ∧ s.dataLeft = { s with
      cnv.slotS := .blankWait
      pch.blanking := if s.pch.blanking = .idle then .requested else s.pch.blanking }) ∨
    (s.cnv.slotS ≠ .deferring ∧ s.dataLeft = s) := by
  unfold State.dataLeft
  split
  · exact .inl ⟨by assumption, rfl⟩
  · exact .inr ⟨by assumption, rfl⟩

theorem State.capture_cases (s : State) (m : CaptureMode) :
    (s.bcd.decoder = .data ∧ s.capture m = ({ s with bcd := s.bcd.cleared m } : State).dataLeft) ∨
    (s.bcd.decoder ≠ .data ∧ s.capture m = { s with bcd := s.bcd.cleared m }) := by
  unfold State.capture
  dsimp only
  split
  · exact .inl ⟨by assumption, rfl⟩
  · exact .inr ⟨by assumption, rfl⟩

theorem State.enterCharger_cases (s : State) (c : ChargerState) :
    let t := { s with pch := ({ s.pch with state := c } : Pch).settle }
    (s.pch.state.drives = true ∧ c.drives = false ∧
      s.enterCharger c = ({ t with pch.waiting := none } : State).capture .off) ∨
    ((s.pch.state.drives = false ∨ c.drives = true) ∧ s.enterCharger c = t) := by
  unfold State.enterCharger
  cases h : s.pch.state.drives <;> cases k : c.drives <;> simp

/-- R135: a change of charger state is the bare one, but for the CHARGE swap that a stop of the driver brings. -/
theorem State.toCharger_cases (s : State) (c : ChargerState) :
    let t := s.enterCharger c
    (s.pch.driver.running = true ∧ t.pch.driver.running = false ∧ s.tables.charge.awaiting = true ∧
      s.toCharger c = t.swapStopped) ∨
    (¬(s.pch.driver.running = true ∧ t.pch.driver.running = false ∧ s.tables.charge.awaiting = true) ∧
      s.toCharger c = t) := by
  unfold State.toCharger
  cases h : s.pch.driver.running <;> cases k : (s.enterCharger c).pch.driver.running <;>
    cases a : s.tables.charge.awaiting <;> simp [a, k]

/-- Without a running driver, or without a CHARGE table that awaits swap, no swap is made. -/
theorem State.toCharger_calm {s : State} (h : s.pch.driver.running = false ∨ s.tables.charge.awaiting = false)
    (c : ChargerState) : s.toCharger c = s.enterCharger c := by
  rcases s.toCharger_cases c with ⟨a, _, b, _⟩ | ⟨_, e⟩
  · rcases h with h | h <;> simp_all
  · exact e

theorem State.enterCharger_pauses (s : State) (c : ChargerState) : (s.enterCharger c).pch.pauses = s.pch.pauses := by
  have capture : ∀ (t : State) m, (t.capture m).pch.pauses = t.pch.pauses := by
    intro t m
    rcases t.capture_cases m with ⟨_, e⟩ | ⟨_, e⟩ <;> rw [e]
    rcases ({ t with bcd := t.bcd.cleared m } : State).dataLeft_cases with ⟨_, e⟩ | ⟨_, e⟩ <;> rw [e]
  rcases s.enterCharger_cases c with ⟨_, _, e⟩ | ⟨_, e⟩ <;> rw [e]
  · rw [capture, Pch.settle_eq]
  · dsimp only
    rw [Pch.settle_eq]

theorem State.setPausesBy_cases (go : State → ChargerState → State) (s : State) (q : Pauses) :
    (q = s.pch.pauses ∧ s.setPausesBy go q = s) ∨
    (q ≠ s.pch.pauses ∧ s.pch.pauses.raises q = true ∧ (s.pch.state = .wait ∨ s.pch.state.drives = true) ∧
      s.setPausesBy go q = (({ s with pch.pauses := q } : State).toPausedBy go).penNotice) ∨
    (q ≠ s.pch.pauses ∧ s.pch.state = .paused ∧ q.none = true ∧
      s.setPausesBy go q = ({ s with pch.pauses := q, pch.attempts := 0 } : State).toWaitBy go) ∨
    (q ≠ s.pch.pauses ∧ ¬(s.pch.pauses.raises q = true ∧ (s.pch.state = .wait ∨ s.pch.state.drives = true)) ∧
      ¬(s.pch.state = .paused ∧ q.none = true) ∧
      s.setPausesBy go q = ({ s with pch.pauses := q } : State).penNotice) := by
  unfold State.setPausesBy
  dsimp only
  split
  · exact .inl ⟨by assumption, rfl⟩
  · rename_i ne
    split
    · rename_i h
      simp only [Bool.and_eq_true, Bool.or_eq_true, beq_iff_eq] at h
      exact .inr (.inl ⟨ne, h.1, h.2, rfl⟩)
    · rename_i no
      simp only [Bool.and_eq_true, Bool.or_eq_true, beq_iff_eq] at no
      split
      · rename_i h
        simp only [Bool.and_eq_true, beq_iff_eq] at h
        exact .inr (.inr (.inl ⟨ne, h.1, h.2, rfl⟩))
      · rename_i no'
        simp only [Bool.and_eq_true, beq_iff_eq] at no'
        exact .inr (.inr (.inr ⟨ne, no, no', rfl⟩))

/-- R147: the reasons become what they are set to, where a change of charger state keeps them. -/
theorem State.setPausesBy_pauses (go : State → ChargerState → State) (s : State) (q : Pauses)
    (h : ∀ (t : State) c, t.pch.driver.running = s.pch.driver.running → t.tables = s.tables →
      (go t c).pch.pauses = t.pch.pauses) : (s.setPausesBy go q).pch.pauses = q := by
  rcases s.setPausesBy_cases go q with ⟨e, g⟩ | ⟨_, _, _, g⟩ | ⟨_, _, _, g⟩ | ⟨_, _, _, g⟩ <;> rw [g]
  · exact e.symm
  · simpa [State.toPausedBy] using h { s with
      pch.pauses := q, pch.waitTimer := none, pch.burstTimer := none, pch.stageTimer := none, pch.packetTimer := none
      pch.waiting := none, pch.checkTicks := none } .paused rfl rfl
  · simpa [State.toWaitBy] using h { s with pch.pauses := q, pch.attempts := 0 } .wait rfl rfl
  · simp

/-- R147: the reasons become what they are set to, where no CHARGE swap comes in between. -/
theorem State.setPauses_pauses {s : State} (h : s.pch.driver.running = false ∨ s.tables.charge.awaiting = false)
    (q : Pauses) : (s.setPauses q).pch.pauses = q := by
  refine State.setPausesBy_pauses _ s q fun t c running tables => ?_
  rw [State.toCharger_calm (by rw [running, tables]; exact h), State.enterCharger_pauses]

theorem State.makeWaiting_cases (s : State) :
    (s.pch.waiting = none ∧ s.makeWaiting = s) ∨
    (∃ w, s.pch.waiting = some w ∧ w.entry = true ∧ s.makeWaiting = s.toCharge w.stage) ∨
    (∃ w, s.pch.waiting = some w ∧ w.entry = false ∧ s.makeWaiting = s.toStage w.stage) := by
  unfold State.makeWaiting
  split
  · rename_i w h
    cases e : w.entry
    · exact .inr (.inr ⟨w, h, e, by simp⟩)
    · exact .inr (.inl ⟨w, h, e, by simp⟩)
  · exact .inl ⟨by assumption, rfl⟩

/-! ### The budget and the power states -/

theorem State.rebudgetBy_cases (go : State → ChargerState → State) (s : State) (p : Spm) :
    let q : Spm := { p with penClaim := p.claim }
    (q.penClaim = s.spm.penClaim ∧ (0 < p.latchClaim ↔ 0 < s.spm.latchClaim) ∧ s.rebudgetBy go p = { s with spm := q }) ∨
    (¬(q.penClaim = s.spm.penClaim ∧ (0 < p.latchClaim ↔ 0 < s.spm.latchClaim)) ∧
      s.rebudgetBy go p =
        ({ s with spm := q } : State).setPausesBy go (s.pch.pauses.forClaim q.penClaim (decide (0 < p.latchClaim)))) := by
  unfold State.rebudgetBy
  dsimp only
  split
  · rename_i h
    exact .inl ⟨h.1, h.2, rfl⟩
  · exact .inr ⟨by assumption, rfl⟩

/-- A budget record whose pen claim is computed from the rest of it (R165), and which is `p` but for the stage limit. -/
def Spm.Follows (p r : Spm) : Prop :=
  r = { p with stageLimit := r.stageLimit, penClaim := ({ p with stageLimit := r.stageLimit } : Spm).claim }

/-- What a change of charger state keeps of the budget record is kept when the pause reasons change. -/
theorem State.setPausesBy_spm (go : State → ChargerState → State) (keeps : Spm → Spm → Prop) (refl : ∀ p, keeps p p)
    (h : ∀ (t : State) c, keeps t.spm (go t c).spm) (s : State) (q : Pauses) : keeps s.spm (s.setPausesBy go q).spm := by
  rcases s.setPausesBy_cases go q with ⟨_, g⟩ | ⟨_, _, _, g⟩ | ⟨_, _, _, g⟩ | ⟨_, _, _, g⟩ <;> rw [g]
  · exact refl _
  · simpa [State.toPausedBy] using h { s with
      pch.pauses := q, pch.waitTimer := none, pch.burstTimer := none, pch.stageTimer := none, pch.packetTimer := none
      pch.waiting := none, pch.checkTicks := none } .paused
  · simpa [State.toWaitBy] using h { s with pch.pauses := q, pch.attempts := 0 } .wait
  · simpa using refl _

/-- R165: the swap at a stop hands the stage limit on, and the pen claim follows. -/
theorem State.swapStopped_spm (s : State) : s.spm.Follows s.swapStopped.spm := by
  have set : ∀ (t : State) q, (t.setPausesBy State.enterCharger q).spm = t.spm := fun t q =>
    (State.setPausesBy_spm State.enterCharger (fun p r => r = p) (fun _ => rfl) (fun t c => by simp) t q)
  have hand : ∀ (t : State) (p : Spm), (t.rebudgetBy State.enterCharger p).spm = { p with penClaim := p.claim } := by
    intro t p
    rcases t.rebudgetBy_cases State.enterCharger p with ⟨_, _, e⟩ | ⟨_, e⟩ <;> rw [e]
    rw [set]
  unfold State.swapStopped State.handLimitBy Spm.Follows
  simp only [hand]
  simp

/-- R165: a change of charger state keeps the budget record, or the pen claim follows its stage limit. -/
theorem State.toCharger_spm (s : State) (c : ChargerState) :
    (s.toCharger c).spm = s.spm ∨ s.spm.Follows (s.toCharger c).spm := by
  rcases s.toCharger_cases c with ⟨_, _, _, e⟩ | ⟨_, e⟩ <;> rw [e]
  · exact .inr (by simpa using (s.enterCharger c).swapStopped_spm)
  · exact .inl (by simp)

/-- R165: so does a change of the pause reasons. -/
theorem State.setPauses_spm (s : State) (q : Pauses) :
    (s.setPauses q).spm = s.spm ∨ s.spm.Follows (s.setPauses q).spm :=
  State.setPausesBy_spm State.toCharger (fun p r => r = p ∨ p.Follows r) (fun _ => .inl rfl) State.toCharger_spm s q

/-- R165: a budget record is taken over with the pen claim computed again; a CHARGE swap may give it another stage limit. -/
theorem State.rebudget_spm (s : State) (p : Spm) : p.Follows (s.rebudget p).spm := by
  unfold State.rebudget
  rcases s.rebudgetBy_cases State.toCharger p with ⟨_, _, e⟩ | ⟨_, e⟩ <;> rw [e]
  · rfl
  · rcases ({ s with spm := { p with penClaim := p.claim } } : State).setPauses_spm
      (s.pch.pauses.forClaim p.claim (decide (0 < p.latchClaim))) with e | e
    · unfold State.setPauses at e
      rw [e]
      rfl
    · exact e

theorem State.startClock_cases (s : State) :
    (s.spm.hub = .deep ∧ s.spm.clock = none ∧ s.startClock = { s with spm.clock := some ⟨0, false⟩ }) ∨
    ((s.spm.hub ≠ .deep ∨ s.spm.clock ≠ none) ∧ s.startClock = s) := by
  unfold State.startClock
  split
  · rename_i h
    exact .inl ⟨h.1, h.2, rfl⟩
  · rename_i h
    exact .inr ⟨not_and_or.mp h, rfl⟩

theorem State.setHub_cases (s : State) (h : HubPower) :
    (h = .doze ∧ s.spm.hub ≠ .doze ∧ s.setHub h = { s with spm.hub := .doze, psc.owed := s.owedInDoze }) ∨
    ((h ≠ .doze ∨ s.spm.hub = .doze) ∧ s.setHub h = { s with spm.hub := h }) := by
  unfold State.setHub
  split
  · rename_i g
    exact .inl ⟨g.1, g.2, by rw [g.1]⟩
  · rename_i g
    exact .inr ⟨(not_and_or.mp g).imp_right not_not.mp, rfl⟩

theorem State.activity_cases (s : State) (change : Bool) :
    let t := { s with spm.activityTimer := 0 }
    let advises := change && s.row.adviseOnEntry
    (s.spm.system = .awake ∧ advises = true ∧
      s.activity change = ({ t with spm.system := .advised } : State).sleepNotice .advise (some .posture)) ∨
    (s.spm.system = .advised ∧ advises = true ∧ s.activity change = t.sleepNotice .advise (some .posture)) ∨
    (s.spm.system = .advised ∧ advises = false ∧
      s.activity change = ({ t with spm.system := .awake } : State).sleepNotice .withdrawn none) ∨
    ((s.spm.system ≠ .advised ∧ (s.spm.system = .awake → advises = false)) ∧ s.activity change = t) := by
  unfold State.activity
  cases h : s.spm.system <;> cases a : change && s.row.adviseOnEntry <;> simp

theorem State.wakeSource_cases (s : State) (w : WakeSource) :
    let joined := { s with spm := s.spm.join w }
    let inMask := s.row.wakeMask.getLsbD w.index
    ((s.spm.system = .awake ∨ s.spm.system = .advised) ∧ s.wakeSource w = s) ∨
    (s.spm.system = .asleep ∧ s.spm.hub = .deep ∧ inMask = true ∧ s.wakeSource w = joined.startClock) ∨
    (s.spm.system = .asleep ∧ s.spm.hub = .deep ∧ inMask = false ∧ s.wakeSource w = s.startClock) ∨
    (s.spm.system = .asleep ∧ s.spm.hub ≠ .deep ∧ inMask = true ∧ s.wakeSource w = joined.toWaking) ∨
    (s.spm.system = .waking ∧ inMask = true ∧ s.wakeSource w = joined.wakeNotice) ∨
    (s.spm.system ≠ .awake ∧ s.spm.system ≠ .advised ∧ ¬(s.spm.system = .asleep ∧ s.spm.hub = .deep) ∧ inMask = false ∧
      s.wakeSource w = s) := by
  unfold State.wakeSource
  cases h : s.spm.system <;> cases m : s.row.wakeMask.getLsbD w.index <;> by_cases d : s.spm.hub = .deep <;> simp [d]

/-! ### The latch -/

theorem State.dluPosture_cases (s : State) :
    (s.posture = .closed ∧ s.dlu.state = .requested ∧ s.dluPosture = s.abortRequest) ∨
    (s.posture = .closed ∧ s.dlu.state = .releasing ∧
      s.dluPosture =
        ({ s.endPulse with dlu.state := .latched, dlu.source := none } : State).detachNotice .aborted none .releasing) ∨
    (¬(s.posture = .closed ∧ (s.dlu.state = .requested ∨ s.dlu.state = .releasing)) ∧ s.dluPosture = s) := by
  unfold State.dluPosture
  by_cases p : s.posture = .closed
  · cases d : s.dlu.state <;> simp [p]
  · simp [p]

/-! ### Requests -/

/-- R182: carrying out does nothing, or takes the request at the head of the down buffer. -/
theorem State.carryOut_cases (s : State) (mine : DownFrame → Bool) (act : State → DownFrame → State) :
    s.carryOut mine act = s ∨
    ∃ f rest, s.offers f rest ∧ mine f = true ∧ s.carryOut mine act = act (s.taken rest) f := by
  unfold State.carryOut State.request
  split
  · rename_i f h
    split at h
    · rename_i free
      cases d : s.slk.down with
      | nil => simp [d] at h
      | cons g rest =>
        simp only [d, List.head?_cons, Option.some.injEq] at h
        subst h
        split
        · rename_i m
          exact .inr ⟨g, rest, ⟨d, free.1, free.2⟩, m, by simp [State.claim, State.taken, d]⟩
        · exact .inl rfl
    · exact absurd h (by simp)
  · exact .inl rfl

/-- R182: a request that is offered is carried out when the command stands for it. -/
theorem State.carryOut_of_offers {s : State} {f : DownFrame} {rest : List DownFrame} (h : s.offers f rest)
    (mine : DownFrame → Bool) (act : State → DownFrame → State) :
    s.carryOut mine act = if mine f then act (s.taken rest) f else s := by
  obtain ⟨down, places, idle⟩ := h
  simp [State.carryOut, State.request, down, places, idle, Config.replyPlaces, State.claim, State.taken]

/-- R117, R122: the reply to a grant stands ahead of what the entry to RELEASING queues. -/
theorem State.detachGrant_cases (s : State) (f : DownFrame) :
    (s.dlu.state = .requested ∧ s.detachGrant f = (s.replied f.kind .ok []).toReleasing .grant) ∨
    (s.dlu.state ≠ .requested ∧ s.dlu.timedOut = true ∧ s.detachGrant f = s.replied f.kind .late []) ∨
    (s.dlu.state ≠ .requested ∧ s.dlu.timedOut = false ∧ s.detachGrant f = s.replied f.kind .notPending []) := by
  unfold State.detachGrant
  by_cases h : s.dlu.state = .requested
  · exact .inl ⟨h, by rw [if_pos h]; rfl⟩
  · cases o : s.dlu.timedOut
    · exact .inr (.inr ⟨h, rfl, by simp [h]; rfl⟩)
    · exact .inr (.inl ⟨h, rfl, by simp [h]; rfl⟩)

theorem State.answer_eq_replied (s : State) (f : DownFrame) (code : ReplyCode) (data : List Byte) :
    s.answer f code data = s.replied f.kind code data := rfl

/-! ### The receive framer -/

theorem State.hunt_nil (n : Nat) (s : State) : s.hunt n [] = s := by cases n <;> rfl

theorem State.hunt_cons (n : Nat) (s : State) (c : RxChar) (rest : List RxChar) :
    let f := s.slk.framer.before s.slk.rate c
    s.hunt (n + 1) (c :: rest) =
      match f.act c with
      | .goOn g => ({ s with slk.framer := g } : State).hunt n rest
      | .good frame => (({ s with slk.framer := .hunting } : State).offer frame).hunt n rest
      | .bad => (({ s with slk.framer := .hunting } : State).bump .downCrc).hunt n ((f.kept ++ [c]).drop 1 ++ rest) := rfl

theorem State.offer_cases (s : State) (f : DownFrame) :
    (s.slk.down.length < 2 ∧ s.offer f = { s with slk.down := s.slk.down ++ [f] }) ∨
    (2 ≤ s.slk.down.length ∧ s.offer f = s.bump .overrun) := by
  by_cases h : s.slk.down.length < 2
  · exact .inl ⟨h, if_pos h⟩
  · exact .inr ⟨Nat.le_of_not_lt h, if_neg h⟩

/-! ### The base link -/

theorem State.attemptFailed_cases (s : State) :
    let t := { s with blk.attempts := min (s.blk.attempts + 1) 3 }
    (3 ≤ s.blk.attempts + 1 ∧ s.attemptFailed = t.enterFault) ∨ (s.blk.attempts + 1 < 3 ∧ s.attemptFailed = t) := by
  by_cases h : 3 ≤ min (s.blk.attempts + 1) 3
  · exact .inl ⟨by omega, if_pos h⟩
  · exact .inr ⟨by omega, if_neg h⟩

theorem State.pollFailed_cases (s : State) :
    let n := min (s.blk.consecutive + 1) 15
    let t := { s with blk.consecutive := n }
    (s.sched.failLimit ≤ n ∧ s.pollFailed = t.enterFault) ∨ (n < s.sched.failLimit ∧ s.pollFailed = t) := by
  unfold State.pollFailed
  dsimp only
  split
  · exact .inl ⟨by assumption, rfl⟩
  · rename_i h
    exact .inr ⟨Nat.lt_of_not_le h, rfl⟩

theorem State.enterRunning_cases (s : State) (identified : Bool) :
    let t := ({ s with
      blk.link := .running, blk.consecutive := 0, blk.retryTimer := none, blk.retryDue := false
      blk.attention := false } : State).startPolls
    let u := if s.blk.attention then t.attentionPoll else t
    (s.dlu.state = .absent ∧ s.enterRunning identified = u.attach identified) ∨
    (s.dlu.state ≠ .absent ∧ s.enterRunning identified = u) := by
  by_cases h : s.dlu.state = .absent
  · exact .inl ⟨h, if_pos h⟩
  · exact .inr ⟨h, if_neg h⟩

/-- R62, R64: what a received character does to the transaction it belongs to. -/
theorem State.takeChar_cases (s : State) (t : Txn) (c : Byte) :
    (judgeChar t c = .more ∧ s.takeChar t c = { s with blk.txn := some { t with received := t.received ++ [c] } }) ∨
    (∃ data, judgeChar t c = .success data ∧ s.takeChar t c = s.succeed t data) ∨
    (∃ e, judgeChar t c = .failure e ∧ s.takeChar t c = s.fail t e none) := by
  unfold State.takeChar
  cases h : judgeChar t c
  · exact .inl ⟨rfl, rfl⟩
  · exact .inr (.inl ⟨_, rfl, rfl⟩)
  · exact .inr (.inr ⟨_, rfl, rfl⟩)

end Sys2Proof.Machine
end

