-- ==== Sys2Proof/Tests/Slice0.lean ====
section
/-!
SUPPORT. Tests: the smoke test of WellFormed, the manual's worked examples, one step of a command on a small state, and for each
statement with hypotheses a witness that meets them, clause by clause.
-/

namespace Sys2Proof.Tests

open Sys2Proof.Machine

-- One theorem after another: many kernel evaluations at once ask for more thread stacks than the memory limit of the check allows.
set_option Elab.async false

/-! ### Helpers -/

/-- The state after a command; the state itself when the command stops. -/
def after (c : Instr) (s : State) : State :=
  match exec c s with
  | .next t => t
  | _ => s

/-- The state after several commands. -/
def afterAll (cs : List Instr) (s : State) : State := cs.foldl (fun t c => after c t) s

/-- The state after reset. -/
def boot : State := State.reset

/-- A base present and RUNNING at 1 Mbit/s, with functions 1 to 7, in posture LAPTOP by row 1. -/
def docked : State :=
  { boot with
    blk.link := .running, blk.rate := .m1, blk.record := some ⟨0x3A10, 4, 0xFE, .m1⟩, dlu.state := .latched
    pae.record := ⟨.laptop, some 1, true, 0⟩ }

/-- A pen in the garage and the charger in CHARGE at stage 1 on external power, driving. -/
def charging : State :=
  { docked with
    cnv.windows := [.unset, .inside, .inside, .outside, .outside, .inside, .unset, .unset]
    spm.lastPower := some ⟨50, true⟩, spm.supply := 600, spm.stageLimit := 250, spm.penClaim := 250
    pch.state := .charge, pch.pen := some ⟨some 7, some 20, some 0, some 1, 0, 0⟩, pch.packetTimer := some ⟨0, 150⟩
    pch.driver := { Driver.initial with running := true, periodNo := 1, duty := 120, dutyB := 120 }
    bcd.mode := .edge }

/-- The system asleep with the hub in DOZE, the posture CLOSED. -/
def asleep : State :=
  { docked with
    pae.record := ⟨.closed, none, false, 0⟩, spm.system := .asleep, spm.hub := .doze, spm.requested := some .deep
    spm.target := some .deep, pch.pauses.sleep := true }

/-- The same in DEEP. -/
def deep : State := { asleep with spm.hub := .deep, blk.link := .listen }

/-- A request at the head of the down buffer. -/
def asked (s : State) (kind : Byte) (payload : List Byte) : State := { s with slk.down := [⟨kind, payload⟩] }

/-- A table that awaits its swap, with its reply place. -/
def waits (k : TableId) (s : State) : State :=
  { s with tables := s.tables.set k { s.tables.get k with awaiting := true }, upq.placesTaken := 1 }

/-! ### WellFormed and Decode -/

theorem test_slot_12_is_ill_formed : (Instr.dueTime 12).wellFormed = false := by decide

theorem test_slot_11_is_well_formed : (Instr.dueTime 11).wellFormed = true := by decide

theorem test_ill_formed_slot_faults : exec (.dueTime 12) boot = .fault .noSuchSlot := rfl

theorem test_no_word_spells_a_command : decodeTableWord 16 0x1234 = none := by decide

/-! ### Worked examples: functions -/

/-- 02, "the arctangent unit and the hinge angle". -/
theorem test_arctangent_worked_example :
    arctangent 0 1024 = some 0 ∧ arctangent 962 350 = some 70 ∧ arctangent (-178) 1008 = some 350 ∧
    arctangent 887 (-512) = some 120 ∧ arctangent 81 1030 = some 5 ∧ arctangent 180 150 = some 50 := by decide +kernel

/-- 02, "a rotation with hysteresis". For (150, 300) R27 gives 27; the example's 63 contradicts it (notes/assumptions/16.md). -/
theorem test_arctangent_rotation_example :
    arctangent 700 800 = some 41 ∧ arctangent 900 500 = some 61 ∧ arctangent 150 300 = some 27 := by decide +kernel

/-- R25, R27: the axes and a degree of 0 short of a full turn. -/
theorem test_arctangent_axes :
    arctangent 0 0 = none ∧ arctangent 5 0 = some 90 ∧ arctangent 0 (-5) = some 180 ∧ arctangent (-5) 0 = some 270 ∧
    arctangent (-1) 1000 = some 0 := by decide +kernel

/-- 02, "filter rounding": both columns. -/
theorem test_filter_worked_example :
    (List.range 10).map (fun n => (filterAxis 2 · 1024)^[n + 1] 1000) =
      [1006, 1010, 1013, 1015, 1017, 1018, 1019, 1020, 1021, 1021] ∧
    (List.range 10).map (fun n => (filterAxis 2 · 976)^[n + 1] 1000) =
      [994, 989, 985, 982, 980, 979, 978, 977, 976, 976] := by decide +kernel

/-- 04 and 11: the CRC-8 of an answer and of a frame. -/
theorem test_crc_worked_examples :
    crc8 [0xBE, 0xEF] = 0x92 ∧ crc8 [0x02, 0xBE, 0xEF] = 0xD4 ∧ crc8 [0x41, 0x01, 0x01] = 0x3A := by decide +kernel

/-- 04, "a pointer poll against its deadline", and 05, "a write among the polls". -/
theorem test_selectors : selector .pointer false = 0x22 ∧ selector .light true = 0x76 := by decide +kernel

/-- 08, "a charge from 15 % to rest": the stage chosen for 15 %, and the bounds of R141 on either side of a level_lo. -/
theorem test_chosen_stage :
    chosenStage defaultCharge 15 = 0 ∧ chosenStage defaultCharge 20 = 1 ∧ chosenStage defaultCharge 79 = 1 ∧
    chosenStage defaultCharge 80 = 2 := by decide +kernel

/-- 09, "a BATTERY packet": the intervals it names. -/
theorem test_interval_classes :
    [246, 258, 251, 262].map classOf = List.replicate 4 .short ∧ classOf 489 = .long ∧ classOf 187 = .violation ∧
    classOf 313 = .violation ∧ classOf 626 = .violation := by decide +kernel

/-- R2 to R168: the default images pass their owners' validation. -/
theorem test_default_images_are_valid :
    TableId.all.all (fun k => validImage k (defaultImage k)) = true := by decide +kernel

/-! ### Worked examples: commands -/

/-- A scan of HALL_F and VREF under way, HALL_F OUTSIDE with a debounce counter. -/
def hallScan (count : Nat) (fault : Bool) : State :=
  { boot with
    cnv.slotS := .scanning, cnv.todo := [3, 7], cnv.windows := boot.cnv.windows.set 3 .outside
    cnv.debounce := boot.cnv.debounce.set 3 count, cnv.fault := fault }

/-- 01, "debounce and a reference fault", scan 3: VREF out of bounds withholds the update. -/
theorem test_scan_with_a_reference_fault :
    let t := afterAll [.channelConversionEnd 940, .channelConversionEnd 2151] (hallScan 1 false)
    t.cnv.fault = true ∧ t.cnv.window 3 = .outside ∧ t.cnv.debounce.getD 3 9 = 1 ∧
    t.cnv.resultS.getD 3 ⟨none, 0⟩ = ⟨some 940, 0⟩ ∧
    t.upq.entries.getLast? = some ⟨.notice (.event .converterFault 2), false⟩ := by decide +kernel

/-- The same example, scan 5: the fault clears, every counter is 0, and the scan's own update is made. -/
theorem test_scan_after_a_reference_fault :
    let t := afterAll [.channelConversionEnd 925, .channelConversionEnd 2044] (hallScan 1 true)
    t.cnv.fault = false ∧ t.cnv.window 3 = .outside ∧ t.cnv.debounce.getD 3 9 = 1 := by decide +kernel

/-- The same example, scan 7: the third reading in a row settles HALL_F, and PAE and SPM are informed. -/
theorem test_scan_settles_hall_f :
    let t := afterAll [.channelConversionEnd 910, .channelConversionEnd 2043] (hallScan 2 false)
    t.cnv.window 3 = .inside ∧ t.cnv.debounce.getD 3 9 = 0 ∧ t.pae.hallF = true ∧ t.spm.hallF = true := by decide +kernel

/-- 02, the hinge angle of the first three cases. -/
theorem test_hinge_angles :
    let at' (y z : Int) : State :=
      ({ docked with
          pae.lidFilter := some ⟨0, 962, 350⟩, pae.baseFilter := some ⟨0, y, z⟩, pae.lidAge := some 0
          pae.baseAge := some 0 } : State).directions.hingeStep
    (at' 0 1024).pae.hinge = ⟨.fresh, some 110, some 0⟩ ∧ (at' (-178) 1008).pae.hinge = ⟨.fresh, some 100, some 350⟩ ∧
    (at' 887 (-512)).pae.hinge = ⟨.fresh, some 230, some 120⟩ := by decide +kernel

/-- R31: a base delivery and the entry to DEEP leave what the POSTURE page reports of the last evaluation's ages. -/
theorem test_reported_ages_are_the_last_evaluations :
    let s : State := { docked with pae.lidAge := some 4, pae.baseAge := some 3 }
    let t : State := { s.ageStep.baseSample ⟨0, 0, 1024⟩ with pae.lidAge := some 255 }
    t.pae.baseAge = some 0 ∧ (t.posturePage.drop 16).take 2 = [4, 3] ∧ t.posturePage.headD 0 = 0x18 := by decide +kernel

/-- 02, "a rotation with hysteresis", at 440 and 460: the dwell of 300 ms. -/
theorem test_rotation_dwell :
    let flat (now : TickCount) : State :=
      { docked with
        ticks := now, pae.record := ⟨.flat, some 2, true, 0⟩, pae.lidFilter := some ⟨900, 500, 0⟩, pae.lidAge := some 0, pae.psi := some 61
        pae.rotCandidate := some ⟨.r90, 160⟩ }
    (flat 440).rotate.pae.rotation = .r0 ∧ (flat 460).rotate.pae.rotation = .r90 := by decide +kernel

/-- 03, "laptop to flat to tent", at 20, 40 and 340. -/
theorem test_laptop_to_flat :
    let at' (now : TickCount) (theta : Nat) (c : Option Candidate) : State :=
      { docked with ticks := now, pae.hinge := ⟨.fresh, some theta, some 0⟩, pae.candidate := c }
    (at' 20 170 none).classify.pae.candidate = none ∧
    (at' 40 172 none).classify.pae.candidate = some ⟨.flat, some 2, 40⟩ ∧
    (at' 320 175 (some ⟨.flat, some 2, 40⟩)).classify.posture = .laptop ∧
    (at' 340 175 (some ⟨.flat, some 2, 40⟩)).classify.pae.record = ⟨.flat, some 2, true, 340⟩ := by decide +kernel

/-- 04, "a pointer poll against its deadline": the answer window of 140 Tbit. -/
theorem test_pointer_deadline :
    let s := { docked with blk.txn := some (readTxn .pointer .m1 8) }
    (after .lineReleasedForAnswer s).blk.txn = some { readTxn .pointer .m1 8 with deadline := some 140 } := by decide +kernel

/-- 04, "check errors into FAULT", transaction 8: the fourth consecutive failure. -/
theorem test_fourth_failure_brings_fault :
    let s := { docked with
      blk.txn := some { readTxn .button .m1 2 with deadline := some 80, received := [2, 0xBE, 0xEF] }, blk.consecutive := 3 }
    let t := after (.baseCharacterReceived 0xD6 0) s
    t.blk.link = .fault ∧ t.counters.check = 1 ∧ t.blk.consecutive = 0 ∧ t.blk.retryTimer = some 0 ∧
    t.blk.record = docked.blk.record := by decide +kernel

/-- The same example: the retry's answer brings RUNNING at 1 Mbit/s with the base record of the text. -/
theorem test_identification_answer :
    let w : Txn := { idRead with deadline := some 140, received := [5, 0x10, 0x3A, 0x04, 0x3E, 0x01] }
    let s := { docked with blk.link := .fault, blk.rate := .k250, blk.txn := some w }
    let t := after (.baseCharacterReceived (crc8 w.received) 0) s
    t.blk.link = .running ∧ t.blk.rate = .m1 ∧ t.blk.record = some ⟨0x3A10, 4, 0x3E, .m1⟩ := by decide +kernel

/-- 04, "an attach with a bouncing contact": ticks 0 and 2, and the confirmation of tick 22. -/
theorem test_attach_and_bounce :
    let t := after (.systemTick true true true) boot
    t.blk.link = .attaching ∧ t.posture = .unknown ∧
    (afterAll [.systemTick true true true, .systemTick false true true] t).blk.absentCount = 1 ∧
    (after .attachConfirmed { t with blk.presentCount := 20 }).blk.link = .identify := by decide +kernel

/-- 05, "a write among the polls": the write head stands before POINTER, and its characters. -/
theorem test_write_among_the_polls :
    let s := { docked with psc.owed := [0, 0, 1, 1, 0, 0, 0, 0, 0, 0, 0, 0], psc.writes := [⟨.light, [1, 2, 3]⟩] }
    s.choice = some ⟨.light, true, .m1, 3, [0x76, 3, 1, 2, 3, crc8 [3, 1, 2, 3]], none, []⟩ := by decide +kernel

/-- 06, "coalescing under a slow system link", events 2 and 3: a sum saturates, and other buttons do not merge. -/
theorem test_coalescing :
    let held := { docked with upq.entries := [⟨.report (.pointer 2020 (-25) 0 0), false⟩, ⟨.notice (.event .por 1), false⟩] }
    (held.applyAction .coalesce (.pointer 80 (-10) (-3) 0)).upq.entries.head? =
      some ⟨.report (.pointer 2047 (-35) (-3) 0), false⟩ ∧
    (held.applyAction .coalesce (.pointer 5 0 0 1)).upq.entries.getLast? =
      some ⟨.report (.pointer 5 0 0 1), false⟩ := by decide +kernel

/-- 06, "a notice replaced while its predecessor is sent": the newest takes the follow-on place and joins at the end. -/
theorem test_follow_on_notice :
    let n (k : Nat) : Notice := .pen .off ⟨false, false, false, false, false⟩
      (some ⟨none, some k, none, none, 0, 0, 0, none, none⟩)
    let s := { boot with upq := ⟨[⟨.notice (n 1), true⟩], [], 0⟩, slk.tx := some [] }
    let t := ((s.notice (n 2)).notice (n 3)).notice (n 4)
    t.upq.followOn = [n 4] ∧ (after .upFrameEnd t).upq = ⟨[⟨.notice (n 4), false⟩], [], 0⟩ := by decide +kernel

/-- 07, "a detach by button and grant", at 0 and 640. -/
theorem test_detach_by_button_and_grant :
    let t := docked.buttonPressed
    let u := after .detachGrant (asked t 0x45 [])
    t.dlu.state = .requested ∧ t.dlu.requestTimer = some ⟨0, 2000⟩ ∧ t.dlu.holdTimer = some ⟨0, 4000⟩ ∧
    u.dlu.state = .releasing ∧ u.dlu.pulseTimer = some ⟨0, 250⟩ ∧ u.dlu.ldrv = true ∧ u.spm.latchClaim = 350 := by
  decide +kernel

/-- The same example: the reply to the grant reaches the system processor before the RELEASING notice. -/
theorem test_grant_reply_stands_first :
    let t := { docked.buttonPressed with upq := ⟨[], [], 0⟩ }
    ((after .detachGrant (asked t 0x45 [])).upq.entries.map fun e => e.content.upKind).take 2 = [0x20, 0x14] := by decide +kernel

/-- R105, R106: the kind in transmission is that of the request answered while its reply is sent. -/
theorem test_status_kind_in_transmission :
    let sends (c : Content) : State := { boot with upq := ⟨[⟨c, true⟩], [], 1⟩, slk.tx := some [] }
    (sends (.reply ⟨0x45, .ok, [], false⟩)).statusPage.getD 4 0 = 0x45 ∧ (sends (.notice (.event .por 1))).statusPage.getD 4 0 = 0x17 ∧
    boot.statusPage.getD 4 0 = 0 := by decide +kernel

/-- 08, "a coil period and the duty clamp", steps 2, 4 and 5. -/
theorem test_duty_steps :
    let at' (duty : Nat) : State := { charging with pch.driver := { charging.pch.driver with dutyB := duty } }
    ((at' 132).deliver 3 20).pch.driver.dutyB = 164 ∧ ((at' 196).deliver 3 8).pch.driver.dutyB = 200 ∧
    (after (.slotCConversionEnd 512 0) { at' 200 with cnv.slotC := .converting }).pch.driver.dutyB = 196 ∧
    (after (.slotCConversionEnd 498 0) { at' 196 with cnv.slotC := .converting }).pch.driver.dutyB = 196 := by decide +kernel

/-- The same example, its fault: the eighth reading at the floor. -/
theorem test_overcurrent_fault :
    let s := { charging with
      pch.pen := charging.pch.pen.map fun p => { p with stage := some 0 }, spm.stageLimit := 120, spm.penClaim := 120
      pch.driver := { charging.pch.driver with dutyB := 40 }, pch.overcurrent := 7, cnv.slotC := .converting }
    let t := after (.slotCConversionEnd 260 0) s
    t.pch.state = .fault ∧ t.pch.faultReason = some .overcurrent ∧ t.pch.driver.running = false := by decide +kernel

/-- 08, "a charge from 15 % to rest", at 514 ms and at 52 min. -/
theorem test_battery_chooses_the_stage :
    let ident := { charging with
      pch.state := .ident, pch.penIdMark := true, pch.burstTimer := some ⟨0, 20⟩, pch.packetTimer := none }
    let high := { charging with pch.driver := { charging.pch.driver with dutyB := 184 } }
    (ident.deliver 2 15).pch.waiting = some ⟨0, true⟩ ∧ (ident.deliver 2 15).pch.driver.dutyB = 40 ∧
    (high.deliver 2 80).pch.waiting = some ⟨2, false⟩ ∧ (high.deliver 2 80).pch.driver.dutyB = 160 := by decide +kernel

/-- 09, "a BATTERY packet": the last bit of check F2h, a 1, completes it. -/
theorem test_battery_packet :
    let s := { charging with
      bcd.decoder := .data, bcd.bitCount := 23, bcd.acc := 0x720F02, bcd.reference := some 100, bcd.half := true }
    let t := after (.bciEdge ⟨true, 16⟩ 350) s
    t.bcd.last = some ⟨2, 15, 0⟩ ∧ t.bcd.decoder = .hunt ∧ t.pch.pen.bind PenRecord.battery = some 15 := by decide +kernel

/-- 09, "a blanking forced into the packet": value 07h with check F2h is counted under CHECK. -/
theorem test_battery_packet_with_a_wrong_check :
    let s := { charging with
      bcd.decoder := .data, bcd.bitCount := 23, bcd.acc := 0x720702, bcd.reference := some 100, bcd.half := true }
    let t := after (.bciEdge ⟨true, 16⟩ 350) s
    t.bcd.last = none ∧ t.pch.pen.map PenRecord.check = some 1 := by decide +kernel

/-- R155: a level that holds for less than 16 µs is a glitch, and a level that the filter holds already is no edge. -/
theorem test_edge_filter :
    exec (.bciEdge ⟨true, 15⟩ 350) charging = .next charging ∧ exec (.bciEdge ⟨false, 16⟩ 350) charging = .next charging ∧
    (after (.bciEdge ⟨true, 16⟩ 350) charging).bcd.reference = some 350 := ⟨rfl, rfl, by decide +kernel⟩

/-- R135: a commit while the driver is stopped swaps at once, and so does a stop of the driver while the table awaits swap. -/
theorem test_charge_swaps_at_once :
    let t := after .tableCommit (asked { boot with tables.charge.pending := boot.tables.charge.pending.set 2 [20, 80, 40, 200, 120, 7200] } 0x41 [5])
    let u := (waits .charge charging).setPauses ⟨true, false, false, false, false⟩
    t.tables.charge.awaiting = false ∧ (t.stage 1).currentLimit = 120 ∧ t.upq.entries.getLast? = some (replyEntry 0x41 .ok []) ∧
    u.tables.charge.awaiting = false ∧ replyEntry 0x41 .ok [] ∈ u.upq.entries ∧ u.pch.state = .paused := by decide +kernel

/-- R135, R141: the stop of a failed burst swaps first, and the attempt count is judged by the new ident attempts, 1. -/
theorem test_failed_burst_under_the_new_image :
    let s : State := { waits .charge charging with
      pch.state := .ident, pch.burstTimer := some ⟨20, 20⟩, pch.packetTimer := none
      tables.charge.pending := defaultCharge.set 0 [3, 256, 8, 4, 16, 20, 1, 500, 150, 60, 90, 3500, 4700, 8, 1] }
    (after .burstTimerExpiry s).pch.faultReason = some .noPen := by decide +kernel

/-- 10, "the budget around a latch pulse": on the battery the pulse pauses the pen, and its end resumes it. -/
theorem test_budget_around_a_latch_pulse :
    let s := { charging with spm.supply := 300, dlu.state := .requested }
    let t := s.toReleasing .grant
    t.spm.penClaim = 0 ∧ t.pch.pauses.latch = true ∧ t.pch.state = .paused ∧
    t.endPulse.spm.penClaim = 250 ∧ t.endPulse.pch.state = .wait := by decide +kernel

/-- 10, "a lid closed through DEEP and opened again", at 61.3 and 61.302. -/
theorem test_lid_opens_from_deep :
    let t := deep.wakeSource .lidOpen
    let u := after .clockStartEnd { t with spm.clock := t.spm.clock.map fun c => { c with elapsed := 2 } }
    t.spm.clock = some ⟨0, false⟩ ∧ t.spm.wakeCause = 0x20 ∧ t.spm.firstPower = some .deep ∧
    u.spm.system = .waking ∧ u.spm.hub = .run ∧ u.blk.link = .running ∧ u.spm.wakeTimer = some ⟨0, 10⟩ := by decide +kernel

/-- R176: at the end of a clock start the WAKE notice is queued before SLEEP is judged, whose PEN notice follows. -/
theorem test_clock_start_order :
    let s : State := { deep with spm.clock := some ⟨2, false⟩, spm.wakeCause := 0x20, upq := ⟨[], [], 0⟩ }
    (after .clockStartEnd s).upq.entries.map (fun e => e.content.upKind) = [0x16, 0x13] := by decide +kernel

/-- 11, "loading and committing a ROUTE change", steps 1 and 2. -/
theorem test_route_write_and_bad_commit :
    let t := after .tableWrite (asked boot 0x40 [1, 3, 1, 1, 1, 1, 1, 2, 1, 1, 0])
    let u := after .tableCommit (asked { t with upq.placesTaken := 0 } 0x41 [1])
    t.tables.route.pending.row 3 = [1, 1, 1, 1, 2, 1, 1, 0] ∧ t.tables.route.active = defaultRoute ∧
    u.upq.entries.getLast? = some ⟨.reply ⟨0x41, .badValue, [3], false⟩, false⟩ ∧
    (u.upq.entries.getLast?.map fun e => e.content.frame.dropLast) = some [0xA5, 0x20, 3, 0x41, 5, 3] := by decide +kernel

/-- The same example, step 4: the commit swaps at once, and its reply's frame. -/
theorem test_route_commit_swaps :
    let t := after .tableWrite (asked boot 0x40 [1, 3, 1, 1, 1, 1, 1, 0, 1, 1, 0])
    let u := after .tableCommit (asked { t with upq.placesTaken := 0 } 0x41 [1])
    u.tables.route.active.row 3 = [1, 1, 1, 1, 0, 1, 1, 0] ∧ u.tables.route.pending = u.tables.route.active ∧
    (u.upq.entries.getLast?.map fun e => e.content.frame.dropLast) = some [0xA5, 0x20, 2, 0x41, 0] := by decide +kernel

/-- The same example: the commit frame's characters, and the same with its check disturbed. -/
theorem test_commit_frame_received :
    let send (last : Byte) : State :=
      afterAll ([0xA5, 0x41, 0x01, 0x01, last].map fun b => Instr.downCharacterReceived ⟨b, true, 0⟩) boot
    (send 0x3A).slk.down = [⟨0x41, [1]⟩] ∧ (send 0x3A).counters.downCrc = 0 ∧
    (send 0x3B).slk.down = [] ∧ (send 0x3B).counters.downCrc = 1 ∧ (send 0x3B).slk.framer = .hunting := by decide +kernel

/-- R20, R77: 3 ms after its start a lid read can only fail; a low that a tick has seen end brings no attention. -/
theorem test_late_sample_and_ended_low :
    exec (.lidReadCompletion (.sample ⟨0, 0, 1024⟩)) { boot with pae.lidRead := some 3 } = .next { boot with pae.lidRead := some 3 } ∧
    (after .lidReadTimeout { boot with pae.lidRead := some 3 }).counters.port = 1 ∧
    (after (.systemTick true true true) { docked with blk.low := some ⟨true, 0, false, 0⟩ }).blk.low = none :=
  ⟨rfl, by decide +kernel, by decide +kernel⟩

/-! ### Witnesses: the machine, the converter -/

theorem witness_StepTakesTheFrontCommand : ({ boot with pending := [.sTrigger, .cTrigger] } : State).pending =
    Instr.sTrigger :: [.cTrigger] := rfl

theorem witness_IdleStepIsOneDriveTick : boot.pending = [] ∧ boot.spm.hub ≠ .deep ∧ deep.pending = [] ∧ deep.spm.hub = .deep := by
  decide +kernel

theorem witness_NoCommandTouchesTheQueue : ∃ t, exec .sTrigger boot = .next t := ⟨_, rfl⟩

theorem witness_OnlyAMissingSlotStops : (Instr.dueTime 11).wellFormed = true ∧ 12 ≤ 12 := by decide

theorem witness_CountersSaturateAndTellOnce :
    let c (n : Nat) : State := { boot with counters := boot.counters.set .lost n }
    ((c 254).counters.get .lost < 255 ∧ 255 ≤ (c 254).counters.get .lost + 1) ∧
    ((c 253).counters.get .lost + 1 < 255) ∧ (255 ≤ (c 255).counters.get .lost) ∧ Counter.port ≠ Counter.lost := by
  decide +kernel

/-- The scan timer at the period of RUN. -/
def scanDue (s : State) : State := { s with cnv.scanTimer := 10 }

theorem witness_STriggerStartsAScanOfItsSet :
    let none' : State := scanDue (deep : State)
    let empty : State := { none' with cnv.scanTimer := 500, tables.channel.active := [[10, 100, 500, 0, 0, 15]] }
    let plain : State := { empty with tables.channel.active := [[10, 100, 500, 1, 0, 15], [1, 0, 4095, 0, 1, 0]] }
    let inData : State := scanDue { charging with bcd.decoder := .data }
    ((scanDue boot).scanPeriod ≤ (scanDue boot).cnv.scanTimer ∧ (scanDue { boot with cnv.slotS := .ready }).cnv.slotS ≠ .idle) ∧
    ((waits .channel (scanDue boot)).cnv.slotS = .idle ∧ (waits .channel (scanDue boot)).tables.channel.awaiting = true) ∧
    (empty.scanPeriod ≤ empty.cnv.scanTimer ∧ empty.cnv.slotS = .idle ∧ empty.tables.channel.awaiting = false ∧
      empty.scanSet = []) ∧
    (plain.scanPeriod ≤ plain.cnv.scanTimer ∧ plain.cnv.slotS = .idle ∧ plain.tables.channel.awaiting = false ∧
      plain.scanSet ≠ [] ∧ plain.needsBlanking plain.scanSet = false) ∧
    (inData.scanPeriod ≤ inData.cnv.scanTimer ∧ inData.cnv.slotS = .idle ∧ inData.tables.channel.awaiting = false ∧
      inData.scanSet ≠ [] ∧ inData.needsBlanking inData.scanSet = true ∧ inData.bcd.decoder = .data ∧
      0 < inData.chan.deferLimit) ∧
    ((scanDue boot).cnv.slotS = .idle ∧ (scanDue boot).tables.channel.awaiting = false ∧ (scanDue boot).scanSet ≠ [] ∧
      (scanDue boot).needsBlanking (scanDue boot).scanSet = true ∧ (scanDue boot).bcd.decoder ≠ .data) := by decide +kernel

theorem witness_BlankingIsForcedAndGranted :
    let s := { charging with cnv.slotS := .deferring, bcd.decoder := .data, cnv.scanTicks := 15 }
    let g := { boot with pch.blanking := .requested, cnv.slotS := .blankWait }
    (s.cnv.slotS = .deferring ∧ s.bcd.decoder = .data ∧ s.chan.deferLimit ≤ s.cnv.scanTicks) ∧
    (g.pch.blanking = .requested ∧ g.pch.driver.running = false) := by decide +kernel

/-- A compare event is due. -/
def compareDue (s : State) : State := { s with pch.driver := { s.pch.driver with running := true, periodNo := 16, compared := false } }

theorem witness_CTriggerActsByBothSlots :
    let c := compareDue charging
    let scanning := { c with cnv.slotS := .scanning }
    let hold := { scanning with tables.channel.active := [[10, 100, 500, 0, 1, 15]] }
    (c.pch.driver.running = true ∧ c.pch.driver.periodNo = c.chg.divider ∧ c.pch.driver.compared = false) ∧
    ({ c with cnv.slotC := .converting } : State).cnv.slotC = .converting ∧
    ({ c with cnv.held := some .forScan } : State).cnv.held ≠ none ∧
    (c.cnv.slotC = .idle ∧ c.cnv.held = none ∧ (waits .channel c).tables.channel.awaiting = true) ∧
    (scanning.cnv.slotC = .idle ∧ scanning.cnv.held = none ∧ scanning.tables.channel.awaiting = false ∧
      scanning.cnv.slotS = .scanning ∧ scanning.chan.policy = .ignore) ∧
    (hold.cnv.slotS = .scanning ∧ hold.chan.policy = .hold ∧ hold.tables.channel.awaiting = false) ∧
    c.cnv.slotS ≠ .scanning := by decide +kernel

theorem witness_SlotCResultRegulatesTheCoil :
    let s (duty count : Nat) : State :=
      { charging with
        cnv.slotC := .converting, pch.driver := { charging.pch.driver with dutyB := duty }, pch.overcurrent := count }
    let limit (t : State) : Nat := min (t.stage t.stageInForce).currentLimit t.spm.penClaim
    ({ boot with cnv.slotC := .converting } : State).pch.state.drives = false ∧
    ((s 120 0).cnv.slotC = .converting ∧ (s 120 0).pch.state.drives = true ∧ (500 : Fin 4096).val ≤ 2 * limit (s 120 0)) ∧
    (2 * limit (s 120 0) < (501 : Fin 4096).val ∧ (s 120 0).pch.driver.dutyB ≠ ((s 120 0).stage (s 120 0).stageInForce).dutyMin) ∧
    ((s 40 6).pch.driver.dutyB = ((s 40 6).stage (s 40 6).stageInForce).dutyMin ∧
      (s 40 6).pch.overcurrent + 1 < (s 40 6).chg.persistence) ∧
    ((s 40 7).chg.persistence ≤ (s 40 7).pch.overcurrent + 1) := by decide +kernel

theorem witness_ScanCompletesAndIsJudged :
    let row : ChannelRow := ⟨true, 10, 20, .inside, 3, false⟩
    (hallScan 0 false).cnv.slotS = .scanning ∧ (hallScan 0 false).cnv.todo = 3 :: [7] ∧
    ({ hallScan 0 false with cnv.todo := [7] } : State).cnv.todo = 7 :: [] ∧
    (row.low ≤ 10 ∧ 20 ≤ row.high ∧ 1 + 1 < row.debounce ∧ row.debounce ≤ 2 + 1) ∧
    (boot.chanRow 0).mode = .off ∧ (boot.chanRow 7).mode ≠ .off ∧
    (1989 < (boot.chanRow 7).low ∧ (boot.chanRow 7).low ≤ 1990 ∧ 2106 ≤ (boot.chanRow 7).high ∧ (boot.chanRow 7).high < 2107) ∧
    ({ boot with tables.channel.active := [] } : State).chanRow 7 = ⟨false, 0, 0, .off, 0, false⟩ ∧
    (3 ≠ 7 ∧ (boot.chanRow 3).mode ≠ .off) ∧ (({ boot with spm.hallF := true } : State).spm.hallF = true ∧ boot.active 3 = false) ∧
    (hallScan 0 true).cnv.fault = true := by decide +kernel

theorem witness_ChannelSwapKeepsWindows :
    (waits .channel boot).tables.channel.awaiting = true ∧ (waits .channel boot).converterIdle = true ∧
    0 < boot.cnv.windows.length := by decide +kernel

/-! ### Witnesses: posture and angle -/

theorem witness_ArctangentFollowsItsTable :
    ((0 : Int) = 0 ∧ (0 : Int) ≤ 0 ∧ (0 : Int) < 1) ∧ ((0 : Int) < 1 ∧ (0 : Int) ≤ 0) ∧ ((0 : Int) ≤ 0 ∧ (-1 : Int) < 0) ∧
    ((-1 : Int) < 0 ∧ (0 : Int) ≤ 0) ∧ (5 : Int).natAbs = (-5 : Int).natAbs ∧ (8191 : Int).natAbs ≤ 8191 := by decide

/-- Both samples young, the base face-up, the lid at 110 degrees. -/
def angled : State :=
  { docked with
    pae.lidFilter := some ⟨0, 962, 350⟩, pae.baseFilter := some ⟨0, 0, 1024⟩, pae.lidAge := some 3, pae.baseAge := some 3
    pae.phiL := some 70 }

theorem witness_FiltersAndHingeRecordAreFormed :
    (angled.freshAngle = true ∧ angled.pae.phiB = some 0 ∧ angled.pae.phiL = some 70) ∧
    (({ angled with pae.lidAge := some 4 } : State).freshAngle = false ∧ angled.blk.link ≠ .absent) ∧
    (boot.freshAngle = false ∧ boot.blk.link = .absent) ∧ ((1000 : Int) ≤ 1003 ∧ (976 : Int) < 977) := by decide +kernel

theorem witness_PeriodExpiryStartsALidRead :
    let s := { boot with pae.periodTimer := 20 }
    s.spm.hub ≠ .deep ∧ (if s.spm.hub = .run then s.post.periodRun else s.post.periodDoze) ≤ s.pae.periodTimer ∧
    ({ boot with pae.expiryDue := true } : State).pae.expiryDue = true := by decide +kernel

theorem witness_LidReadEndsInAnEvaluation :
    let s (n : Nat) : State := waits .posture { docked with pae.lidRead := some n }
    let six : State := { s 2 with tables.posture.pending := defaultPosture.set 1 [6, 25, 165, 315, 45, 5, 200, 1, 1] }
    ((s 2).pae.lidRead = some 2 ∧ (s 2).tables.posture.awaiting = true ∧ 2 ≤ 2) ∧ ((s 3).pae.lidRead = some 3 ∧ 2 < 3) ∧
    ((s 1).pae.lidRead = some 1 ∧ 1 < 2) ∧
    ((s 2).pae.record.row = some 1 ∧ 1 ≤ (postureGlobals (s 2).tables.posture.pending).rowCount ∧
      (postureRow (s 2).tables.posture.pending 1).posture = (s 2).posture) ∧
    ((postureRow six.tables.posture.pending 1).posture ≠ six.posture ∧ (postureRow six.tables.posture.pending 6).posture = six.posture ∧
      ∀ r < 6, 1 ≤ r → (postureRow six.tables.posture.pending r).posture ≠ six.posture) ∧
    (∀ r < 7, 1 ≤ r → (postureRow (s 2).tables.posture.pending r).posture ≠ .closed) := by decide +kernel

theorem witness_ClassificationProposesAndAdopts :
    let at' (theta : Nat) : State := { docked with pae.hinge := ⟨.fresh, some theta, some 0⟩ }
    let cand : State := { docked with ticks := 300, pae.candidate := some ⟨.flat, some 2, 0⟩ }
    boot.blk.link = .absent ∧ (docked.blk.link ≠ .absent ∧ hallProposal true false = some .closed) ∧
    (hallProposal docked.pae.hallF docked.pae.hallR = none ∧ docked.pae.hinge.status ≠ .fresh) ∧
    ((20 : Nat) ≤ (at' 20).post.amb ∧ 360 - (at' 20).post.amb ≤ 340) ∧
    ((at' 170).post.amb < 170 ∧ 170 < 360 - (at' 170).post.amb ∧ (at' 170).currentRowHolds 170 0 = true) ∧
    ((at' 171).currentRowHolds 171 0 = false ∧ ((at' 171).postRow 2).holds 171 0 = true ∧
      ((at' 171).postRow 1).holds 171 0 = false ∧ 2 ≤ (at' 171).post.rowCount) ∧
    ((at' 335).currentRowHolds 210 0 = false ∧ ∀ r < 7, 1 ≤ r → ((at' 335).postRow r).holds 210 0 = false) ∧
    ((cand.ticks - 0).toNat = 300 ∧ (cand.postRow 2).dwell ≤ 300 ∧ 299 < (cand.postRow 2).dwell ∧ cand.posture ≠ .flat ∧
      cand.posture = .laptop) ∧
    (docked.proposal = none ∧ ({ docked with pae.hallF := true } : State).proposal = some (.closed, none, .hall)) ∧
    ((315 : Nat) < 360 ∧ (360 : Int) ≤ ((179 : Int) - 180) % 360 + 1 + 2 * 0 ∧ ((45 : Int) - 315) % 360 + 1 + 2 * 5 < 360) := by
  decide +kernel

theorem witness_RotationIsHeldLockedOrFree :
    let row (p : Posture) (r : Nat) : State := { docked with pae.record := ⟨p, some r, true, 0⟩ }
    let free : State :=
      { row .flat 2 with pae.lidFilter := some ⟨900, 500, 0⟩, pae.lidAge := some 0, pae.psi := some 61 }
    boot.posture = .detached ∧
    (docked.pae.record.row = some 1 ∧ (docked.postRow 1).rotation = .lock0) ∧
    ((row .stand 3).pae.record.row = some 3 ∧ ((row .stand 3).postRow 3).rotation ≠ .lock180) ∧
    ((row .flat 2).posture = .flat ∧ ((row .flat 2).postRow 2).rotation = .free) ∧
    (free.rotationProposal = some .r90 ∧ free.pae.psi = some 61) ∧ (row .flat 2).rotationProposal = none ∧ 359 < 360 := by decide +kernel

theorem witness_TickCountsAndSamples :
    boot.blk.link = .absent ∧ docked.blk.link ≠ .absent ∧ docked.blk.link ≠ .attaching ∧
    ({ boot with blk.link := .attaching } : State).blk.link = .attaching := by decide

/-! ### Witnesses: the base link and the poll scheduler -/

theorem witness_PresenceIsConfirmedAndLost :
    let s := { boot with blk.link := .attaching, blk.presentCount := 20 }
    let t := { docked with blk.absentCount := 2, upq.entries := [⟨.report (.power ⟨50, true⟩), false⟩] }
    (s.blk.link = .attaching ∧ 20 ≤ s.blk.presentCount ∧ s.spm.hub ≠ .deep ∧ ({ s with spm.hub := .deep } : State).spm.hub = .deep) ∧
    (t.blk.link ≠ .absent ∧ 2 ≤ t.blk.absentCount ∧ t.dlu.state ≠ .absent ∧
      ∃ e, e ∈ t.upq.entries ∧ e.isReport = true) := by
  refine ⟨by decide +kernel, by decide +kernel, by decide +kernel, by decide +kernel, ⟨_, List.mem_singleton.mpr rfl, rfl⟩⟩

theorem witness_TransactionsStartWithTheChoice :
    let owed : State := { docked with psc.owed := [0, 0, 1, 0, 0, 0, 0, 0, 0, 0, 0, 0] }
    let writes : State := { owed with psc.writes := [⟨.light, [1]⟩] }
    let early : State := { writes with psc.owed := [0, 1, 1, 0, 0, 0, 0, 0, 0, 0, 0, 0] }
    (owed.spm.hub ≠ .deep ∧ owed.tables.schedule.awaiting = false ∧ owed.blk.txn = none ∧
      owed.blk.low.any LineLow.unjudged = false ∧ owed.blk.link = .running ∧
      owed.choice = some (readTxn .pointer .m1 8) ∧ 12 * (readTxn .pointer .m1 8).rate.tbit ≤ 384) ∧
    (({ boot with blk.link := .identify } : State).blk.link = .identify ∧ 12 * LinkRate.k250.tbit ≤ 1536) ∧
    (({ boot with blk.link := .fault, blk.retryDue := true } : State).blk.retryDue = true) ∧
    (readTxn .pointer .m1 8).deadline = none ∧
    (2 < owed.sched.slotCount ∧ owed.eligible 2 = true ∧ owed.eligible 1 = false ∧ owed.eligible 0 = false ∧
      BaseFn.ofNumber (owed.slot 2).fn = some .pointer ∧ owed.psc.writes = []) ∧
    (early.eligible 1 = true ∧ early.eligible 0 = false ∧ 1 < early.sched.writeRank) ∧
    (writes.psc.writes = ⟨.light, [1]⟩ :: [] ∧ writes.sched.writeRank ≤ 2) ∧
    ((∀ j < docked.sched.slotCount, docked.eligible j = false) ∧ docked.psc.writes = []) ∧
    ((∀ j < docked.sched.slotCount, ({ writes with psc.owed := docked.psc.owed } : State).eligible j = false)) := by decide +kernel

/-- A transaction that receives. -/
def receiving (w : Txn) (s : State) : State := { s with blk.txn := some { w with deadline := some 140 } }

theorem witness_AnswersAreReceivedAndChecked :
    let poll : Txn := readTxn .button .m1 2
    let id : Txn := idRead
    (receiving poll docked).blk.txn = some { poll with deadline := some 140 } ∧ 140 * poll.rate.tbit ≤ 140 * LinkRate.tbit .m1 ∧
    ((2 : Byte).toNat ≤ poll.limit ∧ (2 : Byte).toNat ≤ 32 ∧ 5 ≤ (5 : Byte).toNat ∧ (5 : Byte).toNat ≤ id.limit) ∧
    ([0xBE] : List Byte).length < (2 : Byte).toNat ∧ (2 : Byte).toNat ≤ ([0xBE, 0xEF] : List Byte).length ∧
    crc8 [2, 0xBE, 0xEF] = 0xD4 ∧ poll.write = false ∧ poll.fn ≠ .id ∧ id.fn = .id ∧
    (writeTxn ⟨.light, [1]⟩ .m1).write = true ∧ (writeTxn ⟨.light, [1]⟩ .m1).fn ≠ .id ∧
    (docked.dlu.state ≠ .absent ∧ boot.dlu.state = .absent ∧ boot.pins.lsns = false ∧
      ({ boot with blk.link := .identify } : State).blk.link = .identify ∧ ({ boot with blk.link := .fault } : State).blk.link ≠ .identify) := by
  decide +kernel

theorem witness_AFailedTransactionCountsItsError :
    let poll : Txn := readTxn .button .m1 2
    let s (n : Nat) : State := { docked with blk.txn := some poll, blk.consecutive := n }
    let i (n : Nat) : State := { boot with blk.link := .identify, blk.attempts := n, blk.txn := some idRead }
    ((s 2).blk.txn = some poll ∧ poll.deadline = none ∧ poll.fn ≠ .id ∧ min ((s 2).blk.consecutive + 1) 15 < (s 2).sched.failLimit) ∧
    ((s 3).sched.failLimit ≤ min ((s 3).blk.consecutive + 1) 15) ∧
    ((i 1).blk.link = .identify ∧ (i 1).blk.attempts + 1 < 3 ∧ 3 ≤ (i 2).blk.attempts + 1 ∧ idRead.fn = .id) ∧
    ({ i 0 with blk.link := .fault } : State).blk.link ≠ .identify ∧
    ((receiving poll docked).blk.txn = some { poll with deadline := some 140 } ∧ 140 * LinkRate.m1.tbit ≤ 4480 ∧
      4480 ≤ 140 * LinkRate.m1.tbit) ∧
    ((0x5A : Byte) ≠ 0xA5 ∧ poll.limit < (3 : Byte).toNat ∧ (idRead.fn = .id ∧ (4 : Byte).toNat < 5)) ∧
    crc8 [2, 0xBE, 0xEF] ≠ 0xD6 := by decide +kernel

theorem witness_LowsAndRetriesActByLinkState :
    let low (l : LinkState) (w : LineLow) : State := { docked with blk.link := l, blk.low := some w, pins.bdq := false }
    let retry : State := { boot with blk.link := .fault, blk.retryTimer := some 100 }
    (retry.blk.retryTimer = some 100 ∧ retry.blk.link = .fault ∧ 100 ≤ 100) ∧
    (docked.blk.link = .running ∧ docked.blk.txn = none ∧ docked.blk.low = none) ∧
    ((low .running ⟨true, 1, false, 0⟩).blk.low = some ⟨true, 1, false, 0⟩ ∧ (low .identify ⟨true, 1, false, 0⟩).blk.link = .identify ∧
      (low .listen ⟨true, 1, false, 0⟩).blk.link = .listen ∧ (low .fault ⟨true, 1, false, 0⟩).blk.link = .fault ∧
      (low .fault ⟨true, 1, false, 0⟩).spm.hub ≠ .deep ∧ ({ low .fault ⟨true, 1, false, 0⟩ with spm.hub := .deep } : State).spm.hub = .deep) ∧
    ((low .running ⟨true, 0, false, 0⟩).blk.low = some ⟨true, 0, false, 0⟩ ∧ 0 ≤ 1) ∧
    ((low .running ⟨true, 50, true, 0⟩).blk.low = some ⟨true, 50, true, 0⟩ ∧ 50 * (0 + 1) ≤ 50 ∧ 50 * (1 + 1) ≤ 100) ∧
    (({ low .identify ⟨false, 50, false, 0⟩ with blk.attempts := 1 } : State).blk.attempts + 1 < 3 ∧
      3 ≤ ({ low .identify ⟨false, 50, false, 0⟩ with blk.attempts := 2 } : State).blk.attempts + 1) ∧
    ((low .running ⟨true, 1, false, 0⟩).pins.bdq = false ∧
      ({ low .running ⟨true, 1, false, 0⟩ with pins.bdq := true } : State).pins.bdq = true) ∧
    (0 < docked.sched.slotCount ∧ (docked.slot 0).fn = 5 ∧ docked.capable 0 = true ∧ boot.capable 0 = false) ∧
    ∀ i < 0, (({ docked with tables.schedule.active := defaultSchedule.set 0 [0, 16, 4, 2, 20] } : State).slot i).fn ≠ 5 := by
  decide +kernel

theorem witness_DueTimesAreOwedAndSwapsClearThem :
    let s (owed : Nat) : State := { docked with
      psc.due := [0, 4, 0, 0, 0, 0, 0, 0, 0, 0, 0, 0], psc.owed := [0, owed, 0, 0, 0, 0, 0, 0, 0, 0, 0, 0] }
    (1 < 12 ∧ (s 7).dueRuns 1 = true ∧ (s 7).duePeriod 1 ≤ (s 7).psc.due.getD 1 0 ∧ (s 7).owed 1 < ((s 7).slot 1).maxOwed) ∧
    (((s 8).slot 1).maxOwed ≤ (s 8).owed 1) ∧ (docked.spm.hub = .run ∧ asleep.spm.hub = .doze) ∧
    ((waits .schedule docked).tables.schedule.awaiting = true ∧ (waits .schedule docked).blk.txn = none) := by decide +kernel

/-! ### Witnesses: routing and the upward queue -/

/-- A queue with a number of base reports. -/
def reports (n : Nat) : State := { boot with upq.entries := List.replicate n ⟨.report (.power ⟨50, true⟩), false⟩ }

theorem witness_ResponsesAreRoutedByAction :
    let p (x : Int) (b : BitVec 3) : Report := .pointer x 0 0 b
    let q : State := { boot with upq.entries := [⟨.report (p 1900 0), false⟩] ++ ⟨.report (p 5 1), false⟩ :: [⟨.notice (.event .por 1), false⟩] }
    (readReport .button [2, 0] = none ∧ readReport .button [1, 0] = some (.button true false) ∧
      readReport .button [0, 0] = some (.button false false) ∧
      readReport .power [50, 1] = some (.power ⟨50, true⟩) ∧ readReport .motion [0, 0, 0, 0, 0, 4] = some (.motion ⟨0, 0, 1024⟩) ∧
      readReport .keys [30, 1] = some (.keys [(30, true)]) ∧ readReport .pointer [1, 0, 0, 0, 0, 0] = some (.pointer 1 0 0 0)) ∧
    (([(127, true)] : List (Nat × Bool)) ≠ [] ∧ (∀ e ∈ ([(127, true)] : List (Nat × Bool)), e.1 < 128) ∧
      16 < (List.replicate 18 (0 : Byte)).length ∧ (List.replicate 3 (0 : Byte)).length % 2 = 1 ∧
      ([] : List Byte).length % 2 = 0 ∧ 128 ≤ (128 : Byte).toNat ∧ 2 ≤ (2 : Byte).toNat ∧ ([0] : List Byte).length ≠ 6 ∧
      ([0] : List Byte).length ≠ 2) ∧
    ((reports 21).upq.reports < 22 ∧ 22 ≤ (reports 22).upq.reports) ∧
    (q.upq.entries = [⟨.report (p 1900 0), false⟩] ++ ⟨.report (p 5 1), false⟩ :: [⟨.notice (.event .por 1), false⟩] ∧
      (⟨.notice (.event .por 1), false⟩ : Entry).isReport = false) ∧
    (∀ e ∈ (reports 2).upq.entries, (match e.content with
      | .report r => r.isPointer
      | _ => false) = false) := by decide +kernel

theorem witness_EachNoticeKindHasOnePlace :
    let e : Entry := ⟨.notice (.event .por 1), false⟩
    (Upq.entries ⟨[], [], 0⟩).all (fun e => !e.isNotice .event) = true ∧
    boot.upq.entries = [] ++ e :: [] ∧ e.isNotice .event = true ∧ boot.upq.notices .event = 1 ∧ e.started = false ∧
    (⟨e.content, true⟩ : Entry).started = true ∧ boot.upq.followOn.all (fun m => m.kind != .event) = true ∧
    (Upq.entries ⟨[⟨e.content, true⟩], [.event .por 254], 0⟩).all (fun e => !e.isNotice .event || e.started) = true ∧
    Upq.followOn ⟨[⟨e.content, true⟩], [.event .por 254], 0⟩ = [] ++ .event .por 254 :: [] ∧
    boot.upq.entries = [] ++ ⟨.notice (.event .por 1), false⟩ :: [] := by decide +kernel

theorem witness_FramesLeaveInOrder :
    let s (c : Content) (f : List Notice) : State := { boot with upq := ⟨[⟨c, true⟩], f, 1⟩, slk.tx := some [] }
    (boot.upq.entries = ⟨.notice (.event .por 1), false⟩ :: [] ∧ boot.slk.tx = none ∧ boot.spm.hub ≠ .deep ∧
      boot.slk.resetAll ≠ .replySent) ∧
    (s (.report (.power ⟨50, true⟩)) []).slk.tx = some [] ∧ (s (.reply ⟨0x41, .ok, [], false⟩) []).slk.tx = some [] ∧
    (s (.notice (.event .por 1)) []).upq.followOn.find? (fun m => m.kind == .event) = none ∧
    (s (.notice (.event .por 1)) [.event .baseFault 1]).upq.followOn.find? (fun m => m.kind == .event) =
      some (.event .baseFault 1) := by decide +kernel

/-! ### Witnesses: the latch -/

theorem witness_LatchTimersEndWhatTheyTime :
    let at' (d : DetachState) : State := { docked with
      dlu.state := d, dlu.requestTimer := some ⟨2000, 2000⟩, dlu.pulseTimer := some ⟨250, 250⟩
      dlu.windowTimer := some ⟨3000, 3000⟩, dlu.holdTimer := some ⟨4000, 4000⟩, dlu.button := .pressed }
    ((at' .requested).dlu.state = .requested ∧ timerDone (at' .requested).dlu.requestTimer = true) ∧
    (timerDone (at' .latched).dlu.holdTimer = true ∧ (at' .latched).dlu.button = .pressed ∧ (at' .latched).dlu.state = .latched ∧
      (at' .latched).posture ≠ .closed) ∧
    ((at' .released).dlu.state ≠ .latched ∧ (at' .released).dlu.state ≠ .requested) ∧
    (timerDone (at' .releasing).dlu.pulseTimer = true ∧ timerDone (at' .released).dlu.windowTimer = true) ∧
    (at' .released).pins.lsns = false ∧ ({ at' .releasing with pins.lsns := true } : State).pins.lsns = true ∧
    ({ at' .latched with spm.hub := .deep } : State).spm.hub = .deep := by decide +kernel

theorem witness_ButtonAndPostureActOnTheLatch :
    let closed (d : DetachState) : State := { docked with pae.record := ⟨.closed, none, false, 0⟩, dlu.state := d }
    (docked.dlu.button ≠ .pressed ∧ docked.dlu.state = .latched ∧ docked.posture ≠ .closed ∧ docked.pae.record.permission = true) ∧
    ({ docked with dlu.button := .pressed } : State).dlu.button = .pressed ∧ boot.dlu.state ≠ .latched ∧
    ((closed .requested).posture = .closed ∧ (closed .requested).dlu.state = .requested ∧ (closed .releasing).dlu.state = .releasing) ∧
    ((closed .latched).dlu.state = .latched ∧ (closed .latched).pae.record.permission = false) := by decide +kernel

/-! ### Witnesses: the charger and the decoder -/

/-- The charger in a state, with every timer run out. -/
def charger (c : ChargerState) : State :=
  { charging with
    pch.state := c, pch.waitTimer := some ⟨500, 500⟩, pch.burstTimer := some ⟨20, 20⟩, pch.stageTimer := some ⟨1000, 1000⟩
    pch.packetTimer := some ⟨150, 150⟩, pch.recheckTimer := some ⟨60000, 60000⟩ }

theorem witness_ChargerTimersMoveTheCharger :
    let paused (s : State) : State := { s with pch.pauses := ⟨true, false, false, false, false⟩ }
    (timerDone (charger .wait).pch.waitTimer = true ∧ timerDone (charger .ident).pch.burstTimer = true ∧
      timerDone (charger .charge).pch.stageTimer = true ∧ timerDone (charger .charge).pch.packetTimer = true ∧
      timerDone (charger .done).pch.recheckTimer = true) ∧
    (({ charger .ident with pch.attempts := 2 } : State).chg.identAttempts ≤ min (2 + 1) 7 ∧
      min (1 + 1) 7 < (charger .ident).chg.identAttempts ∧ (charger .ident).pch.pauses.none = true ∧
      (paused (charger .ident)).pch.pauses.none = false) ∧
    (({ charger .charge with pch.timeouts := 1 } : State).pch.timeouts + 1 < 3 ∧
      3 ≤ ({ charger .charge with pch.timeouts := 2 } : State).pch.timeouts + 1) ∧
    ((charger .done).pch.pauses.none = true ∧ (paused (charger .done)).pch.pauses.none = false) := by decide +kernel

theorem witness_ResonanceDecidesTheBurst :
    let s (edges : Nat) (start : Option Stamp) : State := { charging with
      pch.state := .ident, bcd.mode := .resonance, bcd.edges := edges, bcd.startStamp := start, pch.checkTicks := some 2 }
    ((s 0 none).bcd.mode = .resonance ∧ (s 0 none).pch.blanking ≠ .inForce ∧ (s 0 none).bcd.edges < 16 ∧
      (s 0 none).bcd.startStamp = none) ∧
    ((s 14 (some 65000)).bcd.startStamp = some 65000 ∧ (s 14 (some 65000)).bcd.edges + 1 < 16) ∧
    ((s 15 (some 65000)).bcd.edges = 15 ∧ (s 15 (some 65000)).chg.resonanceLo ≤ ((2964 : Stamp).toNat + 65536 - (65000 : Stamp).toNat) % 65536 ∧
      ((4164 : Stamp).toNat + 65536 - (65000 : Stamp).toNat) % 65536 ≤ (s 15 (some 65000)).chg.resonanceHi) ∧
    (((2963 : Stamp).toNat + 65536 - (65000 : Stamp).toNat) % 65536 < (s 15 none).chg.resonanceLo ∧
      (s 15 none).chg.resonanceHi < ((4165 : Stamp).toNat + 65536 - (65000 : Stamp).toNat) % 65536 ∧
      (s 15 none).pch.state.drives = true) ∧
    ((s 0 none).pch.state = .ident ∧ (s 0 none).pch.checkTicks = some 2 ∧ 2 ≤ 2) := by decide +kernel

/-- The driver of a charging pen follows charger and blanking, while it runs and while blanking holds it off. -/
theorem charging_driver_ok :
    charging.DriverOk ∧ (waits .charge charging).DriverOk ∧
    ({ charging with pch.blanking := .inForce, pch.driver := .initial } : State).DriverOk :=
  ⟨⟨by decide +kernel, by decide +kernel, by decide +kernel⟩, ⟨by decide +kernel, by decide +kernel, by decide +kernel⟩,
    ⟨by decide +kernel, by decide +kernel, by decide +kernel⟩⟩

/-- Both forms of a waiting entry and change meet `DriverOk`, running and stopped by blanking. -/
theorem witness_BoundariesTakeUpWhatWaitsAndSwap_driver :
    let w (e : Bool) (s : State) : State := { s with pch.waiting := some ⟨2, e⟩ }
    ∀ e : Bool, (w e charging).DriverOk ∧ (w e (waits .charge charging)).DriverOk ∧
      (w e { charging with pch.blanking := .inForce, pch.driver := .initial }).DriverOk := by
  obtain ⟨⟨a, b, c⟩, ⟨a', b', c'⟩, ⟨a'', b'', c''⟩⟩ := charging_driver_ok
  exact fun _ => ⟨⟨a, b, c⟩, ⟨a', b', c'⟩, ⟨a'', b'', c''⟩⟩

theorem witness_BoundariesTakeUpWhatWaitsAndSwap :
    let w (e : Bool) : State := { charging with pch.waiting := some ⟨2, e⟩ }
    let stopped : State := waits .charge boot
    let stepped : State := { waits .charge charging with pch.stepped := true }
    ((waits .charge (w true)).tables.charge.awaiting = true ∧ (waits .charge (w true)).pch.stepped = false ∧
      (waits .charge (w true)).pch.blanking ≠ .requested ∧ (w true).tables.charge.awaiting = false) ∧
    (charging.pch.driver.running = true ∧ ¬(charging.tables.charge.awaiting = true ∧ charging.pch.stepped = true) ∧
      charging.pch.waiting = none ∧ charging.pch.blanking ≠ .requested) ∧
    ({ charging with pch.blanking := .requested } : State).pch.blanking = .requested ∧
    ((w true).pch.waiting = some ⟨2, true⟩ ∧ (w false).pch.waiting = some ⟨2, false⟩ ∧ (w true).pch.pen.isSome = true ∧
      (w true).pch.pauses.none = true ∧
      10 ≤ min ((w true).stage 2).currentLimit (min (w true).spm.supply (w true).spm.cap - (w true).spm.latchClaim)) ∧
    (stopped.tables.charge.awaiting = true ∧ stopped.pch.driver.running = false) ∧
    (stepped.tables.charge.awaiting = true ∧ stepped.pch.stepped = true ∧ stepped.pch.driver.running = true ∧
      (waits .charge charging).pch.stepped = false ∧
      (waits .charge charging).pch.driver.running = true) := by decide +kernel

theorem witness_ReasonsPauseAndResumeTheCharger :
    let hot : Pauses := ⟨true, false, false, false, false⟩
    let paused : State := { charger .paused with pch.pauses := hot }
    (charging.pch.pauses.raises hot = true ∧ charging.pch.state = .charge ∧ charging.Calm ∧ ¬(waits .charge charging).Calm) ∧
    (paused.pch.state = .paused ∧ Pauses.empty ≠ paused.pch.pauses ∧ Pauses.empty.none = true ∧ paused.Calm) ∧
    (hot ≠ boot.pch.pauses ∧ boot.pch.state = .off) ∧
    ({ hot with sleep := true } ≠ paused.pch.pauses ∧ ({ hot with sleep := true } : Pauses).none = false) ∧
    (({ charging with pch.pauses := hot } : State).pch.pauses.raises .empty = false ∧ charging.pch.state ≠ .paused) ∧
    ((PowerReport.mk 20 false).external = false ∧ 20 ≤ (PowerReport.mk 20 false).battery ∧ (PowerReport.mk 19 false).battery < 20 ∧
      (PowerReport.mk 5 true).external = true) := by
  unfold State.Calm
  decide +kernel

theorem witness_APenComesAndGoes :
    boot.pch.enable = true ∧ boot.pch.state = .off ∧ ({ boot with pch.enable := false } : State).pch.enable = false ∧
    (deep.spm.hub = .deep ∧ deep.row.chargeInSleep = true) ∧
    (asleep.row.wakeMask.getLsbD WakeSource.penInsert.index = true ∧ asleep.row.wakeMask.getLsbD WakeSource.penRemove.index = true ∧
      asleep.spm.system = .asleep ∧ asleep.spm.hub ≠ .deep) ∧
    ({ asleep with spm.system := .waking, spm.hub := .run } : State).spm.system = .waking ∧
    ({ boot with spm.system := .advised } : State).spm.system = .advised := by decide +kernel

theorem witness_PacketsActByKindAndState :
    let ident (k : BurstKind) : State := { charging with pch.state := .ident, pch.burstKind := k, pch.penIdMark := true }
    let last : State := { charging with pch.pen := charging.pch.pen.map fun p => { p with stage := some 2 } }
    (charging.pch.pen = some ⟨some 7, some 20, some 0, some 1, 0, 0⟩ ∧ charging.pch.state.drives = true) ∧
    ((ident .full).pch.state = .ident ∧ (ident .full).pch.burstKind = .full ∧ (ident .full).pch.penIdMark = true) ∧
    ((ident .recheck).pch.burstKind = .recheck ∧ min (89 : Byte).toNat 100 < (ident .recheck).chg.rechargeLevel ∧
      (ident .recheck).chg.rechargeLevel ≤ min (90 : Byte).toNat 100) ∧
    ((charging.stage charging.stageInForce).levelHi ≤ min (80 : Byte).toNat 100 ∧ charging.stageInForce + 1 < charging.chg.stageCount) ∧
    (min (79 : Byte).toNat 100 < (charging.stage charging.stageInForce).levelHi ∧
      ({ ident .full with pch.penIdMark := false } : State).pch.penIdMark = false) ∧
    ((last.stage last.stageInForce).levelHi ≤ min (100 : Byte).toNat 100 ∧ last.chg.stageCount ≤ last.stageInForce + 1) := by
  decide +kernel

/-- A level of 20 reaches stages 0 and 1 of the default image; a level of 0 reaches none of an image whose one stage starts at 5. -/
theorem witness_PacketsActByKindAndState_stage :
    let reached (img : Image) (level i : Nat) : Prop := i < (chargeGlobals img).stageCount ∧ (stageRow img i).levelLo ≤ level
    let high : Image := (defaultCharge.set 0 (defaultCharge.row 0 |>.set 0 1)).set 1 [5, 20, 40, 120, 120, 3600]
    (reached defaultCharge 20 1 ∧ ∀ j, reached defaultCharge 20 j → j ≤ 1) ∧ ∀ i, ¬reached high 0 i := by
  refine ⟨⟨by decide +kernel, fun j hj => ?_⟩, fun i hi => ?_⟩
  · have count : j < 3 := hj.1
    have two : ¬(stageRow defaultCharge 2).levelLo ≤ 20 := by decide +kernel
    by_contra h
    obtain rfl : j = 2 := by omega
    exact two hj.2
  · have count : i < 1 := hi.1
    obtain rfl : i = 0 := by omega
    exact absurd hi.2 (by decide +kernel)

theorem witness_IntervalsBitsAndPreambleAreDecoded :
    boot.bcd.decoder = .hunt ∧ ({ boot with bcd.decoder := .preamble, bcd.ones := 6 } : State).bcd.decoder = .preamble ∧ 6 ≤ 6 ∧ 5 < 6 ∧
    ({ boot with bcd.decoder := .data } : State).bcd.decoder = .data ∧ boot.bcd.bitCount < 23 ∧
    ({ boot with bcd.bitCount := 23 } : State).bcd.bitCount = 23 := by
  decide

theorem witness_EdgesMakeAndBreakPackets :
    let s (half : Bool) : State := { charging with
      bcd.decoder := .data, bcd.bitCount := 23, bcd.acc := 0x720F02, bcd.reference := some 65500, bcd.half := half }
    let n (stamp : Stamp) : Nat := (stamp.toNat + 65536 - (65500 : Stamp).toNat) % 65536
    boot.bcd.mode ≠ .edge ∧ ({ charging with pch.blanking := .inForce } : State).pch.blanking = .inForce ∧
    ((⟨true, 16⟩ : BciChange).level ≠ charging.pins.bci ∧ 16 ≤ (⟨true, 16⟩ : BciChange).held ∧ (⟨true, 15⟩ : BciChange).held < 16 ∧
      (⟨false, 16⟩ : BciChange).level = charging.pins.bci) ∧
    (charging.bcd.mode = .edge ∧ charging.pch.blanking ≠ .inForce ∧ charging.bcd.reference = none) ∧
    ((s true).bcd.reference = some 65500 ∧ n 152 = 188 ∧ symbolOf (s true).bcd.half (classOf (n 152)) = .bit true ∧
      symbolOf (s false).bcd.half (classOf (n 589)) = .bit false) ∧
    ((s true).bcd.decoder = .data ∧ (s true).bcd.bitCount = 23 ∧ ({ s true with bcd.bitCount := 22 } : State).bcd.bitCount < 23 ∧
      (0xF20F02 : BitVec 24).extractLsb' 16 8 = ~~~((0x02 : Byte) ^^^ 0x0F) ∧
      (0x720F02 : BitVec 24).extractLsb' 16 8 ≠ ~~~((0x02 : Byte) ^^^ 0x0F)) ∧
    (n 589 = 625 ∧ n 589 < 626 ∧ symbolOf (s true).bcd.half (classOf (n 589)) = .violation) ∧ 626 ≤ n 590 := by decide +kernel

/-! ### Witnesses: sleep and power -/

theorem witness_PowerTimersAndSrdyAct :
    let idle : State := { docked with spm.activityTimer := 300000 }
    (idle.spm.system = .awake ∧ 0 < idle.row.idleTimeout ∧ idle.row.idleTimeout * 1000 ≤ idle.spm.activityTimer) ∧
    timerDone ({ boot with spm.wakeTimer := some ⟨10, 10⟩ } : State).spm.wakeTimer = true ∧ boot.spm.system = .awake ∧
    (deep.spm.system = .asleep ∧ deep.spm.hub = .deep) ∧ (asleep.spm.system = .asleep ∧ asleep.spm.hub ≠ .deep) ∧
    ({ docked with spm.system := .waking } : State).spm.system = .waking ∧ asleep.row.adviseOnEntry = true ∧
    ({ asleep with spm.system := .awake } : State).spm.system = .awake ∧ docked.row.adviseOnEntry = false ∧
    ({ docked with spm.system := .advised } : State).spm.system = .advised := by decide +kernel

theorem witness_DeepIsEnteredAndLeft :
    let started (awake : Bool) (cause : ByteSet) : State :=
      { deep with spm.clock := some ⟨2, awake⟩, spm.wakeCause := cause }
    (asleep.deepReady = true ∧ asleep.DriverOk) ∧ (started true 0).spm.clock = some ⟨2, true⟩ ∧ 2 ≤ 2 ∧ (started true 0).blk.link = .listen ∧
    ((started false 0x20).spm.clock = some ⟨2, false⟩ ∧ (started false 0x20).spm.wakeCause ≠ 0) ∧
    ({ started false 0 with blk.link := .fault } : State).blk.link ≠ .listen ∧ (started false 0).spm.wakeCause = 0 ∧
    (started false 0).dlu.state ≠ .absent := by
  refine ⟨⟨by decide +kernel, by decide +kernel, by decide +kernel, by decide +kernel⟩, ?_⟩
  decide +kernel

theorem witness_WakeSourcesActByTheMask :
    boot.spm.system = .awake ∧ (deep.spm.system = .asleep ∧ deep.spm.hub = .deep) ∧
    (asleep.spm.hub ≠ .deep ∧ asleep.row.wakeMask.getLsbD WakeSource.keys.index = false ∧
      asleep.row.wakeMask.getLsbD WakeSource.lidOpen.index = true) ∧
    ({ asleep with spm.system := .waking, spm.hub := .run } : State).spm.system = .waking := by decide +kernel

/-! ### Witnesses: the system link and its requests -/

theorem witness_FramesAreReceivedCharacterByCharacter :
    let f (st : FramerState) (bs : List Byte) (due : Nat) : State :=
      { boot with slk.framer := ⟨st, bs.map fun b => ⟨b, true, 0⟩, due⟩ }
    let check := f .check [0xA5, 0x41, 1, 1] 0
    check.slk.framer.lapsed check.slk.rate 0 = false ∧ boot.slk.framer.state = .hunt ∧
    ((f .payload [0xA5, 0x41, 2] 2).slk.framer.due = 2 ∧ (f .payload [0xA5, 0x41, 1] 1).slk.framer.due = 1) ∧
    ((60 : Byte).toNat ≤ 60 ∧ 60 < (61 : Byte).toNat ∧ (60 : Byte) ≠ 0) ∧
    (crc8 ((check.slk.framer.kept.drop 1).map RxChar.value) = 0x3A ∧ check.slk.down.length < 2) ∧
    2 ≤ ({ check with slk.down := [⟨0x41, [1]⟩, ⟨0x41, [2]⟩] } : State).slk.down.length ∧
    (check.slk.framer.kept.getLast? = some ⟨1, true, 0⟩ ∧ 0 + check.slk.rate.charTime + 100000 ≤ 110000 ∧
      check.slk.framer.lapsed check.slk.rate 110001 = true) := by decide +kernel

theorem witness_RequestsWaitAndAreChecked :
    let full : State := { asked boot 0x41 [1] with upq.placesTaken := 2 }
    let ended : State := { asked boot 0x41 [1] with slk.resetAll := .replyQueued }
    (full.slk.down = ⟨0x41, [1]⟩ :: [] ∧ 2 ≤ full.upq.placesTaken) ∧ (ended.slk.down = ⟨0x41, [1]⟩ :: [] ∧ ended.slk.resetAll ≠ .idle) ∧
    ((asked boot 0x3F []).offers ⟨0x3F, []⟩ [] ∧ (0x3F : Byte).toNat < 0x40) ∧
    ((asked boot 0x4B []).offers ⟨0x4B, []⟩ [] ∧ 0x4A < (0x4B : Byte).toNat) ∧
    ((asked boot 0x40 [1, 1]).offers ⟨0x40, [1, 1]⟩ [] ∧ ([1, 1] : List Byte).length < 3) ∧
    ((asked boot 0x44 [6]).offers ⟨0x44, [6]⟩ [] ∧ ([6] : List Byte).length < 2) ∧
    ((asked boot 0x45 [0]).offers ⟨0x45, [0]⟩ [] ∧ ([0] : List Byte).length ≠ 0) := by
  unfold State.offers
  decide +kernel

theorem witness_QueriesAnswerAndClear :
    let ask (subject option : Byte) : State := asked boot 0x43 [subject, option]
    ((ask 6 0).offers ⟨0x43, [6, 0]⟩ [] ∧ 6 ≤ (6 : Byte).toNat) ∧
    ((ask 4 1).offers ⟨0x43, [4, 1]⟩ [] ∧ Subject.ofCode (4 : Byte).toNat = some .converter ∧ Subject.converter ≠ .counters ∧
      (((ask 4 1).taken []).page .converter 1).isSome = true) ∧
    ((ask 4 2).offers ⟨0x43, [4, 2]⟩ [] ∧ ((ask 4 2).taken []).page .converter 2 = none) ∧
    ((ask 5 0xFE).offers ⟨0x43, [5, 0xFE]⟩ [] ∧ (0xFE : Byte).getLsbD 0 = false) ∧
    ((ask 5 1).offers ⟨0x43, [5, 1]⟩ [] ∧ (1 : Byte).getLsbD 0 = true) := by
  unfold State.offers
  decide +kernel

theorem witness_TablesAreWrittenAndRead :
    let write (s : State) (n first count : Byte) (rows : List Byte) : State := asked s 0x40 (n :: first :: count :: rows)
    let read (n which first count : Byte) : State := asked boot 0x42 [n, which, first, count]
    let row : List Byte := [1, 1, 1, 1, 2, 1, 1, 0]
    ((write boot 7 1 1 row).offers ⟨0x40, 7 :: 1 :: 1 :: row⟩ [] ∧ TableId.ofNumber (7 : Byte).toNat = none) ∧
    ((write boot 1 0 1 row).offers ⟨0x40, 1 :: 0 :: 1 :: row⟩ [] ∧ ¬TableId.route.holds 0 1 ∧ ¬TableId.route.holds 5 2) ∧
    ((write boot 1 5 1 []).offers ⟨0x40, [1, 5, 1]⟩ [] ∧ TableId.route.holds 5 1 ∧ ([] : List Byte).length ≠ rowsLength .route 5 1) ∧
    ((write (waits .schedule boot) 3 1 1 [1, 1, 1, 1, 1, 1, 1, 1]).offers ⟨0x40, [3, 1, 1, 1, 1, 1, 1, 1, 1, 1, 1]⟩ [] ∧
      rowsLength .schedule 1 1 = 8 ∧ (waits .schedule boot).tables.schedule.awaiting = true) ∧
    ((write boot 1 1 1 row).offers ⟨0x40, 1 :: 1 :: 1 :: row⟩ [] ∧ row.length = rowsLength .route 1 1 ∧
      boot.tables.route.awaiting = false ∧ 1 < boot.tables.route.pending.length) ∧
    ((read 2 2 1 1).offers ⟨0x42, [2, 2, 1, 1]⟩ [] ∧ (2 : Byte) ≠ 0 ∧ (2 : Byte) ≠ 1) ∧
    ((read 2 1 0 5).offers ⟨0x42, [2, 1, 0, 5]⟩ [] ∧ TableId.posture.holds 0 5 ∧ 54 < rowsLength .posture 0 5) ∧
    ((read 2 1 1 3).offers ⟨0x42, [2, 1, 1, 3]⟩ [] ∧ TableId.posture.holds 1 3 ∧ rowsLength .posture 1 3 ≤ 54) := by
  unfold State.offers TableId.holds
  decide +kernel

theorem witness_CommitsValidateAndSwapOrWait :
    let commit (n : Byte) (s : State) : State := asked s 0x41 [n]
    let bad : State := { boot with tables.route.pending := defaultRoute.set 3 [1, 1, 1, 1, 2, 1, 1, 0] }
    ((commit 0 boot).offers ⟨0x41, [0]⟩ [] ∧ TableId.ofNumber (0 : Byte).toNat = none) ∧
    ((commit 2 (waits .posture boot)).offers ⟨0x41, [2]⟩ [] ∧ (commit 2 (waits .posture boot)).tables.posture.awaiting = true) ∧
    ((commit 1 bad).offers ⟨0x41, [1]⟩ [] ∧ bad.tables.route.awaiting = false ∧ firstBadRow .route bad.tables.route.pending = some 3) ∧
    ((commit 1 boot).offers ⟨0x41, [1]⟩ [] ∧ firstBadRow .route boot.tables.route.pending = none) ∧
    ((commit 6 asleep).offers ⟨0x41, [6]⟩ [] ∧ firstBadRow .policy asleep.tables.policy.pending = none ∧
      asleep.tables.policy.awaiting = false ∧ asleep.spm.system = .asleep) ∧
    ((commit 5 charging).offers ⟨0x41, [5]⟩ [] ∧ firstBadRow .charge charging.tables.charge.pending = none ∧
      charging.tables.charge.awaiting = false ∧ charging.pch.driver.running = true ∧ boot.pch.driver.running = false) ∧
    ((commit 6 deep).offers ⟨0x41, [6]⟩ [] ∧ deep.spm.system = .asleep ∧ deep.spm.hub = .deep ∧
      ({ deep with pch.pen := some PenRecord.fresh } : State).pch.pen.isSome = true ∧
      (policyRow deep.tables.policy.pending deep.posture).chargeInSleep = true ∧
      (policyRow deep.tables.policy.pending .laptop).depth = .doze) ∧
    ((commit 2 boot).offers ⟨0x41, [2]⟩ [] ∧ boot.tables.posture.awaiting = false ∧
      firstBadRow .posture boot.tables.posture.pending = none) := by
  unfold State.offers
  decide +kernel

theorem witness_BaseWritesAreCheckedAndQueued :
    let ask (s : State) (n l : Byte) (data : List Byte) : State := asked s 0x44 (n :: l :: data)
    let full : State := { docked with psc.writes := List.replicate 8 ⟨.light, []⟩ }
    let plain : State := { docked with blk.record := some ⟨0x3A10, 4, 0x3E, .m1⟩ }
    ((ask docked 5 0 []).offers ⟨0x44, [5, 0]⟩ [] ∧ (5 : Byte) ≠ 6 ∧ (5 : Byte) ≠ 7) ∧
    ((ask docked 6 33 []).offers ⟨0x44, [6, 33]⟩ [] ∧ 32 < (33 : Byte).toNat) ∧
    ((ask docked 7 1 []).offers ⟨0x44, [7, 1]⟩ [] ∧ ([] : List Byte).length ≠ (1 : Byte).toNat) ∧
    ((ask boot 6 1 [9]).offers ⟨0x44, [6, 1, 9]⟩ [] ∧ (ask boot 6 1 [9]).blk.link ≠ .running) ∧
    ((ask plain 6 1 [9]).offers ⟨0x44, [6, 1, 9]⟩ [] ∧ (ask plain 6 1 [9]).blk.link = .running ∧
      (plain.blk.record.any fun r => r.capability.getLsbD 6) = false) ∧
    ((ask full 6 0 []).offers ⟨0x44, [6, 0]⟩ [] ∧ full.blk.link = .running ∧ 8 ≤ full.psc.writes.length) ∧
    ((ask docked 6 32 (List.replicate 32 9)).offers ⟨0x44, 6 :: 32 :: List.replicate 32 9⟩ [] ∧ docked.blk.link = .running ∧
      (docked.blk.record.any fun r => r.capability.getLsbD 6) = true ∧ docked.psc.writes.length < 8) := by
  unfold State.offers
  decide +kernel

theorem witness_DetachRequestsActByState :
    let at' (d : DetachState) (kind : Byte) : State := asked { docked with dlu.state := d } kind []
    let late : State := { at' .latched 0x45 with dlu.timedOut := true }
    let closed : State := asked asleep 0x47 []
    ((at' .requested 0x45).offers ⟨0x45, []⟩ [] ∧ (at' .requested 0x45).dlu.state = .requested) ∧
    (late.offers ⟨0x45, []⟩ [] ∧ late.dlu.state ≠ .requested ∧ late.dlu.timedOut = true) ∧
    ((at' .latched 0x45).offers ⟨0x45, []⟩ [] ∧ (at' .latched 0x45).dlu.state ≠ .requested ∧ (at' .latched 0x45).dlu.timedOut = false) ∧
    ((at' .requested 0x46).offers ⟨0x46, []⟩ [] ∧ (at' .released 0x46).offers ⟨0x46, []⟩ [] ∧ (at' .released 0x46).dlu.state ≠ .requested) ∧
    ((at' .latched 0x47).offers ⟨0x47, []⟩ [] ∧ (at' .latched 0x47).dlu.state = .latched ∧ (at' .latched 0x47).posture ≠ .closed ∧
      (at' .latched 0x47).posture ≠ .unknown ∧ (at' .latched 0x47).pae.record.permission = true) ∧
    (closed.offers ⟨0x47, []⟩ [] ∧ closed.dlu.state = .latched ∧ closed.posture = .closed) ∧
    (∀ e ∈ (at' .requested 0x45).upq.entries, e.isNotice .detach = false) ∧
    ((at' .requested 0x47).offers ⟨0x47, []⟩ [] ∧ (at' .releasing 0x47).offers ⟨0x47, []⟩ [] ∧ (at' .absent 0x47).offers ⟨0x47, []⟩ [] ∧
      (at' .absent 0x47).dlu.state = .absent) := by
  unfold State.offers
  decide +kernel

theorem witness_ChargeControlSetsCapThenEnable :
    let off : State := asked charging 0x48 [0, 0xE8, 3]
    let on : State := asked { boot with pch.enable := false, pch.pen := some PenRecord.fresh } 0x48 [1, 0xE9, 3]
    ((asked boot 0x48 [2, 0, 0]).offers ⟨0x48, [2, 0, 0]⟩ [] ∧ (2 : Byte) ≠ 0 ∧ (2 : Byte) ≠ 1) ∧
    ((asked boot 0x48 [1, 0, 0]).offers ⟨0x48, [1, 0, 0]⟩ [] ∧ boot.pch.enable = ((1 : Byte) == 1)) ∧
    (off.offers ⟨0x48, [0, 0xE8, 3]⟩ [] ∧ off.pch.enable = true ∧ off.pch.state ≠ .off) ∧
    (on.offers ⟨0x48, [1, 0xE9, 3]⟩ [] ∧ on.pch.enable = false ∧ on.pch.state = .off ∧ on.pch.pen.isSome = true) := by
  unfold State.offers
  decide +kernel

theorem witness_SystemStateSleepsAndWakes :
    let sleep (d : Byte) : State := asked docked 0x49 [1, d]
    let wake (s : State) : State := asked s 0x49 [0, 7]
    ((sleep 2).offers ⟨0x49, [1, 2]⟩ [] ∧ 2 ≤ (2 : Byte).toNat ∧ (asked docked 0x49 [2, 0]).offers ⟨0x49, [2, 0]⟩ []) ∧
    ((sleep 0).offers ⟨0x49, [1, 0]⟩ [] ∧ (sleep 1).offers ⟨0x49, [1, 1]⟩ [] ∧ (sleep 1).spm.system = .awake) ∧
    ((asked deep 0x49 [1, 0]).offers ⟨0x49, [1, 0]⟩ [] ∧ deep.spm.system = .asleep ∧ deep.spm.hub = .deep ∧ docked.spm.hub ≠ .doze) ∧
    ((wake docked).offers ⟨0x49, [0, 7]⟩ [] ∧ (wake docked).spm.system = .awake) ∧
    ((wake deep).offers ⟨0x49, [0, 7]⟩ [] ∧ (wake deep).spm.system = .asleep ∧ (wake deep).spm.hub = .deep) ∧
    ((wake asleep).offers ⟨0x49, [0, 7]⟩ [] ∧ (wake asleep).spm.system = .asleep ∧ (wake asleep).spm.hub ≠ .deep) ∧
    (wake { docked with spm.system := .waking }).spm.system = .waking := by
  unfold State.offers
  decide +kernel

theorem witness_ResetsClearWhatTheyName :
    ((asked docked 0x4A [0]).offers ⟨0x4A, [0]⟩ [] ∧ (asked docked 0x4A [1]).offers ⟨0x4A, [1]⟩ [] ∧
      (asked docked 0x4A [2]).offers ⟨0x4A, [2]⟩ [] ∧ (2 : Byte) ≠ 0 ∧ (2 : Byte) ≠ 1) ∧
    ({ docked with slk.resetAll := .replySent } : State).slk.resetAll = .replySent ∧
    (docked.LatchOk ∧ docked.dlu.state ≠ .absent) := by
  unfold State.offers
  refine ⟨by decide +kernel, rfl, ⟨by decide +kernel, by decide +kernel, by decide +kernel, by decide +kernel, by decide +kernel,
    by decide +kernel, by decide +kernel, by decide +kernel⟩, by decide +kernel⟩

/-! ### Witnesses: what every step keeps -/

/-- Reset meets the bounds of the queue, and a step follows it. -/
theorem witness_EveryStepKeepsTheQueue : boot.QueueOk ∧ ∃ t, step boot = .next t := by
  refine ⟨⟨by decide +kernel, fun k => by cases k <;> decide +kernel, by decide +kernel, by decide +kernel, ?_, by decide +kernel, ?_, ?_⟩,
    _, rfl⟩
  · intro e he
    exact absurd he (List.not_mem_nil)
  · exact List.Pairwise.nil
  · intro m hm
    exact absurd hm (List.not_mem_nil)

theorem boot_images_ok : boot.ImagesOk :=
  ⟨fun t => by cases t <;> decide +kernel, fun t h => by cases t <;> exact absurd h (by decide +kernel), by decide +kernel⟩

theorem witness_EveryStepKeepsImagesAndCounters : boot.ImagesOk ∧ boot.CountersOk ∧ ∃ t, step boot = .next t := by
  refine ⟨boot_images_ok, ⟨fun k => by cases k <;> decide +kernel, ?_, ?_⟩, _, rfl⟩ <;> (intro p hp; exact absurd hp (by rintro ⟨⟩))

theorem witness_EveryStepKeepsDriverAndLatch :
    boot.DriverOk ∧ boot.LatchOk ∧ boot.ConverterOk ∧ ∃ t, step boot = .next t :=
  ⟨⟨by decide +kernel, by decide +kernel, by decide +kernel⟩, ⟨by decide +kernel, by decide +kernel, by decide +kernel, by decide +kernel,
    by decide +kernel, by decide +kernel, by decide +kernel, by decide +kernel⟩,
    ⟨by decide +kernel, by decide +kernel, by decide +kernel, by decide +kernel, by decide +kernel, by decide +kernel, by decide +kernel,
      by decide +kernel, by decide +kernel, by decide +kernel⟩, _, rfl⟩

/-- A scan that converts channel 3, a blank-coil channel, with the blanking in force and the charger in CHARGE. -/
theorem witness_EveryStepKeepsDriverAndLatch_scan :
    let s : State := { charging with
      pch.blanking := .inForce, pch.driver := .initial, cnv.slotS := .scanning, cnv.todo := [3, 4] }
    s.DriverOk ∧ s.ConverterOk ∧ s.cnv.slotS = .scanning ∧ s.cnv.todo = 3 :: [4] ∧ (s.chanRow 3).blankCoil = true :=
  ⟨⟨by decide +kernel, by decide +kernel, by decide +kernel⟩,
    ⟨by decide +kernel, by decide +kernel, by decide +kernel, by decide +kernel, by decide +kernel, by decide +kernel, by decide +kernel,
      by decide +kernel, by decide +kernel, by decide +kernel⟩, by decide +kernel, by decide +kernel, by decide +kernel⟩

/-- A charging pen meets the charger's invariants, and those under which `EveryStepKeepsDriverAndLatch` keeps the duty in its range. -/
theorem witness_EveryStepKeepsTheCharger :
    let s : State := { charging with pae.hallF := false, spm.penClaim := 250 }
    s.ImagesOk ∧ s.DriverOk ∧ s.SensesOk ∧ s.PausesOk ∧ s.DutyOk ∧ s.ChargerOk ∧ ∃ t, step s = .next t := by
  have images := boot_images_ok
  have driver := charging_driver_ok.1
  refine ⟨⟨images.1, images.2, images.3⟩, ⟨driver.1, driver.2, driver.3⟩,
    ⟨by decide +kernel, by decide +kernel, by decide +kernel, by decide +kernel, by decide +kernel⟩,
    ⟨by decide +kernel, by decide +kernel, by decide +kernel, by decide +kernel, by decide +kernel, by decide +kernel⟩,
    ⟨by decide +kernel, by decide +kernel, by decide +kernel, by decide +kernel, by decide +kernel, ?_, ?_⟩,
    ⟨by decide +kernel, by decide +kernel, by decide +kernel, by decide +kernel, by decide +kernel, by decide +kernel, by decide +kernel,
      by decide +kernel, ?_, by decide +kernel, by decide +kernel, by decide +kernel⟩, _, rfl⟩
  · intro i _ hi
    obtain rfl : 1 = i := Option.some.inj hi
    decide +kernel
  · intro w hw
    exact absurd hw (by rintro ⟨⟩)
  · intro w hw
    exact absurd hw (by rintro ⟨⟩)

theorem witness_EveryStepKeepsThePowerStates : deep.PowerOk ∧ ∃ t, step deep = .next t :=
  ⟨⟨by decide +kernel, by decide +kernel, by decide +kernel, by decide +kernel, by decide +kernel, by decide +kernel, by decide +kernel,
    by decide +kernel⟩, _, rfl⟩

theorem witness_EveryStepKeepsTheBaseLink : boot.ImagesOk ∧ boot.PollsOk ∧ boot.LinkOk ∧ ∃ t, step boot = .next t := by
  refine ⟨boot_images_ok, ⟨by decide +kernel, by decide +kernel, ?_, by decide +kernel, ?_⟩,
    ⟨by decide +kernel, by decide +kernel, by decide +kernel, by decide +kernel, by decide +kernel, ?_⟩, _, rfl⟩
  · intro i
    have zero : boot.owed i = 0 := by
      rcases Nat.lt_or_ge i 12 with h | h
      · interval_cases i <;> rfl
      · exact List.getD_eq_default _ _ h
    omega
  · intro w hw
    exact absurd hw (List.not_mem_nil)
  · intro t ht
    exact absurd ht (by rintro ⟨⟩)

theorem witness_EveryStepKeepsTheAngles : boot.AnglesOk ∧ ∃ t, step boot = .next t := by
  refine ⟨⟨?_, ?_, ?_, ?_, by decide +kernel, by decide +kernel, ?_, ?_, ?_, ?_, ?_, ?_, ?_⟩, _, rfl⟩ <;> (intro x hx; exact absurd hx (by rintro ⟨⟩))

theorem witness_ThePostureIsDetachedExactlyWithoutABase : boot.ImagesOk ∧ boot.LinkOk ∧ boot.PostureOk ∧ ∃ t, step boot = .next t :=
  ⟨boot_images_ok, witness_EveryStepKeepsTheBaseLink.2.2.1, ⟨by decide +kernel⟩, _, rfl⟩

theorem witness_RowsAndTheirEncodingsAgree :
    (boot.tables.charge.active.row 1).length = (fieldsOf .charge 1).length ∧
    (∀ p ∈ (fieldsOf .charge 1).zip (boot.tables.charge.active.row 1), p.2 < 256 ^ p.1.width) ∧
    (List.replicate 10 (0xFF : Byte)).length = rowLength .charge 1 ∧ fieldsOk .charge 1 (boot.tables.charge.active.row 1) = true := by
  decide +kernel

end Sys2Proof.Tests
end

section
/-!
PROOFS. What the charger's transitions and the converter's hand-overs can do to the tables and the converter, said once for each; the
rules of a scan's readings by their cases; and from both the statement about a scan's end (O10).
-/

namespace Sys2Proof.Machine

/-! ### What the charger's transitions and the hand-overs leave of the tables and the converter -/

/-- R135, R11: every table stands but for the CHARGE swap of a stopping driver, and the converter stands but for the blanking request
that it had postponed while the decoder was in DATA. -/
structure State.SwapsAtMost (s t : State) : Prop where
  tables : s.TablesStand t
  cnv : t.cnv = s.cnv ∨ (s.cnv.slotS = .deferring ∧ t.cnv = { s.cnv with slotS := .blankWait })

theorem State.SwapsAtMost.of_eq {s t : State} (tables : t.tables = s.tables) (cnv : t.cnv = s.cnv) : s.SwapsAtMost t :=
  ⟨.inl tables, .inl cnv⟩

theorem State.SwapsAtMost.refl (s : State) : s.SwapsAtMost s := .of_eq rfl rfl

/-- A swap leaves no CHARGE table that awaits one, so tables that stand twice stand altogether. -/
theorem State.TablesStand.trans {s t u : State} (h : s.TablesStand t) (h' : t.TablesStand u) : s.TablesStand u := by
  rcases h with h | ⟨awaits, h⟩
  · rcases h' with h' | ⟨awaits', h'⟩
    · exact .inl (h'.trans h)
    · exact .inr ⟨h ▸ awaits', by rw [h', State.chargeSwapped, State.chargeSwapped, h]⟩
  · rcases h' with h' | ⟨awaits', _⟩
    · exact .inr ⟨awaits, h'.trans h⟩
    · simp [h, State.chargeSwapped] at awaits'

theorem State.SwapsAtMost.trans {s t u : State} (h : s.SwapsAtMost t) (h' : t.SwapsAtMost u) : s.SwapsAtMost u := by
  refine ⟨h.tables.trans h'.tables, ?_⟩
  rcases h.cnv with e | ⟨deferring, e⟩
  · rcases h'.cnv with e' | ⟨deferring', e'⟩
    · exact .inl (e'.trans e)
    · exact .inr ⟨e ▸ deferring', by rw [e', e]⟩
  · rcases h'.cnv with e' | ⟨deferring', _⟩
    · exact .inr ⟨deferring, e'.trans e⟩
    · simp [e] at deferring'

/-- The relation reads the tables and the converter alone, so a state that shares them with its first state may replace it. -/
theorem State.SwapsAtMost.left {s t u : State} (h : u.SwapsAtMost t) (tables : u.tables = s.tables) (cnv : u.cnv = s.cnv) :
    s.SwapsAtMost t := (State.SwapsAtMost.of_eq tables cnv).trans h

/-- A state that shares the tables and the converter with the second state of the relation may replace that one. -/
theorem State.SwapsAtMost.right {s t u : State} (h : s.SwapsAtMost t) (tables : u.tables = t.tables) (cnv : u.cnv = t.cnv) :
    s.SwapsAtMost u := h.trans (.of_eq tables cnv)

/-- Outside DEFERRING no request is postponed, and the whole converter stands. -/
theorem State.SwapsAtMost.cnv_eq {s t : State} (h : s.SwapsAtMost t) (ready : s.cnv.slotS ≠ .deferring) : t.cnv = s.cnv :=
  h.cnv.resolve_right fun d => ready d.1

theorem State.penNotice_swapsAtMost (s : State) : s.SwapsAtMost s.penNotice := .of_eq (by simp) (by simp)

theorem State.activity_swapsAtMost (s : State) (change : Bool) : s.SwapsAtMost (s.activity change) := .of_eq (by simp) (by simp)

theorem State.leaveDeep_swapsAtMost (s : State) : s.SwapsAtMost s.leaveDeep := .of_eq (by simp) (by simp)

theorem State.capture_swapsAtMost (s : State) (m : CaptureMode) : s.SwapsAtMost (s.capture m) := by
  refine ⟨.inl (by simp), ?_⟩
  rcases s.capture_cases m with ⟨_, e⟩ | ⟨_, e⟩ <;> rw [e]
  · rcases ({ s with bcd := s.bcd.cleared m } : State).dataLeft_cases with ⟨d, e⟩ | ⟨_, e⟩ <;> rw [e]
    · exact .inr ⟨d, rfl⟩
    · exact .inl rfl
  · exact .inl rfl

theorem State.enterCharger_swapsAtMost (s : State) (c : ChargerState) : s.SwapsAtMost (s.enterCharger c) := by
  rcases s.enterCharger_cases c with ⟨_, _, e⟩ | ⟨_, e⟩ <;> rw [e]
  · exact (State.capture_swapsAtMost _ .off).left rfl rfl
  · exact .of_eq rfl rfl

section
variable (go : State → ChargerState → State) (change : ∀ (s : State) c, s.SwapsAtMost (go s c))
include change

theorem State.toPausedBy_swapsAtMost (s : State) : s.SwapsAtMost (s.toPausedBy go) := (change _ .paused).left rfl rfl

theorem State.toWaitBy_swapsAtMost (s : State) : s.SwapsAtMost (s.toWaitBy go) :=
  (change s .wait).right (by simp [State.toWaitBy]) (by simp [State.toWaitBy])

theorem State.setPausesBy_swapsAtMost (s : State) (q : Pauses) : s.SwapsAtMost (s.setPausesBy go q) := by
  rcases s.setPausesBy_cases go q with ⟨_, e⟩ | ⟨_, _, _, e⟩ | ⟨_, _, _, e⟩ | ⟨_, _, _, e⟩ <;> rw [e]
  · exact .refl s
  · refine State.SwapsAtMost.trans ?_ (State.penNotice_swapsAtMost _)
    exact (State.toPausedBy_swapsAtMost go change _).left rfl rfl
  · exact (State.toWaitBy_swapsAtMost go change _).left rfl rfl
  · exact .of_eq (by simp) (by simp)

theorem State.rebudgetBy_swapsAtMost (s : State) (p : Spm) : s.SwapsAtMost (s.rebudgetBy go p) := by
  rcases s.rebudgetBy_cases go p with ⟨_, _, e⟩ | ⟨_, e⟩ <;> rw [e]
  · exact .of_eq rfl rfl
  · exact (State.setPausesBy_swapsAtMost go change _ _).left rfl rfl

end

theorem State.swapStopped_swapsAtMost {s : State} (awaits : s.tables.charge.awaiting = true) : s.SwapsAtMost s.swapStopped := by
  have swapped : s.SwapsAtMost (s.swapTable .charge) := ⟨.inr ⟨awaits, rfl⟩, .inl rfl⟩
  exact swapped.trans ((State.rebudgetBy_swapsAtMost _ State.enterCharger_swapsAtMost _ _).left rfl rfl)

theorem State.toCharger_swapsAtMost (s : State) (c : ChargerState) : s.SwapsAtMost (s.toCharger c) := by
  have entered := s.enterCharger_swapsAtMost c
  rcases s.toCharger_cases c with ⟨_, _, awaits, e⟩ | ⟨_, e⟩ <;> rw [e]
  · exact entered.trans (State.swapStopped_swapsAtMost (by simpa using awaits))
  · exact entered

theorem State.setPauses_swapsAtMost (s : State) (q : Pauses) : s.SwapsAtMost (s.setPauses q) :=
  State.setPausesBy_swapsAtMost _ State.toCharger_swapsAtMost s q

theorem State.handLimit_swapsAtMost (s : State) : s.SwapsAtMost s.handLimit :=
  State.rebudgetBy_swapsAtMost _ State.toCharger_swapsAtMost s _

theorem State.judgeSleep_swapsAtMost (s : State) : s.SwapsAtMost s.judgeSleep := s.setPauses_swapsAtMost _

theorem State.waitFromOff_swapsAtMost (s : State) : s.SwapsAtMost s.waitFromOff := by
  unfold State.waitFromOff
  dsimp only
  split
  · exact (State.toWaitBy_swapsAtMost _ State.toCharger_swapsAtMost _).left rfl rfl
  · exact (State.toPausedBy_swapsAtMost _ State.toCharger_swapsAtMost _).left rfl rfl

theorem State.toWaking_swapsAtMost (s : State) : s.SwapsAtMost s.toWaking :=
  (State.judgeSleep_swapsAtMost s.intoWaking.wakeNotice).left (by simp) (by simp)

theorem State.wakeSource_swapsAtMost (s : State) (w : WakeSource) : s.SwapsAtMost (s.wakeSource w) := by
  rcases s.wakeSource_cases w with ⟨_, e⟩ | ⟨_, _, _, e⟩ | ⟨_, _, _, e⟩ | ⟨_, _, _, e⟩ | ⟨_, _, e⟩ | ⟨_, _, _, _, e⟩ <;> rw [e]
  · exact .refl s
  · exact .of_eq (by simp) (by simp)
  · exact .of_eq (by simp) (by simp)
  · exact (State.toWaking_swapsAtMost _).left rfl rfl
  · exact .of_eq (by simp) (by simp)
  · exact .refl s

theorem State.limitNoticed_swapsAtMost (s : State) : s.SwapsAtMost s.handLimit.penNotice :=
  s.handLimit_swapsAtMost.trans (State.penNotice_swapsAtMost _)

/-- R137, R138: what an insertion and a removal both tell SPM: a wake source, an activity and the charge that SLEEP goes by. -/
theorem State.penTold_swapsAtMost (s : State) (w : WakeSource) :
    s.SwapsAtMost (((s.wakeSource w).activity false).judgeSleep).leaveDeep :=
  (s.wakeSource_swapsAtMost w).trans <|
    (State.activity_swapsAtMost _ false).trans <| (State.judgeSleep_swapsAtMost _).trans (State.leaveDeep_swapsAtMost _)

theorem State.penInserted_swapsAtMost (s : State) : s.SwapsAtMost s.penInserted := by
  have noticed : s.SwapsAtMost ({ s with pch.pen := some .fresh } : State).handLimit.penNotice :=
    (State.limitNoticed_swapsAtMost _).left rfl rfl
  have told := noticed.trans (State.penTold_swapsAtMost _ .penInsert)
  unfold State.penInserted
  dsimp only
  split
  · exact told.trans (State.waitFromOff_swapsAtMost _)
  · exact told

theorem State.penRemoved_swapsAtMost (s : State) : s.SwapsAtMost s.penRemoved := by
  refine State.SwapsAtMost.trans ?_ (State.penTold_swapsAtMost _ .penRemove)
  refine State.SwapsAtMost.trans ?_ (State.limitNoticed_swapsAtMost _)
  exact (s.toCharger_swapsAtMost .off).right rfl rfl

theorem State.hallToSpm_swapsAtMost (s : State) (active : Bool) : s.SwapsAtMost (s.hallToSpm active) := by
  unfold State.hallToSpm
  dsimp only
  split
  · exact (State.wakeSource_swapsAtMost _ .lidOpen).left rfl rfl
  · exact .of_eq rfl rfl

theorem State.inform_swapsAtMost (s : State) (ch : Nat) : s.SwapsAtMost (s.inform ch) := by
  unfold State.inform
  dsimp only
  split
  · exact s.setPauses_swapsAtMost _
  · exact s.setPauses_swapsAtMost _
  · exact (State.hallToSpm_swapsAtMost _ _).left rfl rfl
  · exact .of_eq rfl rfl
  · split
    · exact s.penInserted_swapsAtMost
    · exact s.penRemoved_swapsAtMost
  · exact .refl s

theorem State.informAll_swapsAtMost (s : State) (chs : List Nat) : s.SwapsAtMost (s.informAll chs) := by
  unfold State.informAll
  induction chs generalizing s with
  | nil => exact .refl s
  | cons ch chs ih => exact (s.inform_swapsAtMost ch).trans (ih (s.inform ch))

/-! ### The readings of a scan: R14 and R16 by their cases -/

section
variable (row : ChannelRow) (state : WindowState) (count reading : Nat)

/-- R14: the side of the window's bounds that a reading lies on. -/
def ChannelRow.side : WindowState := if row.low ≤ reading ∧ reading ≤ row.high then .inside else .outside

theorem ChannelRow.side_ne_unset : row.side reading ≠ .unset := by
  unfold ChannelRow.side
  split <;> simp

theorem debounceStep_unset : debounceStep row .unset count reading = (row.side reading, 0) := rfl

theorem debounceStep_side : debounceStep row (row.side reading) count reading = (row.side reading, 0) := by
  change (if row.side reading = .unset then _ else if row.side reading = row.side reading then _ else _) = _
  rw [if_neg (row.side_ne_unset reading), if_pos rfl]

variable {row state count reading}

theorem debounceStep_counts (set : state ≠ .unset) (other : state ≠ row.side reading) (more : count + 1 < row.debounce) :
    debounceStep row state count reading = (state, count + 1) :=
  (if_neg set).trans ((if_neg other).trans (if_neg (Nat.not_le.mpr more)))

theorem debounceStep_moves (set : state ≠ .unset) (other : state ≠ row.side reading) (enough : row.debounce ≤ count + 1) :
    debounceStep row state count reading = (row.side reading, 0) :=
  (if_neg set).trans ((if_neg other).trans (if_pos enough))

end

theorem State.updateWindow_eq {s : State} {ch : Nat} (taking : ch ≠ 7) (watched : (s.chanRow ch).mode ≠ .off) (v : Nat) :
    let moved := debounceStep (s.chanRow ch) (s.cnv.window ch) (s.cnv.debounce.getD ch 0) v
    s.updateWindow ch v =
      { s with cnv.windows := s.cnv.windows.set ch moved.1, cnv.debounce := s.cnv.debounce.set ch moved.2 } :=
  if_neg (not_or.mpr ⟨taking, watched⟩)

theorem State.updateWindow_apart {s : State} {ch : Nat} (apart : ch = 7 ∨ (s.chanRow ch).mode = .off) (v : Nat) :
    s.updateWindow ch v = s := if_pos apart

theorem State.updateWindow_cnv (s : State) (ch v : Nat) :
    ∃ windows debounce, (s.updateWindow ch v).cnv = { s.cnv with windows := windows, debounce := debounce } := by
  by_cases apart : ch = 7 ∨ (s.chanRow ch).mode = .off
  · exact ⟨_, _, congrArg State.cnv (State.updateWindow_apart apart v)⟩
  · obtain ⟨taking, watched⟩ := not_or.mp apart
    rw [State.updateWindow_eq taking watched v]
    exact ⟨_, _, rfl⟩

/-- R14: the window update of a whole scan touches window states and debounce counters alone. -/
theorem State.updateWindow_foldl_cnv (readings : List (Nat × Nat)) (s : State) :
    ∃ windows debounce, (readings.foldl (fun u p => u.updateWindow p.1 p.2) s).cnv =
      { s.cnv with windows := windows, debounce := debounce } := by
  induction readings generalizing s with
  | nil => exact ⟨_, _, rfl⟩
  | cons p readings ih =>
    obtain ⟨_, _, first⟩ := s.updateWindow_cnv p.1 p.2
    obtain ⟨w, d, later⟩ := ih (s.updateWindow p.1 p.2)
    exact ⟨w, d, by rw [List.foldl_cons, later, first]⟩

/-- R16: a VREF reading outside its bounds. -/
def State.vrefOut (s : State) (v : Nat) : Prop := v < (s.chanRow 7).low ∨ (s.chanRow 7).high < v

theorem State.judgeVref_unwatched {s : State} (unwatched : (s.chanRow 7).mode = .off) (v : Nat) : s.judgeVref (some v) = s :=
  if_pos unwatched

section
variable {s : State} {v : Nat} (watched : (s.chanRow 7).mode ≠ .off)
include watched

theorem State.judgeVref_out (out : s.vrefOut v) :
    s.judgeVref (some v) = if s.cnv.fault then s else ({ s with cnv.fault := true } : State).event .converterFault :=
  (if_neg watched).trans (if_pos out)

theorem State.judgeVref_within (within : ¬s.vrefOut v) :
    s.judgeVref (some v) =
      if s.cnv.fault then { s with cnv.fault := false, cnv.debounce := List.replicate 8 0 } else s :=
  (if_neg watched).trans (if_neg within)

end

/-- R16: the judgement touches the converter fault and the debounce counters alone, and the counters only where it clears the fault. -/
theorem State.judgeVref_cnv (s : State) (reading : Option Nat) :
    ∃ fault debounce, (s.judgeVref reading).cnv = { s.cnv with fault := fault, debounce := debounce } ∧
      (fault = true → debounce = s.cnv.debounce) := by
  cases reading with
  | none => exact ⟨_, _, rfl, fun _ => rfl⟩
  | some v =>
    by_cases unwatched : (s.chanRow 7).mode = .off
    · rw [State.judgeVref_unwatched unwatched]
      exact ⟨_, _, rfl, fun _ => rfl⟩
    · by_cases out : s.vrefOut v
      · rw [State.judgeVref_out unwatched out]
        cases fault : s.cnv.fault
        · exact ⟨true, _, rfl, fun _ => rfl⟩
        · exact ⟨_, _, rfl, fun _ => rfl⟩
      · rw [State.judgeVref_within unwatched out]
        cases fault : s.cnv.fault
        · exact ⟨_, _, rfl, fun _ => rfl⟩
        · exact ⟨false, _, rfl, nofun⟩

/-! ### The end of a scan -/

theorem State.serveHeld_eq (s : State) :
    s.serveHeld =
      if s.pch.driver.running then { s with cnv.held := none, cnv.slotC := .converting }
      else ({ s with cnv.held := none } : State).bump .droppedC := rfl

theorem State.serveHeld_cnv (s : State) : ∃ slotC, s.serveHeld.cnv = { s.cnv with held := none, slotC := slotC } := by
  rw [State.serveHeld_eq]
  split
  · exact ⟨_, rfl⟩
  · exact ⟨s.cnv.slotC, by simp⟩

/-- R13: the state with the scan's readings stored and slot S idle. -/
def State.scanStored (s : State) (readings : List (Nat × Nat)) : State :=
  ({ s with cnv.slotS := .idle, cnv.todo := [], cnv.readings := [] } : State).storeReadings readings

/-- R16: the state after that with VREF judged. -/
def State.scanJudged (s : State) (readings : List (Nat × Nat)) : State :=
  (s.scanStored readings).judgeVref ((readings.find? fun p => p.1 == 7).map (·.2))

/-- R14: the state after the judgement with every reading's window moved. -/
def State.scanUpdated (s : State) (readings : List (Nat × Nat)) : State :=
  readings.foldl (fun u p => u.updateWindow p.1 p.2) (s.scanJudged readings)

/-- R15, R16: the state after the update with the readers of every changed channel informed, unless the fault withholds both. -/
def State.scanTold (s : State) (readings : List (Nat × Nat)) : State :=
  if (s.scanJudged readings).cnv.fault then s.scanJudged readings
  else (s.scanUpdated readings).informAll
    ((List.range 8).filter fun c => (s.scanJudged readings).cnv.window c != (s.scanUpdated readings).cnv.window c)

theorem State.completeScan_eq (s : State) (readings : List (Nat × Nat)) :
    s.completeScan readings =
      if (s.scanTold readings).cnv.held = some .forScan then (s.scanTold readings).serveHeld else s.scanTold readings := rfl

section
variable (s : State) (readings : List (Nat × Nat))

theorem State.scanJudged_cnv :
    ∃ fault debounce, (s.scanJudged readings).cnv =
      { (s.scanStored readings).cnv with fault := fault, debounce := debounce } ∧ (fault = true → debounce = s.cnv.debounce) :=
  (s.scanStored readings).judgeVref_cnv _

theorem State.scanUpdated_cnv :
    ∃ windows debounce, (s.scanUpdated readings).cnv =
      { (s.scanJudged readings).cnv with windows := windows, debounce := debounce } :=
  State.updateWindow_foldl_cnv readings _

theorem State.scanUpdated_slotS : (s.scanUpdated readings).cnv.slotS = .idle := by
  obtain ⟨_, _, updated⟩ := s.scanUpdated_cnv readings
  obtain ⟨_, _, judged, _⟩ := s.scanJudged_cnv readings
  rw [updated, judged]
  rfl

/-- R15: informing the readers leaves the converter alone, since slot S is idle by then. -/
theorem State.scanTold_cnv :
    (s.scanTold readings).cnv =
      if (s.scanJudged readings).cnv.fault then (s.scanJudged readings).cnv else (s.scanUpdated readings).cnv := by
  unfold State.scanTold
  split
  · rfl
  · exact (State.informAll_swapsAtMost _ _).cnv_eq (by simp [s.scanUpdated_slotS readings])

theorem State.completeScan_cnv :
    ∃ held slotC, (s.completeScan readings).cnv = { (s.scanTold readings).cnv with held := held, slotC := slotC } := by
  rw [State.completeScan_eq]
  split
  · obtain ⟨c, served⟩ := (s.scanTold readings).serveHeld_cnv
    exact ⟨none, c, served⟩
  · exact ⟨_, _, rfl⟩

/-- R13, R16: what stands in the converter after a scan's end, whatever the judgement was. -/
theorem State.completeScan_results :
    let t := s.completeScan readings
    t.cnv.slotS = .idle ∧ t.cnv.todo = [] ∧ t.cnv.readings = [] ∧
    t.cnv.resultS = (s.scanStored readings).cnv.resultS ∧ t.cnv.resultC = s.cnv.resultC ∧
    t.cnv.fault = (s.scanJudged readings).cnv.fault := by
  obtain ⟨_, _, completed⟩ := s.completeScan_cnv readings
  obtain ⟨_, _, updated⟩ := s.scanUpdated_cnv readings
  obtain ⟨_, _, judged, _⟩ := s.scanJudged_cnv readings
  have told := s.scanTold_cnv readings
  dsimp only
  rw [completed, told, updated, judged]
  split <;> exact ⟨rfl, rfl, rfl, rfl, rfl, rfl⟩

/-- R16: a fault that stands withholds the window update. -/
theorem State.completeScan_withheld (fault : (s.scanJudged readings).cnv.fault = true) :
    (s.completeScan readings).cnv.windows = s.cnv.windows ∧ (s.completeScan readings).cnv.debounce = s.cnv.debounce := by
  obtain ⟨_, _, completed⟩ := s.completeScan_cnv readings
  obtain ⟨_, _, judged, kept⟩ := s.scanJudged_cnv readings
  have told := (s.scanTold_cnv readings).trans (if_pos fault)
  rw [judged] at fault
  rw [completed, told, judged]
  exact ⟨rfl, kept fault⟩

/-- R14: without it the windows and the counters are the updated ones. -/
theorem State.completeScan_moved (sound : (s.scanJudged readings).cnv.fault = false) :
    (s.completeScan readings).cnv.windows = (s.scanUpdated readings).cnv.windows ∧
    (s.completeScan readings).cnv.debounce = (s.scanUpdated readings).cnv.debounce := by
  obtain ⟨_, _, completed⟩ := s.completeScan_cnv readings
  have told := (s.scanTold_cnv readings).trans (if_neg (by simp [sound]))
  rw [completed, told]
  exact ⟨rfl, rfl⟩

theorem State.scanJudged_tables : (s.scanJudged readings).tables = s.tables := by
  simp [State.scanJudged, State.scanStored]

theorem State.scanUpdated_tables : (s.scanUpdated readings).tables = s.tables :=
  (foldl_keeps _ State.tables (fun _ _ => by simp) readings _).trans (s.scanJudged_tables readings)

theorem State.completeScan_tablesStand : s.TablesStand (s.completeScan readings) := by
  have told : s.TablesStand (s.scanTold readings) := by
    unfold State.scanTold
    split
    · exact .inl (s.scanJudged_tables readings)
    · exact State.TablesStand.trans (.inl (s.scanUpdated_tables readings)) (State.informAll_swapsAtMost _ _).tables
  rw [State.completeScan_eq]
  split
  · exact told.trans (.inl (by simp))
  · exact told

end

/-! ### One conversion of a scan -/

/-- R7, R12: the state with one reading more, the blanking released after the last blank-coil channel. -/
def State.converted (s : State) (ch : Nat) (rest : List Nat) (code : Nat) : State :=
  { s with
    cnv := { s.cnv with todo := rest, readings := s.cnv.readings ++ [(ch, code)] }
    pch :=
      if (s.chanRow ch).blankCoil && !s.needsBlanking rest then ({ s.pch with blanking := .idle } : Pch).settle else s.pch }

theorem State.convert_eq (s : State) (ch : Nat) (rest : List Nat) (code : Nat) :
    s.convert ch rest code =
      if rest.isEmpty then (s.converted ch rest code).completeScan (s.cnv.readings ++ [(ch, code)])
      else s.converted ch rest code := by
  unfold State.convert State.converted
  cases (s.chanRow ch).blankCoil && !s.needsBlanking rest <;> rfl

theorem exec_channelConversionEnd {s : State} {ch : Nat} {rest : List Nat} (scanning : s.cnv.slotS = .scanning)
    (todo : s.cnv.todo = ch :: rest) (code : Fin 4096) :
    exec (.channelConversionEnd code) s = .next (s.convert ch rest code.val) := by
  change execChannelConversionEnd code s = _
  unfold execChannelConversionEnd
  rw [scanning, todo]

/-! ### The readers of the channels -/

theorem State.active_iff (s : State) (ch : Nat) :
    s.active ch = true ↔
      ((s.chanRow ch).mode = .inside ∧ s.cnv.window ch = .inside) ∨
        ((s.chanRow ch).mode = .outside ∧ s.cnv.window ch = .outside) := by
  unfold State.active
  rw [beq_iff_eq]
  cases (s.chanRow ch).mode <;> simp [WindowMode.activeState, eq_comm]

/-- R15: channels 0, 6 and 7 have no readers. -/
theorem State.inform_unread (s : State) {ch : Nat} (unread : ch = 0 ∨ 6 ≤ ch) : s.inform ch = s := by
  unfold State.inform
  dsimp only
  split <;> first | omega | rfl

theorem State.inform_hallF (s : State) :
    s.inform 3 =
      let u : State := { s with pae.hallF := s.active 3, spm.hallF := s.active 3 }
      if s.spm.hallF = true ∧ s.active 3 = false then u.wakeSource .lidOpen else u := by
  change State.hallToSpm _ _ = _
  unfold State.hallToSpm
  cases s.spm.hallF <;> cases s.active 3 <;> rfl

/-! ### The statements -/

/-- Settles O10: the scan's end keeps the converter but for what R13, R14, R16 and the held trigger change, because informing the
readers leaves it alone (`State.informAll_swapsAtMost`); the rest is each rule by its cases. -/
theorem scanCompletesAndIsJudged : Obligations.ScanCompletesAndIsJudged := by
  unfold Obligations.ScanCompletesAndIsJudged
  refine ⟨fun s ch rest code scanning todo => ?_, ⟨fun row state count reading => ?_, fun s ch v => ⟨?_, ?_⟩, fun s => rfl,
    fun s v unwatched => State.judgeVref_unwatched unwatched v, fun s v watched => ?_⟩, fun s => ?_⟩
  · have ran := exec_channelConversionEnd scanning todo code
    rw [State.convert_eq] at ran
    refine ⟨fun more => ?_, fun last => ?_⟩
    · rw [ran, if_neg (by simpa using more)]
      rfl
    · subst last
      let u := s.converted ch [] code.val
      let all := s.cnv.readings ++ [(ch, code.val)]
      obtain ⟨slotS, todoEmpty, noReadings, resultS, resultC, fault⟩ := u.completeScan_results all
      refine ⟨ran, slotS, todoEmpty, noReadings, resultS, resultC, fault, u.completeScan_withheld all, u.completeScan_moved all,
        u.completeScan_tablesStand all, ?_⟩
      have frame := u.completeScan_frame all
      obtain ⟨pending, ticks, pins, blk, psc, dlu, slk⟩ := frame
      intro p outside
      cases p <;> first | assumption | exact absurd (by decide) outside
  · refine ⟨?_, ?_, ?_, ?_⟩
    · rintro rfl
      exact debounceStep_unset row count reading
    · intro side
      rw [side]
      exact debounceStep_side row count reading
    · exact debounceStep_counts
    · exact debounceStep_moves
  · exact fun apart => State.updateWindow_apart apart v
  · exact fun taking watched => State.updateWindow_eq taking watched v
  · refine ⟨fun out fault => ?_, fun out fault => ?_, fun within fault => ?_, fun within fault => ?_⟩
    · rw [State.judgeVref_out watched out, if_pos fault]
    · rw [State.judgeVref_out watched out, if_neg (by simp [fault])]
    · rw [State.judgeVref_within watched within, if_pos fault]
    · rw [State.judgeVref_within watched within, if_neg (by simp [fault])]
  · exact ⟨fun chs => rfl, s.active_iff, rfl, rfl, s.inform_hallF, rfl, rfl, fun ch => s.inform_unread, s.serveHeld_eq⟩

end Sys2Proof.Machine
end

section
/-!
PROOFS. What an entry of the charger to a state in which it rests (OFF, DONE, FAULT) brings, and the fault of the charger; then the
statement about slot C's result and the regulation that follows it (O9).
-/

namespace Sys2Proof.Machine

/-! ### A charger that rests -/

/-- OFF, DONE and FAULT: no burst, no charge, and no pause reason moves the charger (R147, R148). -/
def ChargerState.Rests (c : ChargerState) : Prop := c = .off ∨ c = .done ∨ c = .fault

theorem ChargerState.Rests.drives_eq {c : ChargerState} (rests : c.Rests) : c.drives = false := by
  rcases rests with rfl | rfl | rfl <;> rfl

theorem State.setPausesBy_rests (go : State → ChargerState → State) {s : State} (rests : s.pch.state.Rests) (q : Pauses) :
    ∃ upq : Upq, s.setPausesBy go q = { s with pch.pauses := q, upq := upq } ∧
      ∀ r : Reply, ⟨.reply r, false⟩ ∈ s.upq.entries → ⟨.reply r, false⟩ ∈ upq.entries := by
  rcases s.setPausesBy_cases go q with ⟨rfl, e⟩ | ⟨_, _, busy, _⟩ | ⟨_, paused, _⟩ | ⟨_, _, _, e⟩
  · exact ⟨s.upq, e, fun _ h => h⟩
  · rcases rests with r | r | r <;> simp [r, ChargerState.drives] at busy
  · rcases rests with r | r | r <;> simp [r] at paused
  · exact ⟨_, e, fun r h => Upq.mem_issue _ h (by simp)⟩

/-- R164, R165: the budget record with a stage limit and the pen claim that follows from it. -/
def Spm.withLimit (p : Spm) (limit : Nat) : Spm :=
  { p with stageLimit := limit, penClaim := min limit (min p.supply p.cap - p.latchClaim) }

theorem State.handLimitBy_rests (go : State → ChargerState → State) {s : State} (rests : s.pch.state.Rests) :
    ∃ limit pauses upq, s.handLimitBy go = { s with spm := s.spm.withLimit limit, pch.pauses := pauses, upq := upq } ∧
      ∀ r : Reply, ⟨.reply r, false⟩ ∈ s.upq.entries → ⟨.reply r, false⟩ ∈ upq.entries := by
  unfold State.handLimitBy
  generalize (s.stage ((s.pch.pen.bind PenRecord.stage).getD 0)).currentLimit = limit
  rcases s.rebudgetBy_cases go { s.spm with stageLimit := limit } with ⟨_, _, e⟩ | ⟨_, e⟩
  · exact ⟨limit, s.pch.pauses, s.upq, e, fun _ h => h⟩
  · obtain ⟨upq, set, kept⟩ := State.setPausesBy_rests go (s := { s with spm := s.spm.withLimit limit }) rests
      (s.pch.pauses.forClaim (s.spm.withLimit limit).penClaim (decide (0 < s.spm.latchClaim)))
    exact ⟨limit, _, upq, e.trans set, kept⟩

/-- R135: a driver that does not run takes the new period, dead band and duty at once. -/
def Driver.taken (d : Driver) (period dead duty : Nat) : Driver :=
  { d with period := period, dead := dead, duty := duty, periodB := period, deadB := dead, dutyB := duty }

theorem Driver.adopt_stopped {d : Driver} (stopped : d.running = false) (period dead duty oldN newN : Nat) :
    d.adopt period dead duty oldN newN = d.taken period dead duty := if_neg (by simp [stopped])

/-- R135: the swap at a stop, for a charger that rests: the new period, dead band and duty in effect at once, and the stage limit
handed on. -/
theorem State.swapStopped_rests {s : State} (rests : s.pch.state.Rests) (stopped : s.pch.driver.running = false) :
    let globals := chargeGlobals s.tables.charge.pending
    ∃ duty limit pauses upq, s.swapStopped = { s with
        tables := s.chargeSwapped
        spm := s.spm.withLimit limit
        pch := { s.pch with
          stepped := false, pauses := pauses, driver := s.pch.driver.taken globals.period globals.deadBand duty }
        upq := upq } ∧
      ⟨.reply ⟨0x41, .ok, [], false⟩, false⟩ ∈ upq.entries := by
  intro globals
  let t := s.swapTable .charge
  let duty := clampNat 0 t.dutyCeiling s.pch.driver.dutyB
  let u : State := { t with
    pch := { s.pch with stepped := false, driver := s.pch.driver.taken globals.period globals.deadBand duty } }
  have queued : ⟨.reply ⟨0x41, .ok, [], false⟩, false⟩ ∈ t.upq.entries := by
    simp [t, State.swapTable, State.reply_upq, commitKind]
  obtain ⟨limit, pauses, upq, handed, kept⟩ := State.handLimitBy_rests State.enterCharger (s := u) rests
  refine ⟨duty, limit, pauses, upq, ?_, kept _ queued⟩
  have swap : s.swapStopped = u.handLimitBy State.enterCharger := by
    unfold State.swapStopped
    dsimp only
    rw [Driver.adopt_stopped (d := t.pch.driver) stopped]
    rfl
  exact swap.trans handed

/-! ### An entry to rest -/

theorem State.capture_bcd (s : State) (m : CaptureMode) : (s.capture m).bcd = s.bcd.cleared m := by
  rcases s.capture_cases m with ⟨_, e⟩ | ⟨_, e⟩ <;> rw [e]
  simp

/-- R11, R153: of the charger a change of the capture mode touches the blanking alone. -/
theorem State.capture_pch (s : State) (m : CaptureMode) :
    (s.capture m).pch = { s.pch with blanking := (s.capture m).pch.blanking } := by
  rcases s.capture_cases m with ⟨_, e⟩ | ⟨_, e⟩ <;> rw [e]
  rcases ({ s with bcd := s.bcd.cleared m } : State).dataLeft_cases with ⟨_, e⟩ | ⟨_, e⟩ <;> rw [e]

theorem State.enterCharger_pch (s : State) (c : ChargerState) :
    (s.enterCharger c).pch.state = c ∧ (s.enterCharger c).pch.driver = ({ s.pch with state := c } : Pch).settle.driver := by
  rcases s.enterCharger_cases c with ⟨_, _, e⟩ | ⟨_, e⟩ <;> rw [e]
  · rw [State.capture_pch]
    exact ⟨by rw [Pch.settle_eq], rfl⟩
  · exact ⟨by rw [Pch.settle_eq], rfl⟩

/-- R153: leaving IDENT or CHARGE takes the capture unit to OFF. -/
theorem State.enterCharger_mode {s : State} {c : ChargerState} (drove : s.pch.state.drives = true) (stops : c.drives = false) :
    (s.enterCharger c).bcd.mode = .off := by
  rcases s.enterCharger_cases c with ⟨_, _, e⟩ | ⟨idle | drives, _⟩
  · rw [e, State.capture_bcd, Bcd.cleared_mode]
  · simp [drove] at idle
  · simp [stops] at drives

section
variable (s : State) {c : ChargerState} (rests : c.Rests)
include rests

theorem State.enterCharger_rests_running : (s.enterCharger c).pch.driver.running = false := by
  rw [(s.enterCharger_pch c).2, Pch.settle_running]
  simp [rests.drives_eq]

/-- R128, R135, R153: the charger rests, the driver stands still, and what a stop brings has happened. -/
theorem State.toCharger_rests :
    (s.toCharger c).pch.state = c ∧ (s.toCharger c).pch.driver.running = false ∧
    (s.toCharger c).bcd = (s.enterCharger c).bcd ∧ s.Stopped (s.toCharger c) := by
  have state := (s.enterCharger_pch c).1
  have stopped := s.enterCharger_rests_running rests
  rcases s.toCharger_cases c with ⟨ran, _, awaits, e⟩ | ⟨still, e⟩ <;> rw [e]
  · obtain ⟨duty, limit, pauses, upq, swapped, reply⟩ := State.swapStopped_rests (state.symm ▸ rests) stopped
    rw [swapped]
    refine ⟨state, stopped, rfl, ?_⟩
    unfold State.Stopped
    rw [if_pos ⟨ran, awaits⟩]
    exact ⟨by simp [State.chargeSwapped], reply, rfl, rfl, by simp [Spm.withLimit], rfl⟩
  · refine ⟨state, stopped, rfl, ?_⟩
    unfold State.Stopped
    rw [if_neg fun h => still ⟨h.1, stopped, h.2⟩]
    simp

end

/-! ### The charger's fault and the regulation -/

/-- R135: what a stop of the driver brings is read off the tables, the budget record, the driver and the queue's replies. -/
theorem State.Stopped.penNotice {s t : State} (h : s.Stopped t) : s.Stopped t.penNotice := by
  unfold State.Stopped at h ⊢
  split at h
  · obtain ⟨tables, reply, period, dead, spm, claim⟩ := h
    rw [if_pos (by assumption)]
    refine ⟨by simpa using tables, ?_, by simpa [State.chg] using period, by simpa [State.chg] using dead, by simpa using spm,
      by simpa using claim⟩
    exact Upq.mem_issue _ reply (by simp)
  · rw [if_neg (by assumption)]
    simpa using h

/-- The converse of `State.OnlyIn.charger`. -/
theorem State.OnlyIn.of_charger {s t : State}
    (h : t.pending = s.pending ∧ t.ticks = s.ticks ∧ t.pins = s.pins ∧ t.counters = s.counters ∧ t.pae = s.pae ∧ t.blk = s.blk ∧
      t.psc = s.psc ∧ t.dlu = s.dlu ∧ t.slk = s.slk) : s.OnlyIn chargerParts t := by
  obtain ⟨pending, ticks, pins, counters, pae, blk, psc, dlu, slk⟩ := h
  intro p outside
  cases p <;> first | assumption | exact absurd (by decide) outside

theorem State.toFault_onlyIn (s : State) (r : FaultReason) (code : Option Byte) : s.OnlyIn chargerParts (s.toFault r code) :=
  .of_charger (s.toFault_frame r code)

/-- R150, R128, R135, R153: the fault with its reason, the driver stopped and the capture unit off. -/
theorem State.toFault_drove {s : State} (drove : s.pch.state.drives = true) (r : FaultReason) (code : Option Byte) :
    let t := s.toFault r code
    t.pch.state = .fault ∧ t.pch.faultReason = some r ∧ t.bcd.mode = .off ∧ t.pch.driver.running = false ∧ s.Stopped t := by
  obtain ⟨state, running, bcd, stopped⟩ := s.toCharger_rests (c := .fault) (.inr (.inr rfl))
  have mode : (s.toCharger .fault).bcd.mode = .off := bcd ▸ State.enterCharger_mode drove rfl
  unfold State.toFault
  refine ⟨by simpa using state, by simp, by simpa using mode, by simpa using running, State.Stopped.penNotice ?_⟩
  exact stopped

theorem State.toFault_swapsAtMost (s : State) (r : FaultReason) (code : Option Byte) : s.SwapsAtMost (s.toFault r code) := by
  refine State.SwapsAtMost.trans ?_ (State.penNotice_swapsAtMost _)
  exact (s.toCharger_swapsAtMost .fault).right rfl rfl

/-- R145: the current limit that regulation holds the coil to. -/
def State.coilLimit (s : State) : Nat := min (s.stage s.stageInForce).currentLimit s.spm.penClaim

/-- R144, R145: the duty a step lower. -/
def State.lowerDuty (s : State) : Nat := s.clampDuty s.stageInForce (s.pch.driver.dutyB - s.chg.dutyStep)

/-- R145: a regulation step with the over-current count it leaves. -/
def State.regulated (s : State) (duty overcurrent : Nat) : State :=
  { s with pch := { s.pch with driver := s.pch.driver.writeDuty duty, stepped := true, overcurrent := overcurrent } }

theorem State.regulate_idle {s : State} (idle : s.pch.state.drives = false) (i : Nat) : s.regulate i = s :=
  if_neg (by simp [idle])

section
variable {s : State} {i : Nat} (drives : s.pch.state.drives = true)
include drives

theorem State.regulate_holds (within : i ≤ 2 * s.coilLimit) : s.regulate i = s.regulated s.pch.driver.dutyB 0 :=
  (if_pos drives).trans (if_neg (Nat.not_lt.mpr within))

variable (above : 2 * s.coilLimit < i)
include above

theorem State.regulate_lowers (room : s.pch.driver.dutyB ≠ (s.stage s.stageInForce).dutyMin) :
    s.regulate i = s.regulated s.lowerDuty 0 :=
  (if_pos drives).trans ((if_pos above).trans (if_neg room))

theorem State.regulate_atMin (atMin : s.pch.driver.dutyB = (s.stage s.stageInForce).dutyMin) :
    s.regulate i =
      let u := s.regulated s.lowerDuty (s.pch.overcurrent + 1)
      if s.chg.persistence ≤ s.pch.overcurrent + 1 then u.toFault .overcurrent else u :=
  (if_pos drives).trans ((if_pos above).trans (if_pos atMin))

end

/-- R9, R6: both readings stored with the time, slot C idle, and the core with a READY scan. -/
def State.coilStored (s : State) (i v : Fin 4096) : State :=
  { s with cnv := { s.cnv with
      slotC := .idle, resultC := ⟨some i.val, some v.val, s.ticks⟩
      slotS := if s.cnv.slotS = SlotS.ready then SlotS.scanning else s.cnv.slotS } }

theorem exec_slotCConversionEnd {s : State} (converting : s.cnv.slotC = .converting) (i v : Fin 4096) :
    exec (.slotCConversionEnd i v) s = .next ((s.coilStored i v).regulate i.val) :=
  congrArg Host.Outcome.next (if_pos converting)

/-- Settles O9, by the branches of R145 on the state with the result stored; the last of them is the charger's fault. -/
theorem slotCResultRegulatesTheCoil : Obligations.SlotCResultRegulatesTheCoil := by
  intro s i v converting limit stored lower
  have ran := exec_slotCConversionEnd converting i v
  refine ⟨fun idle => ?_, fun drives within => ?_, fun drives above room => ?_, fun drives above atMin few => ?_,
    fun drives above atMin persists => ?_⟩
  · rw [ran, State.regulate_idle (s := s.coilStored i v) idle]
    rfl
  · rw [ran, State.regulate_holds (s := s.coilStored i v) drives within]
    rfl
  · rw [ran, State.regulate_lowers (s := s.coilStored i v) drives above room]
    rfl
  · rw [ran, State.regulate_atMin (s := s.coilStored i v) drives above atMin]
    exact congrArg Host.Outcome.next (if_neg (Nat.not_le.mpr few))
  · let u := (s.coilStored i v).regulated lower (s.pch.overcurrent + 1)
    have faults := State.regulate_atMin (s := s.coilStored i v) drives above atMin
    rw [ran, faults]
    obtain ⟨state, reason, mode, running, stopped⟩ := State.toFault_drove (s := u) drives .overcurrent none
    have result : (u.toFault .overcurrent).cnv.resultC = stored.resultC := by
      rcases (u.toFault_swapsAtMost .overcurrent none).cnv with e | ⟨_, e⟩ <;> rw [e] <;> rfl
    have frame : s.OnlyIn chargerParts u := .of_charger ⟨rfl, rfl, rfl, rfl, rfl, rfl, rfl, rfl, rfl⟩
    exact ⟨u.toFault .overcurrent, congrArg Host.Outcome.next (if_pos persists), state, reason, result, mode, running, stopped,
      frame.trans (u.toFault_onlyIn .overcurrent none)⟩

end Sys2Proof.Machine
end

section
/-!
PROOFS. The table of tangents, the octant angle and the four quadrants of the arctangent unit (O12).
-/

namespace Sys2Proof.Machine

/-! ### The arctangent unit -/

/-- Of an ascending list just those members lie at or below `q` that stand before the place where the list rises above it. -/
theorem length_filter_le_of_between {l : List Nat} (ascending : l.Pairwise (· < ·)) {k q : Nat} (low : l.getD k 0 ≤ q)
    (high : q < l.getD (k + 1) 0) : (l.filter fun t => decide (t ≤ q)).length = k + 1 := by
  induction l generalizing k with
  | nil => simp at high
  | cons x xs ih =>
    obtain ⟨least, rest⟩ := List.pairwise_cons.mp ascending
    cases k with
    | zero =>
      have above : ∀ y ∈ xs, q < y := by
        cases xs with
        | nil => simp
        | cons y ys =>
          have first : q < y := by simpa using high
          have later := (List.pairwise_cons.mp rest).1
          exact List.forall_mem_cons.mpr ⟨first, fun z hz => first.trans (later z hz)⟩
      have none_left : (xs.filter fun t => decide (t ≤ q)) = [] := by simpa using above
      have head : x ≤ q := by simpa using low
      simp [head, none_left]
    | succ k =>
      have inside : k < xs.length := by
        by_contra beyond
        rw [List.getD_cons_succ, List.getD_eq_default _ _ (by omega)] at high
        omega
      have head : x ≤ q := by
        rw [List.getD_cons_succ, List.getD_eq_getElem _ _ inside] at low
        exact (least _ (List.getElem_mem inside)).le.trans low
      simp [head, ih rest (by simpa using low) (by simpa using high)]

theorem tanTable_ascending : tanTable.Pairwise (· < ·) := by decide

theorem tanIndex_eq {k q : Nat} (low : tanAt k ≤ q) (high : q < tanAt (k + 1)) : tanIndex q = k := by
  unfold tanIndex
  rw [length_filter_le_of_between tanTable_ascending low high, Nat.add_sub_cancel]

theorem tanIndex_le {q : Nat} (short : q ≤ 4095) : tanIndex q ≤ 44 := by
  have lacks : (tanTable.filter fun t => decide (t ≤ q)).length < tanTable.length :=
    List.length_filter_lt_length_iff_exists.mpr ⟨4096, by decide, by simpa using Nat.lt_succ_of_le short⟩
  have length : tanTable.length = 46 := rfl
  unfold tanIndex
  omega

theorem octantAngle_whole : octantAngle 4096 = 45 := if_pos rfl

theorem tanAt_le : ∀ k ≤ 45, tanAt k ≤ 4096 := by decide

/-- R26: the nearest entry by the two neighbours of the ratio. -/
theorem octantAngle_between {k q : Nat} (inTable : k ≤ 44) (low : tanAt k ≤ q) (high : q < tanAt (k + 1)) :
    octantAngle q = if q - tanAt k < tanAt (k + 1) - q then k else k + 1 := by
  have short : q < 4096 := high.trans_le (tanAt_le (k + 1) (by omega))
  unfold octantAngle
  rw [if_neg short.ne, tanIndex_eq low high]

theorem octantAngle_le {q : Nat} (range : q ≤ 4096) : octantAngle q ≤ 45 := by
  by_cases whole : q = 4096
  · rw [whole, octantAngle_whole]
  · have index := tanIndex_le (q := q) (by omega)
    unfold octantAngle
    rw [if_neg whole]
    dsimp only
    split <;> omega

theorem tanRatio_of_eq {au av : Nat} (same : au = av) (pos : 0 < au) : tanRatio au av = 4096 := by
  subst same
  simp [tanRatio, Nat.mul_div_cancel_left _ pos]

theorem tanRatio_of_ne {au av : Nat} (ne : au ≠ av) : tanRatio au av ≤ 4095 := by
  have short : tanRatio au av < 4096 := Nat.div_lt_of_lt_mul (by omega)
  omega

/-- R25, R26: the octant angle of a pair. -/
def octant (u v : Int) : Nat := octantAngle (tanRatio u.natAbs v.natAbs)

theorem octant_le (u v : Int) : octant u v ≤ 45 := by
  refine octantAngle_le ?_
  by_cases same : u.natAbs = v.natAbs
  · rw [same, tanRatio]
    exact Nat.div_le_of_le_mul (by omega)
  · exact (tanRatio_of_ne same).trans (by omega)

section
variable {u v : Int}

theorem arctangent_degenerate (hu : u = 0) (hv : v = 0) : arctangent u v = none := by
  subst hu hv
  rfl

theorem arctangent_first (hu : 0 ≤ u) (hv : 0 < v) :
    arctangent u v = some (if u.natAbs ≤ v.natAbs then octant u v else 90 - octant u v) := if_pos ⟨hu, hv⟩

theorem arctangent_second (hu : 0 < u) (hv : v ≤ 0) :
    arctangent u v = some (if v.natAbs ≤ u.natAbs then 90 + octant u v else 180 - octant u v) :=
  (if_neg (by omega)).trans (if_pos ⟨hu, hv⟩)

theorem arctangent_third (hu : u ≤ 0) (hv : v < 0) :
    arctangent u v = some (if u.natAbs ≤ v.natAbs then 180 + octant u v else 270 - octant u v) :=
  (if_neg (by omega)).trans ((if_neg (by omega)).trans (if_pos ⟨hu, hv⟩))

/-- R27: in the last octant the full turn is written 0. -/
theorem arctangent_fourth (hu : u < 0) (hv : 0 ≤ v) :
    arctangent u v =
      some (if v.natAbs ≤ u.natAbs then 270 + octant u v else if octant u v = 0 then 0 else 360 - octant u v) := by
  have turn : (360 - octant u v) % 360 = if octant u v = 0 then 0 else 360 - octant u v := by
    have range := octant_le u v
    split <;> omega
  rw [← turn]
  exact (if_neg (by omega)).trans ((if_neg (by omega)).trans ((if_neg (by omega)).trans (if_pos ⟨hu, hv⟩)))

end

/-- Settles O12, with the pair's octant angle for the witness: the ratio's bounds, R26 by `octantAngle_between`, R27 quadrant by
quadrant. -/
theorem arctangentFollowsItsTable : Obligations.ArctangentFollowsItsTable := by
  intro u v au av q
  refine ⟨arctangent_degenerate, fun pair => ⟨fun same => ?_, tanRatio_of_ne, fun hu hv => ?_, octant u v, octant_le u v,
    fun whole => ?_, fun k inTable low high => octantAngle_between inTable low high, arctangent_first, arctangent_second,
    arctangent_third, arctangent_fourth⟩⟩
  · exact tanRatio_of_eq same (by omega)
  · omega
  · exact (congrArg octantAngle whole).trans octantAngle_whole

end Sys2Proof.Machine
end

section
/-!
PROOFS. What a hand-over of the posture engine keeps of the tables, the converter and the queue's replies; what each step of a posture
evaluation can do to the engine's own state; the rows of a new POSTURE image; and from these the statement about a lid read's end (O14).
-/

namespace Sys2Proof.Machine

/-! ### Replies that wait in the upward queue -/

/-- R182, R183: no reply that waits in the upward queue is lost. -/
def State.KeepsReplies (s t : State) : Prop :=
  ∀ r : Reply, ⟨.reply r, false⟩ ∈ s.upq.entries → ⟨.reply r, false⟩ ∈ t.upq.entries

theorem State.KeepsReplies.of_eq {s t : State} (upq : t.upq = s.upq) : s.KeepsReplies t := fun _ waits => upq ▸ waits

theorem State.KeepsReplies.trans {s t u : State} (h : s.KeepsReplies t) (h' : t.KeepsReplies u) : s.KeepsReplies u :=
  fun r waits => h' r (h r waits)

/-- The relation reads the queue alone, so a state that shares it with its first state may replace it. -/
theorem State.KeepsReplies.left {s t u : State} (h : u.KeepsReplies t) (upq : u.upq = s.upq) : s.KeepsReplies t :=
  (State.KeepsReplies.of_eq upq).trans h

theorem State.notice_keepsReplies (s : State) (n : Notice) : s.KeepsReplies (s.notice n) :=
  fun _ waits => Upq.mem_issue n waits (by simp)

theorem State.swapTable_keepsReplies (s : State) (k : TableId) : s.KeepsReplies (s.swapTable k) :=
  fun _ waits => List.mem_append_left _ waits

section
variable (go : State → ChargerState → State) (change : ∀ (s : State) c, s.KeepsReplies (go s c))
include change

theorem State.toPausedBy_keepsReplies (s : State) : s.KeepsReplies (s.toPausedBy go) := (change _ .paused).left rfl

theorem State.toWaitBy_keepsReplies (s : State) : s.KeepsReplies (s.toWaitBy go) :=
  (change s .wait).trans ((State.notice_keepsReplies _ _).left rfl)

theorem State.setPausesBy_keepsReplies (s : State) (q : Pauses) : s.KeepsReplies (s.setPausesBy go q) := by
  rcases s.setPausesBy_cases go q with ⟨_, e⟩ | ⟨_, _, _, e⟩ | ⟨_, _, _, e⟩ | ⟨_, _, _, e⟩ <;> rw [e]
  · exact .of_eq rfl
  · refine State.KeepsReplies.trans ?_ (State.notice_keepsReplies _ _)
    exact (State.toPausedBy_keepsReplies go change _).left rfl
  · exact (State.toWaitBy_keepsReplies go change _).left rfl
  · exact (State.notice_keepsReplies _ _).left rfl

theorem State.rebudgetBy_keepsReplies (s : State) (p : Spm) : s.KeepsReplies (s.rebudgetBy go p) := by
  rcases s.rebudgetBy_cases go p with ⟨_, _, e⟩ | ⟨_, e⟩ <;> rw [e]
  · exact .of_eq rfl
  · exact (State.setPausesBy_keepsReplies go change _ _).left rfl

end

theorem State.enterCharger_keepsReplies (s : State) (c : ChargerState) : s.KeepsReplies (s.enterCharger c) := .of_eq (by simp)

theorem State.swapStopped_keepsReplies (s : State) : s.KeepsReplies s.swapStopped :=
  (s.swapTable_keepsReplies .charge).trans <|
    (State.rebudgetBy_keepsReplies _ State.enterCharger_keepsReplies _ _).left rfl

theorem State.toCharger_keepsReplies (s : State) (c : ChargerState) : s.KeepsReplies (s.toCharger c) := by
  have entered := s.enterCharger_keepsReplies c
  rcases s.toCharger_cases c with ⟨_, _, _, e⟩ | ⟨_, e⟩ <;> rw [e]
  · exact entered.trans (State.swapStopped_keepsReplies _)
  · exact entered

theorem State.judgeSleep_keepsReplies (s : State) : s.KeepsReplies s.judgeSleep :=
  State.setPausesBy_keepsReplies _ State.toCharger_keepsReplies s _

theorem State.activity_keepsReplies (s : State) (change : Bool) : s.KeepsReplies (s.activity change) := by
  rcases s.activity_cases change with ⟨_, _, e⟩ | ⟨_, _, e⟩ | ⟨_, _, e⟩ | ⟨_, e⟩ <;> rw [e]
  · exact (State.notice_keepsReplies _ _).left rfl
  · exact (State.notice_keepsReplies _ _).left rfl
  · exact (State.notice_keepsReplies _ _).left rfl
  · exact .of_eq rfl

/-! ### What a hand-over keeps of the tables, the converter and the queue -/

/-- A hand-over of the posture engine brings at most the CHARGE swap of a stopping driver with a postponed blanking request (R135,
R11), and every reply in the queue stays. -/
structure State.HandsOver (s t : State) : Prop where
  swaps : s.SwapsAtMost t
  replies : s.KeepsReplies t

theorem State.HandsOver.of_eq {s t : State} (tables : t.tables = s.tables) (cnv : t.cnv = s.cnv) (upq : t.upq = s.upq) :
    s.HandsOver t := ⟨.of_eq tables cnv, .of_eq upq⟩

theorem State.HandsOver.trans {s t u : State} (h : s.HandsOver t) (h' : t.HandsOver u) : s.HandsOver u :=
  ⟨h.swaps.trans h'.swaps, h.replies.trans h'.replies⟩

/-- A state that shares tables, converter and queue with the first state of the relation may replace it. -/
theorem State.HandsOver.left {s t u : State} (h : u.HandsOver t) (tables : u.tables = s.tables) (cnv : u.cnv = s.cnv)
    (upq : u.upq = s.upq) : s.HandsOver t := (State.HandsOver.of_eq tables cnv upq).trans h

theorem State.notice_handsOver (s : State) (n : Notice) : s.HandsOver (s.notice n) :=
  ⟨.of_eq (by simp) (by simp), s.notice_keepsReplies n⟩

theorem State.activity_handsOver (s : State) (change : Bool) : s.HandsOver (s.activity change) :=
  ⟨s.activity_swapsAtMost change, s.activity_keepsReplies change⟩

theorem State.detachNotice_handsOver (s : State) (o : DetachOutcome) (src : Option ReleaseSource) (before : DetachState) :
    s.HandsOver (s.detachNotice o src before) := (s.notice_handsOver _).trans (State.activity_handsOver _ false)

theorem State.setLatchClaim_handsOver (s : State) (mA : Nat) : s.HandsOver (s.setLatchClaim mA) :=
  ⟨State.rebudgetBy_swapsAtMost _ State.toCharger_swapsAtMost s _, State.rebudgetBy_keepsReplies _ State.toCharger_keepsReplies s _⟩

theorem State.leaveDeep_handsOver (s : State) : s.HandsOver s.leaveDeep := ⟨s.leaveDeep_swapsAtMost, .of_eq (by simp)⟩

theorem State.spmPosture_handsOver (s : State) : s.HandsOver s.spmPosture := by
  have formed : s.HandsOver (s.activity true).formTarget := (s.activity_handsOver true).trans (.of_eq (by simp) (by simp) (by simp))
  have judged := formed.trans ⟨State.judgeSleep_swapsAtMost _, State.judgeSleep_keepsReplies _⟩
  exact judged.trans (State.leaveDeep_handsOver _)

theorem State.dluPosture_handsOver (s : State) : s.HandsOver s.dluPosture := by
  rcases s.dluPosture_cases with ⟨_, _, e⟩ | ⟨_, _, e⟩ | ⟨_, e⟩ <;> rw [e]
  · exact (State.detachNotice_handsOver _ _ _ _).left rfl rfl rfl
  · have ended : s.HandsOver s.endPulse := (State.setLatchClaim_handsOver _ 0).left rfl rfl rfl
    exact ended.trans ((State.detachNotice_handsOver _ _ _ _).left rfl rfl rfl)
  · exact .of_eq rfl rfl rfl

section
variable (s : State) (p : Posture) (row : Option Nat) (permission : Bool) (cause : PostureCause)

theorem State.changePosture_handsOver : s.HandsOver (s.changePosture p row permission cause) := by
  refine State.HandsOver.trans ?_ (State.dluPosture_handsOver _)
  refine State.HandsOver.trans ?_ (State.spmPosture_handsOver _)
  exact (State.notice_handsOver _ _).left rfl rfl rfl

/-- R51: of the engine's own state a change of posture sets the posture record alone. -/
@[simp] theorem State.changePosture_pae :
    (s.changePosture p row permission cause).pae = { s.pae with record := ⟨p, row, permission, s.ticks⟩ } := by
  unfold State.changePosture
  simp

/-! ### Steps 4 to 7 of an evaluation -/

theorem State.adopt_handsOver : s.HandsOver (s.adopt p row cause) := by
  unfold State.adopt
  dsimp only
  split
  · exact .of_eq rfl rfl rfl
  · exact (State.changePosture_handsOver _ _ _ _ _).left rfl rfl rfl

theorem State.adopt_pae : ∃ record, (s.adopt p row cause).pae = { s.pae with candidate := none, record := record } := by
  unfold State.adopt
  dsimp only
  split
  · exact ⟨_, rfl⟩
  · exact ⟨_, State.changePosture_pae _ _ _ _ _⟩

theorem State.propose_handsOver : s.HandsOver (s.propose p row cause) := by
  unfold State.propose
  dsimp only
  split
  · exact s.adopt_handsOver p row cause
  · exact .of_eq rfl rfl rfl

theorem State.propose_pae :
    ∃ candidate record, (s.propose p row cause).pae = { s.pae with candidate := candidate, record := record } := by
  unfold State.propose
  dsimp only
  split
  · exact ⟨none, s.adopt_pae p row cause⟩
  · exact ⟨_, _, rfl⟩

end

section
variable (s : State)

theorem State.classify_cases :
    (s.proposal = none ∧ s.classify = { s with pae.candidate := none }) ∨
    ∃ p row cause, s.proposal = some (p, row, cause) ∧ s.classify = s.propose p row cause := by
  unfold State.classify
  cases s.proposal with
  | none => exact .inl ⟨rfl, rfl⟩
  | some x => exact .inr ⟨_, _, _, rfl, rfl⟩

theorem State.classify_handsOver : s.HandsOver s.classify := by
  rcases s.classify_cases with ⟨_, e⟩ | ⟨p, row, cause, _, e⟩ <;> rw [e]
  · exact .of_eq rfl rfl rfl
  · exact s.propose_handsOver p row cause

theorem State.classify_pae : ∃ candidate record, s.classify.pae = { s.pae with candidate := candidate, record := record } := by
  rcases s.classify_cases with ⟨_, e⟩ | ⟨p, row, cause, _, e⟩ <;> rw [e]
  · exact ⟨_, _, rfl⟩
  · exact s.propose_pae p row cause

/-- `t` is `s` with another rotation and rotation candidate, and at most one notice more. -/
def State.TurnsAtMost (s t : State) : Prop :=
  ∃ rotation candidate,
    let u : State := { s with pae.rotation := rotation, pae.rotCandidate := candidate }
    t = u ∨ ∃ n, t = u.notice n

theorem State.lockRotation_turnsAtMost (r : Rotation) : s.TurnsAtMost (s.lockRotation r) := by
  unfold State.lockRotation
  dsimp only
  split
  · exact ⟨_, _, .inl rfl⟩
  · exact ⟨_, _, .inr ⟨_, rfl⟩⟩

theorem State.freeRotation_turnsAtMost : s.TurnsAtMost s.freeRotation := by
  unfold State.freeRotation
  dsimp only
  split
  · exact ⟨_, _, .inl rfl⟩
  · split
    · exact ⟨_, _, .inr ⟨_, rfl⟩⟩
    · exact ⟨_, _, .inl rfl⟩

/-- R32 to R35: step 6 by how the rotation is treated. -/
theorem State.rotate_turnsAtMost : s.TurnsAtMost s.rotate := by
  unfold State.rotate
  split
  · exact ⟨_, _, .inl rfl⟩
  · exact s.lockRotation_turnsAtMost .r0
  · exact s.lockRotation_turnsAtMost .r180
  · exact s.freeRotation_turnsAtMost

theorem State.rotate_handsOver : s.HandsOver s.rotate := by
  obtain ⟨_, _, e | ⟨n, e⟩⟩ := s.rotate_turnsAtMost <;> rw [e]
  · exact .of_eq rfl rfl rfl
  · exact (State.notice_handsOver _ n).left rfl rfl rfl

theorem State.rotate_pae : ∃ rotation candidate, s.rotate.pae = { s.pae with rotation := rotation, rotCandidate := candidate } := by
  obtain ⟨r, c, e | ⟨n, e⟩⟩ := s.rotate_turnsAtMost <;> exact ⟨r, c, congrArg State.pae e⟩

theorem State.angleStep_handsOver : s.HandsOver s.angleStep := by
  unfold State.angleStep
  split
  · exact (State.notice_handsOver _ _).left rfl rfl rfl
  · exact .of_eq rfl rfl rfl

theorem State.angleStep_pae : ∃ count, s.angleStep.pae = { s.pae with angleTimer := count } := by
  unfold State.angleStep
  split
  · exact ⟨0, rfl⟩
  · exact ⟨_, rfl⟩

/-- Steps 3 to 7 of an evaluation (R28). -/
def State.judged : State := s.directions.hingeStep.classify.rotate.angleStep

theorem State.judged_handsOver : s.HandsOver s.judged := by
  have formed : s.HandsOver s.directions.hingeStep := .of_eq (by simp) (by simp) (by simp)
  exact formed.trans <| (State.classify_handsOver _).trans <| (State.rotate_handsOver _).trans (State.angleStep_handsOver _)

/-- What steps 3 to 7 leave alone of the engine: the port, the filters, the ages and the Hall copy. -/
theorem State.judged_pae :
    ∃ phiL psi hinge candidate record rotation rotCandidate angleTimer, s.judged.pae = { s.pae with
      phiL := phiL, psi := psi, hinge := hinge, candidate := candidate, record := record, rotation := rotation
      rotCandidate := rotCandidate, angleTimer := angleTimer } := by
  obtain ⟨_, _, classified⟩ := s.directions.hingeStep.classify_pae
  obtain ⟨_, _, rotated⟩ := s.directions.hingeStep.classify.rotate_pae
  obtain ⟨_, reported⟩ := s.directions.hingeStep.classify.rotate.angleStep_pae
  exact ⟨_, _, _, _, _, _, _, _, reported.trans (by rw [rotated, classified]; rfl)⟩

/-! ### Step 1: the POSTURE swap -/

/-- Step 1 of an evaluation (R28, R37). -/
def State.swappedIn : State := if s.tables.posture.awaiting then s.swapPosture else s

/-- R185: the POSTURE table after step 1. -/
def State.postureTable : Table :=
  if s.tables.posture.awaiting then ⟨s.tables.posture.pending, s.tables.posture.pending, false⟩ else s.tables.posture

theorem State.swappedIn_tables : s.swappedIn.tables = { s.tables with posture := s.postureTable } := by
  unfold State.swappedIn State.postureTable
  split <;> rfl

theorem State.swappedIn_pae :
    ∃ candidate record angleTimer,
      s.swappedIn.pae = { s.pae with candidate := candidate, record := record, angleTimer := angleTimer } := by
  unfold State.swappedIn
  split <;> exact ⟨_, _, _, rfl⟩

theorem State.swappedIn_answers (awaits : s.tables.posture.awaiting = true) :
    ⟨.reply ⟨0x41, .ok, [], false⟩, false⟩ ∈ s.swappedIn.upq.entries := by
  unfold State.swappedIn
  rw [if_pos awaits]
  exact List.mem_append_right _ (List.mem_singleton.mpr rfl)

/-! ### Step 2 and the whole evaluation -/

/-- Steps 1 and 2 of an evaluation (R28): the stale limit is the one that stood before the swap (R37). -/
def State.lidTaken : Option Axes → State
  | some a => s.swappedIn.lidSample a s.post.staleLimit
  | none => s.swappedIn

/-- R28: the order of the steps. -/
theorem State.evaluate_eq (sample : Option Axes) : s.evaluate sample = (s.lidTaken sample).judged.ageStep := by
  cases sample <;> rfl

theorem State.lidTaken_handsOver (sample : Option Axes) : s.swappedIn.HandsOver (s.lidTaken sample) := by
  cases sample <;> exact .of_eq rfl rfl rfl

theorem State.evaluate_handsOver (sample : Option Axes) : s.swappedIn.HandsOver (s.evaluate sample) := by
  rw [s.evaluate_eq sample]
  refine (s.lidTaken_handsOver sample).trans ?_
  exact (State.judged_handsOver _).trans (.of_eq (by simp) (by simp) (by simp))

/-- R20, R22, R31: the port stands, the ages used are those that step 2 left, and each present age goes on by one. -/
theorem State.evaluate_lid (sample : Option Axes) :
    let u := s.lidTaken sample
    let t := s.evaluate sample
    t.pae.lidRead = s.pae.lidRead ∧ t.pae.lidFailing = s.pae.lidFailing ∧ t.pae.lastLid = s.pae.lastLid ∧
    t.pae.lidFilter = u.pae.lidFilter ∧ t.pae.lidAge = olderAge u.pae.lidAge ∧ t.pae.evaluatedLidAge = u.pae.lidAge ∧
    t.pae.evaluatedBaseAge = s.pae.baseAge := by
  obtain ⟨_, _, _, _, _, _, _, _, judged⟩ := (s.lidTaken sample).judged_pae
  obtain ⟨_, _, _, swapped⟩ := s.swappedIn_pae
  dsimp only
  rw [s.evaluate_eq sample]
  unfold State.ageStep
  dsimp only
  rw [judged]
  cases sample <;> simp [State.lidTaken, State.lidSample, swapped]

/-! ### The frame of an evaluation -/

/-- The parts that a lid read's end may touch. -/
def lidParts : List Part := [.counters, .tables, .cnv, .pae, .pch, .bcd, .dlu, .spm, .upq]

theorem State.OnlyIn.of_lid {s t : State} (pending : t.pending = s.pending) (ticks : t.ticks = s.ticks) (pins : t.pins = s.pins)
    (blk : t.blk = s.blk) (psc : t.psc = s.psc) (slk : t.slk = s.slk) : s.OnlyIn lidParts t := by
  intro p outside
  cases p <;> first | assumption | exact absurd (by decide) outside

/-- R37, R135, R185: what the end of a lid read does to the tables, the reply of the POSTURE table's commit, and the parts that
stand. -/
def State.LidFrame (s t : State) : Prop :=
  t.tables.posture = s.postureTable ∧ ({ s with tables.posture := t.tables.posture } : State).TablesStand t ∧
  (s.tables.posture.awaiting = true → (⟨.reply ⟨0x41, .ok, [], false⟩, false⟩ : Entry) ∈ t.upq.entries) ∧ s.OnlyIn lidParts t

end

/-- The CHARGE swap leaves the POSTURE table alone. -/
theorem State.TablesStand.posture {s t : State} (h : s.TablesStand t) : t.tables.posture = s.tables.posture := by
  rcases h with h | ⟨_, h⟩ <;> rw [h]
  rfl

/-- The relation reads the tables alone. -/
theorem State.TablesStand.left {s t u : State} (h : u.TablesStand t) (tables : u.tables = s.tables) : s.TablesStand t :=
  State.TablesStand.trans (.inl tables) h

theorem State.evaluate_lidFrame {s u : State} (tables : u.tables = s.tables) (start : s.OnlyIn lidParts u) (sample : Option Axes) :
    s.LidFrame (u.evaluate sample) := by
  obtain ⟨swaps, replies⟩ := u.evaluate_handsOver sample
  have same : u.postureTable = s.postureTable := by rw [State.postureTable, State.postureTable, tables]
  have swapped : u.swappedIn.tables = { s.tables with posture := s.postureTable } := by rw [u.swappedIn_tables, tables, same]
  have posture : (u.evaluate sample).tables.posture = s.postureTable := by rw [swaps.tables.posture, swapped]
  refine ⟨posture, swaps.tables.left (by rw [swapped, posture]), fun awaits => ?_, start.trans ?_⟩
  · exact replies _ (u.swappedIn_answers (tables ▸ awaits))
  · obtain ⟨pending, ticks, pins, _, blk, psc, slk⟩ := u.evaluate_frame sample
    exact .of_lid pending ticks pins blk psc slk

/-! ### How a lid read ends -/

/-- R20: a sample that ends the read. -/
theorem State.lidCompleted_spec (s : State) (a : Axes) :
    let t := s.lidCompleted a
    t.pae.lidRead = none ∧ t.pae.lidFailing = false ∧ t.pae.lastLid = some (clampAxes a) ∧ t.pae.lidAge = some 1 ∧
    t.pae.evaluatedLidAge = some 0 ∧ t.pae.evaluatedBaseAge = s.pae.baseAge ∧ t.counters = s.counters ∧ s.LidFrame t := by
  let u : State := { s with pae.lidRead := none, pae.lidFailing := false, pae.lastLid := some (clampAxes a) }
  obtain ⟨read, failing, last, _, age, used, base⟩ := u.evaluate_lid (some (clampAxes a))
  have frame := State.evaluate_lidFrame (s := s) (u := u) rfl (.of_lid rfl rfl rfl rfl rfl rfl) (some (clampAxes a))
  exact ⟨read, failing, last, age, used, base, by simp, frame⟩

/-- R20: the state in which a failed read is evaluated. -/
def State.lidCounted (s : State) : State :=
  let u : State := { s with pae.lidRead := none, pae.lidFailing := true }
  (if s.pae.lidFailing then u else u.event .lspFault).bump .port

theorem State.lidFailed_eq (s : State) : s.lidFailed = s.lidCounted.evaluate none := rfl

theorem State.bumpBy_get (s : State) (k : Counter) (n : Nat) :
    (s.bumpBy k n).counters.get k = min (s.counters.get k + n) 255 := by
  rcases s.bumpBy_cases k n with ⟨_, full, e⟩ | ⟨_, e⟩ <;> rw [e]
  · simp [State.event, full]
  · simp

section
variable (s : State)

theorem State.lidCounted_pae : s.lidCounted.pae = { s.pae with lidRead := none, lidFailing := true } := by
  unfold State.lidCounted
  split <;> simp

theorem State.lidCounted_port : s.lidCounted.counters.get .port = min (s.counters.get .port + 1) 255 := by
  unfold State.lidCounted
  dsimp only
  rw [State.bump, State.bumpBy_get]
  split <;> simp

theorem State.lidCounted_tables : s.lidCounted.tables = s.tables := by
  unfold State.lidCounted
  split <;> simp

theorem State.lidCounted_onlyIn : s.OnlyIn lidParts s.lidCounted := by
  unfold State.lidCounted
  split <;> exact .of_lid (by simp) (by simp) (by simp) (by simp) (by simp) (by simp)

/-- R20: a failed read keeps the last sample and the filter, and ages what the engine holds. -/
theorem State.lidFailed_spec :
    let t := s.lidFailed
    t.pae.lidRead = none ∧ t.pae.lidFailing = true ∧ t.pae.lastLid = s.pae.lastLid ∧ t.pae.lidFilter = s.pae.lidFilter ∧
    t.pae.lidAge = olderAge s.pae.lidAge ∧ t.pae.evaluatedLidAge = s.pae.lidAge ∧ t.pae.evaluatedBaseAge = s.pae.baseAge ∧
    t.counters.get .port = min (s.counters.get .port + 1) 255 ∧ s.LidFrame t := by
  have ended := s.lidCounted.evaluate_lid none
  have frame := State.evaluate_lidFrame s.lidCounted_tables s.lidCounted_onlyIn none
  obtain ⟨_, _, _, swapped⟩ := s.lidCounted.swappedIn_pae
  simp only [State.lidTaken, swapped, s.lidCounted_pae] at ended
  obtain ⟨read, failing, last, filter, age, used, base⟩ := ended
  have port : (s.lidCounted.evaluate none).counters.get .port = min (s.counters.get .port + 1) 255 := by
    simp [s.lidCounted_port]
  exact ⟨read, failing, last, filter, age, used, base, port, frame⟩

variable {s} {n : Nat} (reading : s.pae.lidRead = some n)
include reading

theorem State.takeLidEnding_reading (ending : LidEnding) :
    s.takeLidEnding ending = if n ≤ 2 then s.lidEnds ending else s := by
  unfold State.takeLidEnding
  rw [reading]
  rfl

theorem State.takeLidLimit_reading : s.takeLidLimit = if 2 ≤ n then s.lidFailed else s := by
  unfold State.takeLidLimit
  rw [reading]
  rfl

end

section
variable {s : State} (awaits : s.tables.posture.awaiting = true)
include awaits

/-- R28, R54: POSTURE_SWAP is the ending of the read in whose evaluation the swap is made. -/
theorem exec_postureSwap_completion (ending : LidEnding) :
    exec (.postureSwap (.completion ending)) s = .next (s.takeLidEnding ending) := congrArg Host.Outcome.next (if_pos awaits)

theorem exec_postureSwap_limit : exec (.postureSwap .limit) s = .next s.takeLidLimit :=
  congrArg Host.Outcome.next (if_pos awaits)

end

/-! ### The rows of a new POSTURE image -/

/-- The rows of 1 to `n`, tried in order: the first that fits. -/
theorem find_rows_eq_some {p : Nat → Bool} {n r : Nat} :
    ((List.range (n + 1)).drop 1).find? p = some r ↔ 1 ≤ r ∧ r ≤ n ∧ p r = true ∧ ∀ q, 1 ≤ q → q < r → p q = false := by
  rw [List.range_eq_range', List.drop_range', List.find?_range'_eq_some]
  simp only [List.mem_range'_1, Bool.not_eq_true']
  constructor
  · rintro ⟨fits, range, first⟩
    exact ⟨by omega, by omega, fits, fun q low => first q (by omega)⟩
  · rintro ⟨low, high, fits, first⟩
    exact ⟨fits, by omega, fun q low => first q (by omega)⟩

theorem find_rows_eq_none {p : Nat → Bool} {n : Nat} :
    ((List.range (n + 1)).drop 1).find? p = none ↔ ∀ r, 1 ≤ r → r ≤ n → p r = false := by
  rw [List.range_eq_range', List.drop_range', List.find?_range'_eq_none]
  simp only [Bool.not_eq_true']
  exact ⟨fun all r low high => all r (by omega) (by omega), fun all r low high => all r (by omega) (by omega)⟩

section
variable {s : State}

theorem State.rowUnder_fits {r : Nat} (row : s.pae.record.row = some r)
    (fits : 1 ≤ r ∧ r ≤ s.post.rowCount ∧ (s.postRow r).posture = s.posture) : s.rowUnder = some r := by
  unfold State.rowUnder
  rw [row]
  exact if_pos fits

theorem State.rowUnder_searches
    (unfit : ∀ r, s.pae.record.row = some r → ¬(1 ≤ r ∧ r ≤ s.post.rowCount ∧ (s.postRow r).posture = s.posture)) :
    s.rowUnder = s.firstRowOf s.posture := by
  unfold State.rowUnder
  cases row : s.pae.record.row with
  | none => rfl
  | some r => exact if_neg (unfit r row)

theorem State.firstRowOf_eq_some {p : Posture} {r : Nat} (low : 1 ≤ r) (high : r ≤ s.post.rowCount)
    (fits : (s.postRow r).posture = p) (first : ∀ q, 1 ≤ q → q < r → (s.postRow q).posture ≠ p) : s.firstRowOf p = some r :=
  find_rows_eq_some.mpr ⟨low, high, by simpa using fits, by simpa using first⟩

theorem State.firstRowOf_eq_none {p : Posture} (unfit : ∀ r, 1 ≤ r → r ≤ s.post.rowCount → (s.postRow r).posture ≠ p) :
    s.firstRowOf p = none := find_rows_eq_none.mpr (by simpa using unfit)

end

/-- R54, R37: the swap with every part it sets, over the row that it leaves. -/
theorem State.swapPosture_eq (s : State) :
    let img := s.tables.posture.pending
    let row : Option Nat := s.swapPosture.pae.record.row
    s.swapPosture = { s with
      tables := { s.tables with posture := ⟨img, img, false⟩ }
      upq := s.upq.append (.reply ⟨0x41, .ok, [], false⟩)
      pae := { s.pae with
        candidate := none
        record := { s.pae.record with
          row := row
          permission := match row with
            | some r => (postureRow img r).detach
            | none => decide (s.posture = .tablet) }
        angleTimer := if s.post.anglePeriod = 0 ∨ (postureGlobals img).anglePeriod = 0 then 0 else s.pae.angleTimer } } := by
  unfold State.swapPosture
  dsimp only
  cases (s.swapTable .posture).rowUnder <;> rfl

/-- Settles O14: a lid read's end is `State.evaluate` (`State.lidCompleted_spec`, `State.lidFailed_spec`), the commands are its
bounds of 2 ms, and the swap's row is the search of R54. -/
theorem lidReadEndsInAnEvaluation : Obligations.LidReadEndsInAnEvaluation := by
  unfold Obligations.LidReadEndsInAnEvaluation
  intro evaluated frame failed ended
  have fails (s : State) : failed s s.lidFailed := ⟨rfl, s.lidFailed_spec⟩
  have ends (s : State) (e : LidEnding) : ended s (s.lidEnds e) e := by
    cases e with
    | sample a => exact ⟨rfl, s.lidCompleted_spec a⟩
    | noAcknowledge => exact fails s
    | notReady => exact fails s
  refine ⟨fun s n reading => ?_, fun s => ⟨rfl, rfl⟩, fun s => ⟨?_, fun r row low high fits => ?_, fun unfit => ⟨?_, ?_⟩⟩⟩
  · have ending (within : n ≤ 2) (e : LidEnding) : s.takeLidEnding e = s.lidEnds e :=
      (State.takeLidEnding_reading reading e).trans (if_pos within)
    have limit (expired : 2 ≤ n) : s.takeLidLimit = s.lidFailed := (State.takeLidLimit_reading reading).trans (if_pos expired)
    refine ⟨fun within e => ⟨_, congrArg Host.Outcome.next (ending within e), ends s e⟩, fun late e => ?_,
      fun expired => ⟨_, congrArg Host.Outcome.next (limit expired), fails s⟩, fun early => ?_, fun awaits => ⟨fun within e => ?_,
      fun expired => ?_⟩⟩
    · exact congrArg Host.Outcome.next ((State.takeLidEnding_reading reading e).trans (if_neg (by omega)))
    · exact congrArg Host.Outcome.next ((State.takeLidLimit_reading reading).trans (if_neg (by omega)))
    · exact ⟨_, (exec_postureSwap_completion awaits e).trans (congrArg Host.Outcome.next (ending within e)), ends s e⟩
    · exact ⟨_, (exec_postureSwap_limit awaits).trans (congrArg Host.Outcome.next (limit expired)), fails s⟩
  · exact s.swapPosture_eq
  · exact State.rowUnder_fits (s := s.swapTable .posture) row ⟨low, high, fits⟩
  · intro r low high fits first
    exact (State.rowUnder_searches (s := s.swapTable .posture) unfit).trans (State.firstRowOf_eq_some low high fits first)
  · intro noRow
    exact (State.rowUnder_searches (s := s.swapTable .posture) unfit).trans (State.firstRowOf_eq_none noRow)

end Sys2Proof.Machine
end

section
/-!
PROOFS. What the shared operations put into the upward queue, said once for each: notices of some kinds, and replies. What else waits in
the queue stays.
-/

namespace Sys2Proof.Machine

/-! ### The upward queue after notices of some kinds and after replies -/

theorem Upq.issue_holds (u : Upq) (n : Notice) : (u.issue n).Holds n := by
  rcases u.issue_cases n with ⟨waits, e⟩ | ⟨_, _, e⟩ | ⟨_, _, e⟩ <;> rw [e]
  · obtain ⟨x, member, waits⟩ := List.any_eq_true.mp waits
    have unstarted : x.started = false := by
      simp only [Entry.waits, Bool.and_eq_true, Bool.not_eq_true'] at waits
      exact waits.2
    refine .inl (List.mem_map.mpr ⟨x, member, ?_⟩)
    rw [if_pos waits, unstarted]
  · exact .inr (List.mem_append_right _ (List.mem_singleton.mpr rfl))
  · exact .inl (List.mem_append_right _ (List.mem_singleton.mpr rfl))

/-- R107: a notice moves no notice of another kind. -/
theorem Upq.issue_holds_of_ne (u : Upq) {m n : Notice} (other : m.kind ≠ n.kind) : (u.issue n).Holds m ↔ u.Holds m := by
  have ne : m ≠ n := fun same => other (congrArg Notice.kind same)
  have apart : Entry.waits n.kind ⟨.notice m, false⟩ = false := by simp [Entry.waits, Entry.isNotice, other]
  unfold Upq.Holds
  rcases u.issue_cases n with ⟨_, e⟩ | ⟨_, _, e⟩ | ⟨_, _, e⟩ <;> rw [e]
  · refine or_congr_left ⟨fun member => ?_, fun member => List.mem_map.mpr ⟨_, member, if_neg (by simp [apart])⟩⟩
    obtain ⟨x, member, same⟩ := List.mem_map.mp member
    split at same
    · simp [ne.symm] at same
    · exact same ▸ member
  · simp [ne, other]
  · simp [ne]

theorem Upq.append_reply_holds (u : Upq) (r : Reply) (m : Notice) : (u.append (.reply r)).Holds m ↔ u.Holds m := by
  simp [Upq.Holds]

/-- R107, R183: the queue after notices of these kinds and replies, one after the other. -/
inductive Upq.Queues (kinds : List NoticeKind) (u : Upq) : Upq → Prop
  | nothing : Upq.Queues kinds u u
  | notice {v : Upq} (before : Upq.Queues kinds u v) (n : Notice) (kind : n.kind ∈ kinds) : Upq.Queues kinds u (v.issue n)
  | reply {v : Upq} (before : Upq.Queues kinds u v) (r : Reply) : Upq.Queues kinds u (v.append (.reply r))

section
variable {kinds : List NoticeKind} {u v w : Upq}

theorem Upq.Queues.trans (h : Upq.Queues kinds u v) (h' : Upq.Queues kinds v w) : Upq.Queues kinds u w := by
  induction h' with
  | nothing => exact h
  | notice _ n kind ih => exact ih.notice n kind
  | reply _ r ih => exact ih.reply r

theorem Upq.Queues.mono {more : List NoticeKind} (h : Upq.Queues kinds u v) (sub : kinds ⊆ more) : Upq.Queues more u v := by
  induction h with
  | nothing => exact .nothing
  | notice _ n kind ih => exact ih.notice n (sub kind)
  | reply _ r ih => exact ih.reply r

/-- R107: notices of other kinds stay as they were. -/
theorem Upq.Queues.holds_iff (h : Upq.Queues kinds u v) {m : Notice} (other : m.kind ∉ kinds) : v.Holds m ↔ u.Holds m := by
  induction h with
  | nothing => exact .rfl
  | notice _ n kind ih => exact (Upq.issue_holds_of_ne (m := m) (n := n) _ fun same => other (same ▸ kind)).trans ih
  | reply _ r ih => exact (Upq.append_reply_holds _ r m).trans ih

/-- R106, R107: base reports stay. -/
theorem Upq.Queues.report (h : Upq.Queues kinds u v) {e : Entry} (member : e ∈ u.entries) (report : e.isReport = true) :
    e ∈ v.entries := by
  have no : ∀ m, e.content ≠ .notice m := by
    intro m same
    simp [Entry.isReport, same] at report
  induction h with
  | nothing => exact member
  | notice _ n _ ih => exact Upq.mem_issue n ih no
  | reply _ _ ih => exact List.mem_append_left _ ih

end

/-- Of the upward queue, `t` has what `s` has and after it notices of these kinds and replies. -/
def State.Queues (kinds : List NoticeKind) (s t : State) : Prop := Upq.Queues kinds s.upq t.upq

section
variable {kinds : List NoticeKind} {s t u : State}

theorem State.Queues.of_eq (upq : t.upq = s.upq) : s.Queues kinds t := by
  rw [State.Queues, upq]
  exact .nothing

theorem State.Queues.trans (h : s.Queues kinds t) (h' : t.Queues kinds u) : s.Queues kinds u := Upq.Queues.trans h h'

theorem State.Queues.mono {more : List NoticeKind} (h : s.Queues kinds t) (sub : kinds ⊆ more) : s.Queues more t :=
  Upq.Queues.mono h sub

/-- The relation reads the queue alone, so a state that shares it with its first state may replace it. -/
theorem State.Queues.left (h : u.Queues kinds t) (upq : u.upq = s.upq) : s.Queues kinds t := (State.Queues.of_eq upq).trans h

theorem State.notice_queues (s : State) (n : Notice) (kind : n.kind ∈ kinds) : s.Queues kinds (s.notice n) :=
  Upq.Queues.nothing.notice n kind

theorem State.leaveDeep_queues (s : State) : s.Queues kinds s.leaveDeep := .of_eq (by simp)

/-! ### What the charger's transitions queue: PEN notices, and the reply of a CHARGE swap -/

theorem State.enterCharger_queues (s : State) (c : ChargerState) : s.Queues kinds (s.enterCharger c) := .of_eq (by simp)

section
variable (pen : .pen ∈ kinds)
include pen

theorem State.penNotice_queues (s : State) : s.Queues kinds s.penNotice := s.notice_queues _ pen

section
variable (go : State → ChargerState → State) (change : ∀ (s : State) c, s.Queues kinds (go s c))
include change

theorem State.toWaitBy_queues (s : State) : s.Queues kinds (s.toWaitBy go) :=
  (change s .wait).trans ((State.penNotice_queues pen _).left rfl)

theorem State.setPausesBy_queues (s : State) (q : Pauses) : s.Queues kinds (s.setPausesBy go q) := by
  rcases s.setPausesBy_cases go q with ⟨_, e⟩ | ⟨_, _, _, e⟩ | ⟨_, _, _, e⟩ | ⟨_, _, _, e⟩ <;> rw [e]
  · exact .of_eq rfl
  · refine State.Queues.trans ?_ (State.penNotice_queues pen _)
    exact (change _ .paused).left rfl
  · exact (State.toWaitBy_queues pen go change _).left rfl
  · exact (State.penNotice_queues pen _).left rfl

theorem State.rebudgetBy_queues (s : State) (p : Spm) : s.Queues kinds (s.rebudgetBy go p) := by
  rcases s.rebudgetBy_cases go p with ⟨_, _, e⟩ | ⟨_, e⟩ <;> rw [e]
  · exact .of_eq rfl
  · exact (State.setPausesBy_queues pen go change _ _).left rfl

end

theorem State.swapStopped_queues (s : State) : s.Queues kinds s.swapStopped := by
  have swapped : s.Queues kinds (s.swapTable .charge) := Upq.Queues.nothing.reply _
  exact swapped.trans ((State.rebudgetBy_queues pen _ State.enterCharger_queues _ _).left rfl)

theorem State.toCharger_queues (s : State) (c : ChargerState) : s.Queues kinds (s.toCharger c) := by
  have entered : s.Queues kinds (s.enterCharger c) := s.enterCharger_queues c
  rcases s.toCharger_cases c with ⟨_, _, _, e⟩ | ⟨_, e⟩ <;> rw [e]
  · exact entered.trans (State.swapStopped_queues pen _)
  · exact entered

theorem State.judgeSleep_queues (s : State) : s.Queues kinds s.judgeSleep :=
  State.setPausesBy_queues pen _ (State.toCharger_queues pen) s _

theorem State.rebudget_queues (s : State) (p : Spm) : s.Queues kinds (s.rebudget p) :=
  State.rebudgetBy_queues pen _ (State.toCharger_queues pen) s p

theorem State.wakeSource_queues (wake : .wake ∈ kinds) (s : State) (w : WakeSource) : s.Queues kinds (s.wakeSource w) := by
  rcases s.wakeSource_cases w with ⟨_, e⟩ | ⟨_, _, _, e⟩ | ⟨_, _, _, e⟩ | ⟨_, _, _, e⟩ | ⟨_, _, e⟩ | ⟨_, _, _, _, e⟩ <;> rw [e]
  · exact .of_eq rfl
  · exact .of_eq (by simp)
  · exact .of_eq (by simp)
  · refine State.Queues.trans ?_ (State.judgeSleep_queues pen _)
    exact (State.notice_queues _ _ wake).left (by simp)
  · exact (State.notice_queues _ _ wake).left rfl
  · exact .of_eq rfl

end

/-! ### What the posture, the latch and the activity queue -/

section
variable (sleep : .sleep ∈ kinds)
include sleep

theorem State.activity_queues (s : State) (change : Bool) : s.Queues kinds (s.activity change) := by
  rcases s.activity_cases change with ⟨_, _, e⟩ | ⟨_, _, e⟩ | ⟨_, _, e⟩ | ⟨_, e⟩ <;> rw [e]
  · exact (State.notice_queues _ _ sleep).left rfl
  · exact (State.notice_queues _ _ sleep).left rfl
  · exact (State.notice_queues _ _ sleep).left rfl
  · exact .of_eq rfl

theorem State.detachNotice_queues (detach : .detach ∈ kinds) (s : State) (o : DetachOutcome) (src : Option ReleaseSource)
    (before : DetachState) : s.Queues kinds (s.detachNotice o src before) :=
  (s.notice_queues _ detach).trans (State.activity_queues sleep _ false)

theorem State.spmPosture_queues (pen : .pen ∈ kinds) (s : State) : s.Queues kinds s.spmPosture := by
  have formed : s.Queues kinds (s.activity true).formTarget := (State.activity_queues sleep s true).trans (.of_eq (by simp))
  have judged : s.Queues kinds (s.activity true).formTarget.judgeSleep := formed.trans (State.judgeSleep_queues pen _)
  exact judged.trans (State.leaveDeep_queues _)

end

/-- R126: the DETACH notice waits in the queue, whatever the activity that it counts as queues behind it. -/
theorem State.detachNotice_holds (s : State) (o : DetachOutcome) (src : Option ReleaseSource) (before : DetachState) :
    (s.detachNotice o src before).upq.Holds (.detach o src before s.dlu.state s.pins.lsns s.posture) := by
  have told := State.activity_queues (kinds := [.sleep]) (by decide)
    (s.notice (.detach o src before s.dlu.state s.pins.lsns s.posture)) false
  exact (told.holds_iff (by simp [Notice.kind])).mpr (Upq.issue_holds _ _)

end

end Sys2Proof.Machine
end

section
/-!
PROOFS. The two ends of presence: the entry to IDENTIFY, which asks for a clock start in DEEP, and the entry to ABSENT step by step (R72);
and from these the statement about presence (O19).
-/

namespace Sys2Proof.Machine

/-! ### Counters -/

theorem State.bumpBy_get_of_ne (s : State) {j k : Counter} (other : j ≠ k) (n : Nat) :
    (s.bumpBy k n).counters.get j = s.counters.get j := by
  rcases s.bumpBy_cases k n with ⟨_, _, e⟩ | ⟨_, e⟩ <;> rw [e]
  · simp [State.event, other]
  · simp [other]

theorem State.bumpBy_queues {kinds : List NoticeKind} (event : .event ∈ kinds) (s : State) (k : Counter) (n : Nat) :
    s.Queues kinds (s.bumpBy k n) := by
  rcases s.bumpBy_cases k n with ⟨_, _, e⟩ | ⟨_, e⟩ <;> rw [e]
  · exact (State.notice_queues _ _ event).left rfl
  · exact .of_eq rfl

/-! ### ATTACH_CONFIRMED -/

/-- R175: outside DEEP nothing brings a clock start. -/
theorem State.leaveDeep_of_awake {s : State} (awake : s.spm.hub ≠ .deep) : s.leaveDeep = s := by
  unfold State.leaveDeep State.startClock
  simp [awake]

/-- R73, R75, R175: a link that asks for transactions brings a clock start in DEEP, or finds one in progress. -/
theorem State.leaveDeep_clock {s : State} (deep : s.spm.hub = .deep) (asks : s.linkAsks = true) :
    s.leaveDeep.spm.clock.isSome = true := by
  have barred : s.deepBarred = true := by simp [State.deepBarred, asks]
  unfold State.leaveDeep
  rw [if_pos barred]
  rcases s.startClock_cases with ⟨_, _, e⟩ | ⟨running, e⟩ <;> rw [e]
  · rfl
  · exact Option.isSome_iff_ne_none.mpr (running.resolve_left fun h => h deep)

theorem State.leaveDeep_onlyIn (s : State) : s.OnlyIn [.spm] s.leaveDeep := by
  intro p outside
  cases p <;> first | exact absurd (by decide) outside | simp [Part.Same]

/-! ### What the engine, the latch and the supply lose with the base -/

section
variable (s : State)

/-- R123, R125: only CLOSED acts on the latch. -/
theorem State.dluPosture_opened (opened : s.posture ≠ .closed) : s.dluPosture = s := if_neg opened

section
variable {p : Posture} (opened : p ≠ .closed) (row : Option Nat) (permission : Bool) (cause : PostureCause)
include opened

theorem State.changePosture_opened :
    s.changePosture p row permission cause =
      (({ s with pae.record := ⟨p, row, permission, s.ticks⟩ } : State).notice
        (.posture p s.posture row permission cause s.pae.hinge.status s.pae.hinge.theta)).spmPosture := by
  unfold State.changePosture
  rw [State.dluPosture_opened _ (by simpa [State.posture] using opened)]

theorem State.changePosture_dlu : (s.changePosture p row permission cause).dlu = s.dlu := by
  rw [s.changePosture_opened opened]
  simp

theorem State.changePosture_queues : s.Queues [.posture, .sleep, .pen] (s.changePosture p row permission cause) := by
  rw [s.changePosture_opened opened]
  refine State.Queues.trans ?_ (State.spmPosture_queues (by decide) (by decide) _)
  exact (State.notice_queues _ _ (by simp [Notice.kind])).left rfl

end

/-- R42: the engine hands a change of posture on only where the posture was another. -/
theorem State.paeAbsent_cases :
    let forgotten : State := { s with pae := { s.pae with hinge := .empty, baseFilter := none, baseAge := none, candidate := none } }
    (s.posture = .detached ∧ s.paeAbsent = { forgotten with pae.record := { s.pae.record with row := none, permission := false } }) ∨
    (s.posture ≠ .detached ∧ s.paeAbsent = forgotten.changePosture .detached none false .link) := by
  by_cases posture : s.posture = .detached
  · exact .inl ⟨posture, if_pos posture⟩
  · exact .inr ⟨posture, if_neg posture⟩

/-- R22, R24, R30, R42: the posture engine without a base. -/
theorem State.paeAbsent_pae :
    ∃ changed, s.paeAbsent.pae = { s.pae with
      hinge := .empty, baseFilter := none, baseAge := none, candidate := none, record := ⟨.detached, none, false, changed⟩ } := by
  rcases s.paeAbsent_cases with ⟨posture, e⟩ | ⟨_, e⟩ <;> rw [e]
  · exact ⟨s.pae.record.changed, by rw [← posture]; rfl⟩
  · exact ⟨_, State.changePosture_pae _ _ _ _ _⟩

theorem State.paeAbsent_dlu : s.paeAbsent.dlu = s.dlu := by
  rcases s.paeAbsent_cases with ⟨_, e⟩ | ⟨_, e⟩ <;> rw [e]
  exact State.changePosture_dlu _ (by decide) _ _ _

theorem State.paeAbsent_queues : s.Queues [.posture, .sleep, .pen] s.paeAbsent := by
  rcases s.paeAbsent_cases with ⟨_, e⟩ | ⟨_, e⟩ <;> rw [e]
  · exact .of_eq rfl
  · exact (State.changePosture_queues _ (by decide) _ _ _).left rfl

theorem State.paeAbsent_tablesStand : s.TablesStand s.paeAbsent := by
  rcases s.paeAbsent_cases with ⟨_, e⟩ | ⟨_, e⟩ <;> rw [e]
  · exact .inl rfl
  · exact (State.changePosture_handsOver _ _ _ _ _).swaps.tables.left rfl

/-! ### The latch and the supply without a base -/

theorem State.detached_dlu : s.detached.dlu = .initial := by
  unfold State.detached
  simp

theorem State.detached_holds :
    s.detached.upq.Holds (.detach .detached none s.dlu.state .absent s.pins.lsns s.posture) := by
  let unclaimed := ({ s with dlu := .initial } : State).setLatchClaim 0
  have told := unclaimed.detachNotice_holds .detached none s.dlu.state
  have latch : unclaimed.dlu.state = .absent := by simp [unclaimed, Dlu.initial]
  have lsns : unclaimed.pins.lsns = s.pins.lsns := by simp [unclaimed]
  have posture : unclaimed.posture = s.posture := by simp [unclaimed, State.posture]
  rw [latch, lsns, posture] at told
  have woken := State.wakeSource_queues (kinds := [.pen, .wake]) (by decide) (by decide)
    (unclaimed.detachNotice .detached none s.dlu.state) .baseDetach
  exact (woken.holds_iff (by simp [Notice.kind])).mpr told

theorem State.detached_queues : s.Queues [.pen, .detach, .sleep, .wake] s.detached := by
  refine State.Queues.trans ?_ (State.wakeSource_queues (by decide) (by decide) _ .baseDetach)
  refine State.Queues.trans ?_ (State.detachNotice_queues (by decide) (by decide) _ .detached none s.dlu.state)
  exact (State.rebudget_queues (by decide) _ _).left rfl

theorem State.detached_tablesStand : s.TablesStand s.detached := by
  have unclaimed : s.TablesStand (({ s with dlu := .initial } : State).setLatchClaim 0) :=
    (State.setLatchClaim_handsOver _ 0).swaps.tables.left rfl
  have told := unclaimed.trans (State.detachNotice_handsOver _ .detached none s.dlu.state).swaps.tables
  exact told.trans (State.wakeSource_swapsAtMost _ .baseDetach).tables

theorem State.setPower_lastPower (r : Option PowerReport) : (s.setPower r).spm.lastPower = r := by
  have follows := s.rebudget_spm { s.spm with lastPower := r, supply := supplyTerm s.policy r }
  exact congrArg Spm.lastPower follows

theorem State.setPower_queues (r : Option PowerReport) : s.Queues [.pen] (s.setPower r) :=
  State.rebudget_queues (by decide) _ _

theorem State.setPower_tablesStand (r : Option PowerReport) : s.TablesStand (s.setPower r) :=
  (State.rebudgetBy_swapsAtMost _ State.toCharger_swapsAtMost s _).tables

/-! ### The entry to ABSENT -/

/-- R72, R85, R92, R115: the link itself, the polls, the counted flush and the button. -/
def State.linkLost : State := ({ s with blk := .initial } : State).leaveRunning.flushWrites true

/-- R72: the engine and the latch after it. -/
def State.baseLost : State := if s.dlu.state = .absent then s.linkLost.paeAbsent else s.linkLost.paeAbsent.detached

theorem State.enterAbsent_eq : s.enterAbsent true = s.baseLost.setPower none := rfl

theorem State.linkLost_eq :
    s.linkLost = ({ s with
      blk := .initial, psc := ⟨List.replicate 12 0, List.replicate 12 0, []⟩
      dlu := { s.dlu with button := .unknown, holdTimer := none } } : State).bumpBy .writeDiscard s.psc.writes.length := rfl

@[simp] theorem State.linkLost_frame :
    s.linkLost.pending = s.pending ∧ s.linkLost.ticks = s.ticks ∧ s.linkLost.pins = s.pins ∧ s.linkLost.tables = s.tables ∧
    s.linkLost.cnv = s.cnv ∧ s.linkLost.pae = s.pae ∧ s.linkLost.blk = .initial ∧
    s.linkLost.psc = ⟨List.replicate 12 0, List.replicate 12 0, []⟩ ∧
    s.linkLost.dlu = { s.dlu with button := .unknown, holdTimer := none } ∧ s.linkLost.spm = s.spm ∧ s.linkLost.slk = s.slk := by
  rw [s.linkLost_eq]
  simp

theorem State.linkLost_queues : s.Queues [.event] s.linkLost := by
  rw [s.linkLost_eq]
  exact (State.bumpBy_queues (by decide) _ _ _).left rfl

/-- R113, R116, R122, R124: a latch in ABSENT that knows nothing of its button. -/
theorem State.LatchOk.dlu_absent {s : State} (ok : s.LatchOk) (absent : s.dlu.state = .absent) :
    { s.dlu with button := .unknown, holdTimer := none } = Dlu.initial := by
  obtain ⟨ldrv, request, pulse, window, source, _, timedOut, _⟩ := ok
  simp only [absent] at ldrv request pulse window source
  simp_all [Dlu.initial]

theorem State.baseLost_dlu (ok : s.LatchOk) : s.baseLost.dlu = .initial := by
  unfold State.baseLost
  split
  · rename_i absent
    rw [State.paeAbsent_dlu, ← ok.dlu_absent absent]
    simp
  · exact State.detached_dlu _

theorem State.baseLost_pae :
    ∃ changed, s.baseLost.pae = { s.pae with
      hinge := .empty, baseFilter := none, baseAge := none, candidate := none, record := ⟨.detached, none, false, changed⟩ } := by
  obtain ⟨changed, forgotten⟩ := s.linkLost.paeAbsent_pae
  refine ⟨changed, ?_⟩
  unfold State.baseLost
  split <;> simp [forgotten]

theorem State.baseLost_queues : s.Queues [.event, .posture, .sleep, .pen, .detach, .wake] s.baseLost := by
  have link := s.linkLost_queues.mono (more := [.event, .posture, .sleep, .pen, .detach, .wake]) (by decide)
  have engine := link.trans (s.linkLost.paeAbsent_queues.mono (by decide))
  unfold State.baseLost
  split
  · exact engine
  · exact engine.trans ((State.detached_queues _).mono (by decide))

theorem State.baseLost_holds (present : s.dlu.state ≠ .absent) :
    s.baseLost.upq.Holds (.detach .detached none s.dlu.state .absent s.pins.lsns .detached) := by
  have told := s.linkLost.paeAbsent.detached_holds
  obtain ⟨_, engine⟩ := s.linkLost.paeAbsent_pae
  have posture : s.linkLost.paeAbsent.posture = .detached := congrArg (·.record.posture) engine
  rw [posture, State.paeAbsent_dlu] at told
  unfold State.baseLost
  rw [if_neg present]
  simpa using told

theorem State.baseLost_tablesStand : s.TablesStand s.baseLost := by
  have link : s.TablesStand s.linkLost := .inl (by simp)
  have engine := link.trans s.linkLost.paeAbsent_tablesStand
  unfold State.baseLost
  split
  · exact engine
  · exact engine.trans (State.detached_tablesStand _)

/-- What the engine, the latch and the supply leave as the link left it. -/
theorem State.baseLost_frame :
    s.baseLost.blk = .initial ∧ s.baseLost.psc = ⟨List.replicate 12 0, List.replicate 12 0, []⟩ ∧
    s.baseLost.counters = s.linkLost.counters := by
  unfold State.baseLost
  split <;> simp

/-! ### The statement -/

/-- The parts that a command of the base link may touch. -/
def linkParts : List Part := [.counters, .tables, .cnv, .pae, .blk, .psc, .pch, .bcd, .dlu, .spm, .upq]

theorem State.OnlyIn.of_link {s t : State} (pending : t.pending = s.pending) (ticks : t.ticks = s.ticks) (pins : t.pins = s.pins)
    (slk : t.slk = s.slk) : s.OnlyIn linkParts t := by
  intro p outside
  cases p <;> first | assumption | exact absurd (by decide) outside

theorem exec_attachConfirmed {s : State} (attaching : s.blk.link = .attaching) (present : 20 ≤ s.blk.presentCount) :
    exec .attachConfirmed s = .next ({ s with blk.link := .identify, blk.attempts := 0 } : State).leaveDeep :=
  congrArg Host.Outcome.next (if_pos ⟨attaching, present⟩)

theorem exec_presenceLoss {s : State} (present : s.blk.link ≠ .absent) (lost : 2 ≤ s.blk.absentCount) :
    exec .presenceLoss s = .next (s.baseLost.setPower none) :=
  congrArg Host.Outcome.next ((if_pos ⟨present, lost⟩).trans s.enterAbsent_eq)

end

/-- Settles O19: an entry to IDENTIFY is a link that asks, so `State.leaveDeep` starts the clock in DEEP; the entry to ABSENT is
`State.linkLost`, then `State.baseLost`, then the supply's, each of which leaves what the ones before it set. -/
theorem presenceIsConfirmedAndLost : Obligations.PresenceIsConfirmedAndLost := by
  intro s
  refine ⟨fun attaching present => ?_, fun present lost => ?_⟩
  · let u : State := { s with blk.link := .identify, blk.attempts := 0 }
    have entered : s.OnlyIn [.blk, .spm] u := by
      intro p outside
      cases p <;> first | exact absurd (by decide) outside | rfl
    refine ⟨u.leaveDeep, exec_attachConfirmed attaching present, by simp [u], fun awake => ?_, fun deep => ?_,
      entered.trans (u.leaveDeep_onlyIn.mono (by decide))⟩
    · rw [State.leaveDeep_of_awake (s := u) awake]
    · exact State.leaveDeep_clock (s := u) deep rfl
  · obtain ⟨changed, engine⟩ := s.baseLost_pae
    obtain ⟨blk, psc, counters⟩ := s.baseLost_frame
    obtain ⟨pending, ticks, pins, slk⟩ := s.enterAbsent_eq ▸ s.enterAbsent_frame true
    have supply := s.baseLost.setPower_queues none
    let t := s.baseLost.setPower none
    have pae : t.pae = s.baseLost.pae := by simp [t]
    have counted : t.counters = s.linkLost.counters := by simpa [t] using counters
    rw [engine] at pae
    refine ⟨t, exec_presenceLoss present lost, ?_, by simpa [t] using psc, ?_, fun k other => ?_, ?_, by rw [pae], by rw [pae],
      by rw [pae], by rw [pae]; rfl, by rw [pae], by rw [pae], by rw [pae], by rw [pae], by rw [pae], fun ok => ?_,
      fun latched => ?_, s.baseLost.setPower_lastPower none, fun e member report => ?_,
      s.baseLost_tablesStand.trans (s.baseLost.setPower_tablesStand none), .of_link pending ticks pins slk⟩
    · exact (by simp [t] : t.blk = s.baseLost.blk).trans blk
    · rw [counted, s.linkLost_eq]
      exact State.bumpBy_get _ _ _
    · rw [counted, s.linkLost_eq]
      exact State.bumpBy_get_of_ne _ other _
    · rw [State.posture, pae]
    · exact (by simp [t] : t.dlu = s.baseLost.dlu).trans (s.baseLost_dlu ok)
    · exact (supply.holds_iff (by simp [Notice.kind])).mpr (s.baseLost_holds latched)
    · exact supply.report (s.baseLost_queues.report member report) report

end Sys2Proof.Machine
end

section
/-!
PROOFS. What a received character decides, case by case; the state that an error leaves before the link acts on it, and the entry to
FAULT from there; and from these the statement about failed transactions (O22).
-/

namespace Sys2Proof.Machine

/-! ### Characters and their judgement -/

section
variable {w : Txn} {c l : Byte} {data : List Byte}

theorem judgeChar_status_ok (write : w.write = true) : judgeChar w 0xA5 = .success [] := by
  rw [judgeChar, if_pos write]
  exact if_pos rfl

theorem judgeChar_status_refused (write : w.write = true) (other : c ≠ 0xA5) : judgeChar w c = .failure .refused := by
  rw [judgeChar, if_pos write]
  exact if_neg other

section
variable (read : w.write = false)
include read

theorem judgeChar_read : judgeChar w c = judgeRead w c := if_neg (by simp [read])

/-- R62, R73: the limits of a length character. -/
theorem judgeChar_length_ok (first : w.received = []) (limit : c.toNat ≤ w.limit) (most : c.toNat ≤ 32)
    (least : w.fn = .id → 5 ≤ c.toNat) : judgeChar w c = .more := by
  have ok : lengthOk w c.toNat = true := by
    by_cases id : w.fn = .id <;> simp [lengthOk, limit, most, id]
    exact least id
  rw [judgeChar_read read, judgeRead, first]
  exact if_pos ok

theorem judgeChar_length_bad (first : w.received = []) (bad : w.limit < c.toNat ∨ 32 < c.toNat ∨ (w.fn = .id ∧ c.toNat < 5)) :
    judgeChar w c = .failure .length := by
  have bad : ¬lengthOk w c.toNat = true := by
    rcases bad with limit | most | ⟨id, least⟩
    · simp [lengthOk, limit]
    · simp [lengthOk, most]
    · simp [lengthOk, id, least]
  rw [judgeChar_read read, judgeRead, first]
  exact if_neg bad

variable (received : w.received = l :: data)
include received

theorem judgeChar_data (short : data.length < l.toNat) : judgeChar w c = .more := by
  rw [judgeChar_read read, judgeRead, received]
  exact if_pos short

variable (full : l.toNat ≤ data.length)
include full

theorem judgeChar_check_ok (check : crc8 (l :: data) = c) : judgeChar w c = .success data := by
  rw [judgeChar_read read, judgeRead, received]
  exact (if_neg (Nat.not_lt.mpr full)).trans (if_pos check)

theorem judgeChar_check_bad (check : crc8 (l :: data) ≠ c) : judgeChar w c = .failure .check := by
  rw [judgeChar_read read, judgeRead, received]
  exact (if_neg (Nat.not_lt.mpr full)).trans (if_neg check)

end

end

section
variable {s : State} {w : Txn} (txn : s.blk.txn = some w)
include txn

theorem State.sending_eq (unreleased : w.deadline = none) : s.sending = some w := by
  rw [State.sending, txn]
  exact if_pos unreleased

variable {d time : Nat} (released : w.deadline = some d)
include released

theorem State.receiving_eq (early : time ≤ d * w.rate.tbit) : s.receiving time = some w := by
  rw [State.receiving, txn]
  dsimp only
  rw [released]
  exact if_pos early

theorem State.overdue_eq (late : d * w.rate.tbit ≤ time) : s.overdue time = some w := by
  rw [State.overdue, txn]
  dsimp only
  rw [released]
  exact if_pos late

theorem exec_baseCharacterReceived (early : time ≤ d * w.rate.tbit) (c : Byte) :
    exec (.baseCharacterReceived c time) s = .next (s.takeChar w c) := by
  change execBaseCharacterReceived c time s = _
  rw [execBaseCharacterReceived, State.receiving_eq txn released early]

theorem exec_transactionFailure_judged (early : time ≤ d * w.rate.tbit) (c : Byte) :
    exec (.transactionFailure (.judged c time)) s = .next (s.failChar w c) := by
  change execTransactionFailure (.judged c time) s = _
  simp only [execTransactionFailure, State.receiving_eq txn released early]

end

/-! ### A counter that rises -/

/-- R66, R94: the EVENT notices of a counter that reaches 255. -/
def State.saturation (s : State) (k : Counter) (n : Nat) : List EventCode :=
  if s.counters.get k < 255 ∧ 255 ≤ s.counters.get k + n then [.counterSaturated] else []

theorem State.saturation_one (s : State) (k : Counter) :
    s.saturation k 1 = if s.counters.get k = 254 then [.counterSaturated] else [] := if_congr (by omega) rfl rfl

theorem State.bumpBy_eq (s : State) (k : Counter) (n : Nat) :
    s.bumpBy k n = { s with
      counters := s.counters.set k (min (s.counters.get k + n) 255), upq := s.upq.events (s.saturation k n) } := by
  rcases s.bumpBy_cases k n with ⟨low, full, e⟩ | ⟨no, e⟩ <;> rw [e, State.saturation]
  · rw [if_pos ⟨low, by omega⟩, full]
    rfl
  · rw [if_neg fun h => no ⟨h.1, by omega⟩]
    rfl

theorem LineError.counter_ne_writeDiscard (e : LineError) : e.counter ≠ .writeDiscard := by cases e <;> decide

/-! ### The entry to FAULT -/

/-- R125: what the end of a waiting request does to the latch. -/
theorem State.abortRequest_dlu (s : State) : s.abortRequest.dlu = { s.dlu with state := .latched, requestTimer := none } := by
  unfold State.abortRequest
  simp

theorem State.abortRequest_holds (s : State) :
    s.abortRequest.upq.Holds (.detach .aborted none .requested .latched s.pins.lsns s.posture) :=
  State.detachNotice_holds _ _ _ _

theorem State.abortRequest_queues (s : State) : s.Queues [.detach, .sleep] s.abortRequest :=
  (State.detachNotice_queues (by decide) (by decide) _ _ _ _).left rfl

/-- R68, R75, R85, R92, R115: the state in FAULT before a waiting detach request is ended. -/
def State.faulted (s : State) : State :=
  { s with
    blk := { s.blk with
      link := .fault, rate := .k250, consecutive := 0, retryTimer := some 0, retryDue := false }
    psc := ⟨List.replicate 12 0, List.replicate 12 0, []⟩
    counters := s.counters.set .writeDiscard (min (s.counters.get .writeDiscard + s.psc.writes.length) 255)
    dlu := { s.dlu with button := .unknown, holdTimer := none }
    upq := s.upq.events (.baseFault :: s.saturation .writeDiscard s.psc.writes.length) }

theorem State.enterFault_eq (s : State) :
    s.enterFault = if s.dlu.state = .requested then s.faulted.abortRequest else s.faulted := by
  let left := (({ s with
    blk := { s.blk with
      link := .fault, rate := .k250, consecutive := 0, retryTimer := some 0, retryDue := false } } : State).event .baseFault).leaveRunning
  have flushed : left.flushWrites true = s.faulted := State.bumpBy_eq { left with psc.writes := [] } .writeDiscard s.psc.writes.length
  change (if (left.flushWrites true).dlu.state = .requested then _ else _) = _
  rw [flushed]
  rfl

/-- R66: the state after a transaction with its one error counted, with the link and the scheduler as they are given. -/
def State.errored (s : State) (k : Counter) (blk : Blk) (psc : Psc) : State :=
  { s with
    blk := blk, psc := psc, counters := s.counters.set k (min (s.counters.get k + 1) 255)
    upq := s.upq.events (s.saturation k 1) }

section
variable (s : State) {k : Counter} (blk : Blk) (psc : Psc)

theorem State.errored_get : (s.errored k blk psc).counters.get k = min (s.counters.get k + 1) 255 := Counters.get_set_self _ _ _

variable (other : k ≠ .writeDiscard)
include other

/-- The entry to FAULT by an error, as far as a waiting detach request does not matter. -/
theorem State.errored_faulted_spec :
    let f := (s.errored k blk psc).faulted
    f.counters.get k = min (s.counters.get k + 1) 255 ∧
    f.counters.get .writeDiscard = min (s.counters.get .writeDiscard + psc.writes.length) 255 ∧
    f.upq = s.upq.events (s.saturation k 1 ++ [.baseFault] ++ s.saturation .writeDiscard psc.writes.length) := by
  have discard : (s.errored k blk psc).counters.get .writeDiscard = s.counters.get .writeDiscard :=
    Counters.get_set_of_ne _ _ _ _ other.symm
  refine ⟨?_, ?_, ?_⟩
  · exact (Counters.get_set_of_ne _ _ _ _ other).trans (s.errored_get blk psc)
  · rw [← discard]
    exact Counters.get_set_self (s.errored k blk psc).counters .writeDiscard _
  · have same : s.saturation .writeDiscard psc.writes.length =
        (s.errored k blk psc).saturation .writeDiscard psc.writes.length := by
      rw [State.saturation, State.saturation, discard]
    rw [List.append_assoc, Upq.events_append, same]
    rfl

/-- R68, R75, R92, R125. -/
theorem State.errored_entersFault :
    let t := (s.errored k blk psc).enterFault
    s.EntersFault k psc.writes.length t ∧ t.blk.txn = blk.txn := by
  obtain ⟨error, discarded, told⟩ := s.errored_faulted_spec blk psc other
  rw [s.saturation_one k] at told
  intro t
  have entered : t = _ := State.enterFault_eq _
  by_cases requested : s.dlu.state = .requested
  · have ended : t = (s.errored k blk psc).faulted.abortRequest := entered.trans (if_pos requested)
    rw [ended]
    refine ⟨⟨by simp [State.faulted], by simp [State.faulted], by simpa using error, by simpa using discarded, ?_, ?_, ?_, ?_⟩,
      by simp [State.faulted, State.errored]⟩
    · rw [if_pos requested, State.abortRequest_dlu]
      rfl
    · exact fun _ => State.abortRequest_holds _
    · exact fun no => absurd requested no
    · intro _ code count
      exact told ▸ (State.abortRequest_queues _).holds_iff (by simp [Notice.kind])
  · have ended : t = (s.errored k blk psc).faulted := entered.trans (if_neg requested)
    rw [ended]
    exact ⟨⟨⟨rfl, rfl, rfl, rfl, rfl⟩, rfl, error, discarded, (if_neg requested).symm, fun h => absurd h requested,
      fun _ => told, fun h => absurd h requested⟩, rfl⟩

end

/-! ### A failed transaction -/

/-- R65, R79: the link after the end of a transaction. -/
def Blk.ended (b : Blk) (low : Option LineLow) : Blk := { b with txn := none, low := low }

section
variable (s : State) (w : Txn) (e : LineError) (low : Option LineLow)

/-- R91: the scheduler after a poll or a write is settled. -/
def State.settledPsc : Psc :=
  if w.write then { s.psc with writes := s.psc.writes.tail }
  else match s.slotOf w.fn with
    | some i => { s.psc with owed := s.psc.owed.set i (s.owed i - 1) }
    | none => s.psc

theorem State.settlePoll_eq : s.settlePoll w = { s with psc := s.settledPsc w } := by
  unfold State.settlePoll State.settledPsc
  cases w.write <;> cases s.slotOf w.fn <;> rfl

theorem State.settledPsc_writes : (s.settledPsc w).writes = if w.write then s.psc.writes.tail else s.psc.writes := by
  unfold State.settledPsc
  cases w.write <;> cases s.slotOf w.fn <;> rfl

/-- R66: an error is counted before the link acts on it. -/
theorem State.fail_eq :
    s.fail w e low =
      if w.fn = .id then
        if s.blk.link = .identify then (s.errored e.counter (s.blk.ended low) s.psc).attemptFailed
        else s.errored e.counter { s.blk.ended low with retryTimer := some 0, retryDue := false } s.psc
      else (s.errored e.counter (s.blk.ended low) (s.settledPsc w)).pollFailed := by
  have counted : ({ s with blk := s.blk.ended low } : State).bump e.counter = s.errored e.counter (s.blk.ended low) s.psc :=
    State.bumpBy_eq _ _ _
  have settled : (s.errored e.counter (s.blk.ended low) s.psc).settlePoll w =
      s.errored e.counter (s.blk.ended low) (s.settledPsc w) := State.settlePoll_eq _ _
  change (let u := ({ s with blk := s.blk.ended low } : State).bump e.counter
    if w.fn = .id then
      if u.blk.link = .identify then u.attemptFailed else { u with blk := { u.blk with retryTimer := some 0, retryDue := false } }
    else (u.settlePoll w).pollFailed) = _
  rw [counted, ← settled]
  rfl

section
variable (id : w.fn = .id)
include id

theorem State.fail_again (identify : s.blk.link = .identify) (few : s.blk.attempts + 1 < 3) :
    s.fail w e low = s.errored e.counter { s.blk.ended low with attempts := s.blk.attempts + 1 } s.psc := by
  rw [State.fail_eq, if_pos id, if_pos identify]
  rcases (s.errored e.counter (s.blk.ended low) s.psc).attemptFailed_cases with ⟨third, _⟩ | ⟨_, failed⟩
  · exact absurd third (Nat.not_le.mpr few)
  · rw [failed, ← Nat.min_eq_left few.le]
    rfl

theorem State.fail_third (identify : s.blk.link = .identify) (third : 3 ≤ s.blk.attempts + 1) :
    ∃ blk : Blk, blk.txn = none ∧ s.fail w e low = (s.errored e.counter blk s.psc).enterFault := by
  rw [State.fail_eq, if_pos id, if_pos identify]
  rcases (s.errored e.counter (s.blk.ended low) s.psc).attemptFailed_cases with ⟨_, failed⟩ | ⟨few, _⟩
  · exact ⟨{ s.blk.ended low with attempts := min (s.blk.attempts + 1) 3 }, rfl, failed⟩
  · exact absurd third (Nat.not_le.mpr few)

theorem State.fail_retries (other : s.blk.link ≠ .identify) :
    s.fail w e low = s.errored e.counter { s.blk.ended low with retryTimer := some 0, retryDue := false } s.psc := by
  rw [State.fail_eq, if_pos id, if_neg other]

end

section
variable (other : w.fn ≠ .id)
include other

theorem State.fail_settles (few : min (s.blk.consecutive + 1) 15 < s.sched.failLimit) :
    s.fail w e low =
      s.errored e.counter { s.blk.ended low with consecutive := min (s.blk.consecutive + 1) 15 } (s.settledPsc w) := by
  rw [State.fail_eq, if_neg other]
  rcases (s.errored e.counter (s.blk.ended low) (s.settledPsc w)).pollFailed_cases with ⟨limit, _⟩ | ⟨_, failed⟩
  · exact absurd limit (Nat.not_le.mpr few)
  · exact failed

theorem State.fail_limit (limit : s.sched.failLimit ≤ min (s.blk.consecutive + 1) 15) :
    ∃ blk : Blk, blk.txn = none ∧ s.fail w e low = (s.errored e.counter blk (s.settledPsc w)).enterFault := by
  rw [State.fail_eq, if_neg other]
  rcases (s.errored e.counter (s.blk.ended low) (s.settledPsc w)).pollFailed_cases with ⟨_, failed⟩ | ⟨few, _⟩
  · exact ⟨{ s.blk.ended low with consecutive := min (s.blk.consecutive + 1) 15 }, rfl, failed⟩
  · exact absurd limit (Nat.not_le.mpr few)

end

/-- Whatever the link state, a failure leaves the error counted, or the entry to FAULT from there. -/
theorem State.fail_errored :
    ∃ blk psc, s.fail w e low = s.errored e.counter blk psc ∨ s.fail w e low = (s.errored e.counter blk psc).enterFault := by
  by_cases id : w.fn = .id
  · by_cases identify : s.blk.link = .identify
    · rcases Nat.lt_or_ge (s.blk.attempts + 1) 3 with few | third
      · exact ⟨_, _, .inl (s.fail_again w e low id identify few)⟩
      · obtain ⟨_, _, failed⟩ := s.fail_third w e low id identify third
        exact ⟨_, _, .inr failed⟩
    · exact ⟨_, _, .inl (s.fail_retries w e low id identify)⟩
  · rcases Nat.lt_or_ge (min (s.blk.consecutive + 1) 15) s.sched.failLimit with few | limit
    · exact ⟨_, _, .inl (s.fail_settles w e low id few)⟩
    · obtain ⟨_, _, failed⟩ := s.fail_limit w e low id limit
      exact ⟨_, _, .inr failed⟩

/-- R66: exactly one error is counted. -/
theorem State.fail_get : (s.fail w e low).counters.get e.counter = min (s.counters.get e.counter + 1) 255 := by
  obtain ⟨blk, psc, failed | failed⟩ := s.fail_errored w e low <;> rw [failed]
  · exact s.errored_get blk psc
  · exact (s.errored_entersFault blk psc e.counter_ne_writeDiscard).1.error

/-- The parts that a failed transaction may touch. -/
def failureParts : List Part := [.counters, .blk, .psc, .dlu, .spm, .upq]

theorem State.fail_onlyIn : s.OnlyIn failureParts (s.fail w e low) := by
  obtain ⟨pending, ticks, pins, tables, cnv, pae, pch, bcd, slk⟩ := s.fail_frame w e low
  intro p outside
  cases p <;> first | assumption | exact absurd (by decide) outside

end

/-! ### The commands that end a transaction by an error -/

section
variable {s : State} {w : Txn} (txn : s.blk.txn = some w)
include txn

section
variable (unreleased : w.deadline = none)
include unreleased

theorem exec_transactionFailure_leadHigh : exec (.transactionFailure .leadHigh) s = .next (s.fail w .physical none) := by
  change execTransactionFailure .leadHigh s = _
  simp only [execTransactionFailure, State.sending_eq txn unreleased]

theorem exec_transactionFailure_gapLow :
    exec (.transactionFailure .gapLow) s = .next (s.fail w .bit (some ⟨true, 0, false, 0⟩)) := by
  change execTransactionFailure .gapLow s = _
  simp only [execTransactionFailure, State.sending_eq txn unreleased, LineLow.start]

theorem exec_transactionFailure_sentWrong (low : Bool) :
    exec (.transactionFailure (.sentWrong low)) s = .next (s.fail w .bit (tailLow low)) := by
  change execTransactionFailure (.sentWrong low) s = _
  simp only [execTransactionFailure, State.sending_eq txn unreleased]

end

variable {d time : Nat} (released : w.deadline = some d)
include released

theorem exec_transactionDeadline (late : d * w.rate.tbit ≤ time) (low : Bool) :
    exec (.transactionDeadline time low) s = .next (s.fail w .timeout (tailLow low)) := by
  change execTransactionDeadline time low s = _
  simp only [execTransactionDeadline, State.overdue_eq txn released late]

variable (early : time ≤ d * w.rate.tbit)
include early

theorem exec_transactionFailure_stopLow :
    exec (.transactionFailure (.stopLow time)) s = .next (s.fail w .framing (some ⟨false, 0, false, 0⟩)) := by
  change execTransactionFailure (.stopLow time) s = _
  simp only [execTransactionFailure, State.receiving_eq txn released early, LineLow.start]

/-- R65: a character that fails is one occurrence under two commands. -/
theorem exec_failing_character {c : Byte} {e : LineError} (fails : judgeChar w c = .failure e) :
    exec (.transactionFailure (.judged c time)) s = .next (s.fail w e none) ∧
    exec (.baseCharacterReceived c time) s = .next (s.fail w e none) := by
  refine ⟨(exec_transactionFailure_judged txn released early c).trans ?_,
    (exec_baseCharacterReceived txn released early c).trans ?_⟩
  · rw [State.failChar, fails]
  · rw [State.takeChar, fails]

end

/-- Settles O22: every one of these commands is `State.fail` with its error (`exec_failing_character` and its neighbours), and
`State.fail` counts the error before the link acts on it (`State.fail_eq`), in the end by the entry to FAULT
(`State.errored_entersFault`). -/
theorem aFailedTransactionCountsItsError : Obligations.AFailedTransactionCountsItsError := by
  unfold Obligations.AFailedTransactionCountsItsError
  intro ended
  have fails (s : State) (w : Txn) (e : LineError) (low : Option LineLow) : ended s w e low (s.fail w e low) := by
    refine ⟨s.fail_get w e low, fun id identify few => ?_, fun id identify third => ?_, fun id other => ?_, fun other few => ?_,
      fun other limit => ?_, s.fail_onlyIn w e low⟩
    · rw [s.fail_again w e low id identify few]
      exact ⟨rfl, rfl⟩
    · obtain ⟨blk, gone, failed⟩ := s.fail_third w e low id identify third
      rw [failed, ← gone]
      exact s.errored_entersFault blk s.psc e.counter_ne_writeDiscard
    · rw [s.fail_retries w e low id other]
      exact ⟨rfl, rfl⟩
    · rw [s.fail_settles w e low other few]
      exact ⟨rfl, rfl⟩
    · obtain ⟨blk, gone, failed⟩ := s.fail_limit w e low other limit
      rw [failed, ← gone, ← s.settledPsc_writes w]
      exact s.errored_entersFault blk (s.settledPsc w) e.counter_ne_writeDiscard
  intro s w txn
  refine ⟨fun unreleased => ⟨?_, ?_, fun low => ?_⟩, fun d time released early => ⟨?_, fun c write other => ?_,
    fun c read first bad => ?_, fun c l data read received full check => ?_⟩, fun d time low released late => ?_⟩
  · exact ⟨_, exec_transactionFailure_leadHigh txn unreleased, fails s w _ _⟩
  · exact ⟨_, exec_transactionFailure_gapLow txn unreleased, fails s w _ _⟩
  · exact ⟨_, exec_transactionFailure_sentWrong txn unreleased low, fails s w _ _⟩
  · exact ⟨_, exec_transactionFailure_stopLow txn released early, fails s w _ _⟩
  · obtain ⟨judged, taken⟩ := exec_failing_character txn released early (judgeChar_status_refused write other)
    exact ⟨⟨_, judged, fails s w _ _⟩, _, taken, fails s w _ _⟩
  · obtain ⟨judged, taken⟩ := exec_failing_character txn released early (judgeChar_length_bad read first bad)
    exact ⟨⟨_, judged, fails s w _ _⟩, _, taken, fails s w _ _⟩
  · obtain ⟨judged, taken⟩ := exec_failing_character txn released early (judgeChar_check_bad read received full check)
    exact ⟨⟨_, judged, fails s w _ _⟩, _, taken, fails s w _ _⟩
  · exact ⟨_, exec_transactionDeadline txn released late low, fails s w _ _⟩

end Sys2Proof.Machine
end

section
/-!
PROOFS. What the routing of an answer leaves alone; what the slots are owed when the link enters RUNNING, and the attach that follows;
and from these the statement about answers that are received and checked (O21).
-/

namespace Sys2Proof.Machine

/-! ### The routing of an answer -/

section
variable (s : State)

theorem State.deliverReport_tablesStand (r : Report) : s.TablesStand (s.deliverReport r) := by
  cases r with
  | power p => exact s.setPower_tablesStand (some p)
  | button pressed _ =>
    cases pressed <;> exact .inl (by simp [State.deliverReport])
  | _ => exact .inl rfl

theorem State.handOn_cases (a : RouteAction) (r : Report) :
    s.handOn a r = s ∨ ∃ w, s.handOn a r = s.wakeSource w ∨ s.handOn a r = (s.activity false).wakeSource w := by
  unfold State.handOn
  split
  · exact .inr ⟨.keys, by split <;> simp⟩
  · exact .inr ⟨.pointer, by split <;> simp⟩
  · exact .inr ⟨.button, .inl rfl⟩
  · exact .inl rfl

@[simp] theorem State.handOn_psc (a : RouteAction) (r : Report) : (s.handOn a r).psc = s.psc := by
  rcases s.handOn_cases a r with e | ⟨_, e | e⟩ <;> rw [e] <;> simp

theorem State.handOn_tablesStand (a : RouteAction) (r : Report) : s.TablesStand (s.handOn a r) := by
  rcases s.handOn_cases a r with e | ⟨w, e | e⟩ <;> rw [e]
  · exact .inl rfl
  · exact (s.wakeSource_swapsAtMost w).tables
  · exact ((s.activity_swapsAtMost false).trans (State.wakeSource_swapsAtMost _ w)).tables

/-- R95: an answer is empty, malformed, or a report that is delivered, acted on and handed on. -/
theorem State.route_cases (fn : BaseFn) (data : List Byte) :
    s.route fn data = s ∨ s.route fn data = s.bump .malformed ∨
      ∃ r a, s.route fn data = ((s.deliverReport r).applyAction a r).handOn a r := by
  unfold State.route
  split
  · exact .inl rfl
  · split
    · exact .inr (.inl rfl)
    · exact .inr (.inr ⟨_, _, rfl⟩)

theorem State.route_psc (fn : BaseFn) (data : List Byte) : (s.route fn data).psc = s.psc := by
  rcases s.route_cases fn data with e | e | ⟨_, _, e⟩ <;> rw [e] <;> simp

theorem State.route_tablesStand (fn : BaseFn) (data : List Byte) : s.TablesStand (s.route fn data) := by
  rcases s.route_cases fn data with e | e | ⟨r, a, e⟩ <;> rw [e]
  · exact .inl rfl
  · exact .inl (by simp)
  · have acted : s.TablesStand ((s.deliverReport r).applyAction a r) :=
      (s.deliverReport_tablesStand r).trans (.inl (by simp))
    exact acted.trans (State.handOn_tablesStand _ a r)

theorem State.route_onlyIn (fn : BaseFn) (data : List Byte) : s.OnlyIn linkParts (s.route fn data) := by
  obtain ⟨pending, ticks, pins, _, slk⟩ := s.route_frame fn data
  exact .of_link pending ticks pins slk

end

/-! ### What the slots are owed in RUNNING -/

section
variable (s : State)

theorem State.polledIn_iff {hub : HubPower} {i : Nat} :
    s.polledIn hub i = true ↔ hub = .run ∨ (hub = .doze ∧ (s.slot i).periodDoze ≠ 0) := by
  cases hub <;> simp [State.polledIn]

theorem State.capable_iff {r : BaseRecord} (running : s.blk.link = .running) (record : s.blk.record = some r) {i : Nat} :
    s.capable i = true ↔ i < s.sched.slotCount ∧ r.capability.getLsbD (s.slot i).fn = true := by
  simp [State.capable, running, record]

/-- R83, R88: the BUTTON slot. -/
theorem State.slotOf_button_iff {i : Nat} :
    s.slotOf .button = some i ↔ i < s.sched.slotCount ∧ (s.slot i).fn = 5 ∧ ∀ j, j < i → (s.slot j).fn ≠ 5 := by
  unfold State.slotOf
  rw [List.find?_range_eq_some]
  simp [BaseFn.number, and_left_comm]

/-- A count of one or nothing that is raised to one on a condition. -/
theorem ite_max_one (a b : Prop) [Decidable a] [Decidable b] :
    (if a then max 1 (if b then 1 else 0) else if b then 1 else 0) = if a ∨ b then 1 else 0 := by
  by_cases ha : a <;> by_cases hb : b <;> simp [ha, hb]

/-- R88: attention raises what the capable BUTTON slot is owed, and nothing else. -/
theorem State.attentionPoll_eq {owed : Nat → Nat} (held : s.psc.owed = (List.range 12).map owed) :
    s.attentionPoll = { s with psc := { s.psc with
      owed := (List.range 12).map fun i =>
        if s.slotOf .button = some i ∧ s.capable i = true then max 1 (owed i) else owed i } } := by
  unfold State.attentionPoll
  cases slot : s.slotOf .button with
  | none => simp [← held]
  | some j =>
    by_cases capable : s.capable j = true
    · have raised : s.psc.owed.set j (max 1 (s.owed j)) = (List.range 12).map fun i =>
          if some j = some i ∧ s.capable i = true then max 1 (owed i) else owed i := by
        apply List.ext_getElem (by simp [held])
        intro i _ inside
        have inside : i < 12 := by simpa using inside
        by_cases same : j = i
        · subst same
          simp [capable, State.owed, held, inside]
        · simp [same, held]
      dsimp only
      rw [if_pos capable, raised]
    · have unable : ∀ i, ¬(some j = some i ∧ s.capable i = true) := fun i h => capable (Option.some.inj h.1 ▸ h.2)
      simp only [unable, if_false, ← held]
      simp [capable]

end

section
variable (s : State) (r : BaseRecord)

/-- R74, R76, R78, R85: the link in RUNNING with a base record, and the polls started; attention that was pending has not acted yet. -/
def State.runningWith : State :=
  ({ s with
    blk := { s.blk with
      link := .running, rate := r.maxRate, record := some r, txn := none, consecutive := 0, retryTimer := none
      retryDue := false, attention := false } } : State).startPolls

/-- R78, R85, R88: the link in RUNNING with what the slots are owed. -/
def State.entered : State :=
  { s.runningWith r with psc := ⟨s.owedAtEntry r.capability s.spm.hub, List.replicate 12 0, s.psc.writes⟩ }

theorem State.runningWith_owed :
    (s.runningWith r).psc.owed = (List.range 12).map fun i =>
      if (s.runningWith r).capable i && (s.runningWith r).polledIn s.spm.hub i then 1 else 0 := rfl

theorem State.runningWith_capable_iff (i : Nat) :
    (s.runningWith r).capable i = true ↔ i < s.sched.slotCount ∧ r.capability.getLsbD (s.slot i).fn = true :=
  State.capable_iff _ rfl rfl

/-- R85: without attention the capable slots polled in the hub power state are owed one poll. -/
theorem State.runningWith_eq (quiet : s.blk.attention = false) : s.runningWith r = s.entered r := by
  have owes : (s.runningWith r).psc.owed = s.owedAtEntry r.capability s.spm.hub := by
    refine (s.runningWith_owed r).trans (List.map_congr_left fun i _ => if_congr ?_ rfl rfl)
    rw [Bool.and_eq_true, s.runningWith_capable_iff, State.polledIn_iff, and_assoc]
    simp only [quiet, Bool.false_eq_true, false_and, or_false]
    rfl
  rw [State.entered, ← owes]
  rfl

/-- R78, R88: with attention the capable BUTTON slot is owed one poll too. -/
theorem State.runningWith_attentionPoll (pending : s.blk.attention = true) : (s.runningWith r).attentionPoll = s.entered r := by
  rw [State.attentionPoll_eq _ (s.runningWith_owed r)]
  unfold State.entered State.owedAtEntry
  dsimp only
  congr 2
  refine List.map_congr_left fun i _ => ?_
  have polled : (s.runningWith r).polledIn s.spm.hub i = true ↔ _ := s.polledIn_iff
  have button : (s.runningWith r).slotOf .button = some i ↔ _ := s.slotOf_button_iff
  rw [ite_max_one]
  refine if_congr ?_ rfl rfl
  rw [Bool.and_eq_true, s.runningWith_capable_iff, polled, button]
  constructor
  · rintro (⟨⟨_, isButton⟩, slot, base⟩ | ⟨⟨slot, base⟩, run | doze⟩)
    · exact ⟨slot, base, .inr (.inr ⟨pending, isButton⟩)⟩
    · exact ⟨slot, base, .inl run⟩
    · exact ⟨slot, base, .inr (.inl doze)⟩
  · rintro ⟨slot, base, run | doze | ⟨_, isButton⟩⟩
    · exact .inr ⟨⟨slot, base⟩, .inl run⟩
    · exact .inr ⟨⟨slot, base⟩, .inr doze⟩
    · exact .inl ⟨⟨slot, isButton⟩, slot, base⟩

theorem State.identified_eq {data : List Byte} (isRecord : readRecord data = r) :
    ({ s with blk.txn := none } : State).identified data =
      if s.dlu.state = .absent then (s.entered r).attach (s.blk.link == .identify) else s.entered r := by
  have polled : (if s.blk.attention then (s.runningWith r).attentionPoll else s.runningWith r) = s.entered r := by
    cases pending : s.blk.attention
    · exact s.runningWith_eq r pending
    · exact s.runningWith_attentionPoll r pending
  rw [← polled, ← isRecord]
  rfl

/-! ### The attach -/

/-- R114: the latch counts as closed, and an open LSNS is told. -/
def State.latched : State :=
  { s with dlu.state := .latched, upq := if s.pins.lsns then s.upq else s.upq.events [.latchSense] }

theorem State.attach_eq (identified : Bool) :
    s.attach identified =
      (if identified then s.latched.detachNotice .attached none .absent else s.latched).wakeSource .baseAttach := by
  unfold State.attach State.latched
  cases s.pins.lsns <;> rfl

/-- R114: an open LSNS is told once, and the DETACH notice does not move it. -/
theorem State.latched_holds (opened : s.pins.lsns = false) (n : Notice) (other : n.kind ≠ .event) :
    (s.latched.upq.issue n).Holds (.event .latchSense s.upq.nextEventCount) := by
  refine (Upq.issue_holds_of_ne _ (Ne.symm other)).mpr ?_
  unfold State.latched
  rw [if_neg (by simp [opened])]
  exact Upq.issue_holds _ _

/-- R114, R170, R177: what the attach tells stays told. -/
theorem State.attached_queues : s.Queues [.sleep, .wake, .pen] ((s.activity false).wakeSource .baseAttach) :=
  (State.activity_queues (by decide) s false).trans (State.wakeSource_queues (by decide) (by decide) _ _)

end

/-! ### A transaction that succeeds -/

section
variable (s : State) (w : Txn) (data : List Byte)

theorem State.succeed_write (write : w.write = true) (other : w.fn ≠ .id) :
    s.succeed w data =
      { s with blk := { s.blk with txn := none, consecutive := 0 }, psc := { s.psc with writes := s.psc.writes.tail } } := by
  unfold State.succeed State.settlePoll
  simp only [if_neg other, if_pos write]

/-- R91: a poll that ends takes one from what its slot is owed. -/
theorem State.settledPsc_read (read : w.write = false) :
    s.settledPsc w = { s.psc with
      owed := match s.slotOf w.fn with
        | some i => s.psc.owed.set i (s.owed i - 1)
        | none => s.psc.owed } := by
  unfold State.settledPsc
  rw [read]
  cases s.slotOf w.fn <;> rfl

theorem State.succeed_read (read : w.write = false) (other : w.fn ≠ .id) :
    s.succeed w data =
      ({ s with blk := { s.blk with txn := none, consecutive := 0 }, psc := s.settledPsc w } : State).route w.fn data := by
  unfold State.succeed
  simp only [if_neg other, State.settlePoll_eq, read]
  rfl

theorem State.succeed_id (id : w.fn = .id) : s.succeed w data = ({ s with blk.txn := none } : State).identified data := if_pos id

/-- R73: the five characters of an ID answer. -/
theorem readRecord_eq :
    readRecord data = ⟨(data.getD 0 0).toNat + 256 * (data.getD 1 0).toNat, (data.getD 2 0).toNat, data.getD 3 0 &&& 0xFE,
      if data.getD 4 0 = 1 then .m1 else .k250⟩ := by
  have model : leNat (data.take 2) = (data.getD 0 0).toNat + 256 * (data.getD 1 0).toNat := by
    rcases data with _ | ⟨a, _ | ⟨b, _⟩⟩ <;> simp [leNat]
  unfold readRecord
  rw [model]
  rfl

end

section
variable {s : State} {w : Txn} {d time : Nat} (txn : s.blk.txn = some w) (released : w.deadline = some d)
  (early : time ≤ d * w.rate.tbit) {c : Byte}
include txn released early

theorem exec_kept_character (more : judgeChar w c = .more) :
    exec (.baseCharacterReceived c time) s = .next { s with blk.txn := some { w with received := w.received ++ [c] } } := by
  rw [exec_baseCharacterReceived txn released early, State.takeChar, more]

theorem exec_last_character {data : List Byte} (success : judgeChar w c = .success data) :
    exec (.baseCharacterReceived c time) s = .next (s.succeed w data) := by
  rw [exec_baseCharacterReceived txn released early, State.takeChar, success]

end

/-- Settles O21: a character is kept or decides by `judgeChar`; a success is `State.succeed` by the function it is of, and one of an ID
read is the entry to RUNNING (`State.identified_eq`) with the attach that follows it (`State.attach_eq`). -/
theorem answersAreReceivedAndChecked : Obligations.AnswersAreReceivedAndChecked := by
  intro s w d c time txn released early kept
  refine ⟨fun read first limit most least => ?_, fun l data read received short => ?_,
    fun l data read other received full check => ?_, fun l data read id received full check => ?_, fun write other ok => ?_⟩
  · exact exec_kept_character txn released early (judgeChar_length_ok read first limit most least)
  · exact exec_kept_character txn released early (judgeChar_data read received short)
  · intro settled t
    have succeeds := s.succeed_read w data read other
    rw [s.settledPsc_read w read] at succeeds
    have entered : s.OnlyIn linkParts settled := .of_link rfl rfl rfl rfl
    refine ⟨?_, by simp [t], settled.route_psc w.fn data, (settled.route_tablesStand w.fn data).left rfl,
      entered.trans (settled.route_onlyIn w.fn data)⟩
    have ran := exec_last_character txn released early (judgeChar_check_ok read received full check)
    exact ran.trans (congrArg Host.Outcome.next succeeds)
  · intro r entered latched told
    have ran := exec_last_character txn released early (judgeChar_check_ok read received full check)
    rw [s.succeed_id w data id, s.identified_eq r (readRecord_eq data)] at ran
    refine ⟨fun present => ?_, fun absent other => ?_, fun absent identify => ?_⟩
    · rw [ran, if_neg present]
      rfl
    · rw [ran, if_pos absent, State.attach_eq, if_neg (by simpa using other)]
      rfl
    · intro t
      have queued := told.attached_queues
      refine ⟨?_, ?_, fun opened => ?_⟩
      · rw [ran, if_pos absent, State.attach_eq, if_pos (by simpa using identify)]
        rfl
      · exact (queued.holds_iff (by simp [Notice.kind])).mpr (Upq.issue_holds _ _)
      · exact (queued.holds_iff (by simp [Notice.kind])).mpr ((s.entered r).latched_holds opened _ (by simp [Notice.kind]))
  · subst ok
    rw [exec_last_character txn released early (judgeChar_status_ok write), s.succeed_write w [] write other]

end Sys2Proof.Machine
end

section
/-!
PROOFS. The reading of an answer, function by function; the merge of a POINTER report into the newest entry of its kind; the steps of the
routing; and from these the statement about the routing of a response record (O25).
-/

namespace Sys2Proof.Machine

/-! ### Signed values -/

theorem signedOf_one (w : Byte) : signedOf [w] = w.toInt := by
  have value : leNat [w] = w.toNat := by simp [leNat]
  rw [signedOf, value, BitVec.toInt_eq_toNat_cond]
  simp only [List.length_singleton]
  split <;> split <;> omega

/-- R96: of two characters the low one comes first. -/
theorem signedOf_two (low high : Byte) : signedOf [low, high] = (high ++ low).toInt := by
  have value : leNat [low, high] = (high ++ low).toNat := by
    rw [BitVec.toNat_append, ← Nat.shiftLeft_add_eq_or_of_lt low.isLt, Nat.shiftLeft_eq]
    simp only [leNat]
    omega
  rw [signedOf, value, BitVec.toInt_eq_toNat_cond]
  simp only [List.length_cons, List.length_nil]
  split <;> split <;> omega

/-! ### Key events -/

theorem not_zero_or_one {state : Byte} (bad : 2 ≤ state.toNat) : ¬(state = 0 ∨ state = 1) := by
  rintro (rfl | rfl) <;> simp at bad

theorem readEvents_event {key : Nat} (numbered : key < 128) (pressed : Bool) (rest : List Byte) :
    readEvents (BitVec.ofNat 8 key :: (if pressed then 1 else 0) :: rest) = (readEvents rest).map ((key, pressed) :: ·) := by
  have number : (BitVec.ofNat 8 key).toNat = key := Nat.mod_eq_of_lt (Nat.lt_trans numbered (by decide))
  rw [readEvents, number]
  cases pressed <;> simp [numbered]

/-- R96: key events of which every key has a number are read as they are. -/
theorem readEvents_events (events : List (Nat × Bool)) (numbered : ∀ e ∈ events, e.1 < 128) :
    readEvents (events.flatMap fun e => [BitVec.ofNat 8 e.1, if e.2 then 1 else 0]) = some events := by
  induction events with
  | nil => rfl
  | cons e rest ih =>
    obtain ⟨first, later⟩ := List.forall_mem_cons.mp numbered
    exact (readEvents_event first e.2 _).trans (congrArg _ (ih later))

theorem readEvents_odd (data : List Byte) (odd : data.length % 2 = 1) : readEvents data = none := by
  induction data using readEvents.induct with
  | case1 => contradiction
  | case2 => rfl
  | case3 key state rest valid ih =>
    rw [readEvents, if_pos valid, ih (by simp only [List.length_cons] at odd; omega)]
    rfl
  | case4 key state rest invalid => rw [readEvents, if_neg invalid]

/-- R97: one malformed event makes the answer malformed, wherever it stands. -/
theorem readEvents_malformed {key state : Byte} (bad : 128 ≤ key.toNat ∨ 2 ≤ state.toNat) (before after : List Byte)
    (even : before.length % 2 = 0) : readEvents (before ++ key :: state :: after) = none := by
  induction before using readEvents.induct with
  | case1 => exact if_neg fun ⟨numbered, flag⟩ => bad.elim (Nat.not_le.mpr numbered) (not_zero_or_one · flag)
  | case2 => contradiction
  | case3 key' state' rest valid ih =>
    rw [List.cons_append, List.cons_append, readEvents, if_pos valid,
      ih (by simp only [List.length_cons] at even; omega)]
    rfl
  | case4 key' state' rest invalid => exact if_neg invalid

theorem readReport_keys_events (events : List (Nat × Bool)) (few : events.length ≤ 8) (numbered : ∀ e ∈ events, e.1 < 128) :
    readReport .keys (events.flatMap fun e => [BitVec.ofNat 8 e.1, if e.2 then 1 else 0]) = some (.keys events) := by
  have length : (events.flatMap fun e => [BitVec.ofNat 8 e.1, if e.2 then (1 : Byte) else 0]).length ≤ 16 := by
    simp [List.length_flatMap]
    omega
  rw [readReport, if_pos length, readEvents_events events numbered]
  rfl

/-- R97: key events that cannot be read make a malformed answer. -/
theorem readReport_keys_none {data : List Byte} (unread : readEvents data = none) : readReport .keys data = none := by
  simp [readReport, unread]

theorem readReport_keys_length {data : List Byte} (wrong : 16 < data.length ∨ data.length % 2 = 1) :
    readReport .keys data = none := by
  rcases wrong with long | odd
  · exact if_neg (by omega)
  · exact readReport_keys_none (readEvents_odd data odd)

/-! ### The answers of a fixed length -/

theorem readReport_pointer (a b c d w k : Byte) :
    readReport .pointer [a, b, c, d, w, k] = some (.pointer (clampInt (-2047) 2047 (b ++ a).toInt)
      (clampInt (-2047) 2047 (d ++ c).toInt) (clampInt (-127) 127 w.toInt) (k.extractLsb' 0 3)) := by
  rw [readReport, readPointer, signedOf_two, signedOf_two, signedOf_one]
  rfl

theorem readReport_motion (a b c d e f : Byte) :
    readReport .motion [a, b, c, d, e, f] = some (.motion ⟨clampInt (-8191) 8191 (b ++ a).toInt,
      clampInt (-8191) 8191 (d ++ c).toInt, clampInt (-8191) 8191 (f ++ e).toInt⟩) := by
  rw [readReport, readMotion, signedOf_two, signedOf_two, signedOf_two]
  rfl

theorem readReport_button_malformed {state : Byte} (bad : 2 ≤ state.toNat) (flags : Byte) :
    readReport .button [state, flags] = none :=
  if_neg (not_zero_or_one bad)

/-- R96: a POINTER or MOTION answer has six characters. -/
theorem readReport_length_six {data : List Byte} (other : data.length ≠ 6) :
    readReport .pointer data = none ∧ readReport .motion data = none :=
  ⟨readPointer.eq_2 data fun _ _ _ _ _ _ six => other (congrArg List.length six),
    readMotion.eq_2 data fun _ _ _ _ _ _ six => other (congrArg List.length six)⟩

/-- R96: a POWER or BUTTON answer has two characters. -/
theorem readReport_length_two {data : List Byte} (other : data.length ≠ 2) :
    readReport .power data = none ∧ readReport .button data = none :=
  ⟨readPower.eq_2 data fun _ _ two => other (congrArg List.length two),
    readButton.eq_2 data fun _ _ two => other (congrArg List.length two)⟩

/-! ### The merge into the newest POINTER entry -/

/-- No entry is a POINTER report. -/
def NoPointer (entries : List Entry) : Prop := ∀ e ∈ entries, ∀ q, e.content = .report q → q.isPointer = false

/-- R102: entries of other kinds do not stop the search, and stay. -/
theorem mergeNewest_append (r : Report) {newer : List Entry} (others : NoPointer newer) (older : List Entry) :
    mergeNewest r (newer ++ older) = (mergeNewest r older).map (newer ++ ·) := by
  induction newer with
  | nil => simp
  | cons e rest ih =>
    obtain ⟨other, others⟩ := List.forall_mem_cons.mp others
    have kept : mergeNewest r (e :: (rest ++ older)) = (mergeNewest r (rest ++ older)).map (e :: ·) := by
      rw [mergeNewest]
      split
      · next q content => simp [other q content]
      · rfl
    rw [List.cons_append, kept, ih others, Option.map_map]
    rfl

theorem mergeNewest_noPointer (r : Report) {entries : List Entry} (others : NoPointer entries) :
    mergeNewest r entries = none := by
  simpa [mergeNewest] using mergeNewest_append r others []

theorem NoPointer.reverse {entries : List Entry} (others : NoPointer entries) : NoPointer entries.reverse :=
  fun e member => others e (List.mem_reverse.mp member)

section
variable {a z : List Entry} {x y w x' y' w' : Int} {b b' : BitVec 3} (newest : NoPointer z)
include newest

theorem mergeNewest_merges :
    mergeNewest (.pointer x' y' w' b) (a ++ ⟨.report (.pointer x y w b), false⟩ :: z).reverse =
      some (a ++ ⟨.report (.pointer (clampInt (-2047) 2047 (x + x')) (clampInt (-2047) 2047 (y + y'))
        (clampInt (-127) 127 (w + w')) b), false⟩ :: z).reverse := by
  simp [mergeNewest_append _ newest.reverse, mergeNewest, Report.isPointer, mergePointer]

theorem mergeNewest_refuses {started : Bool} (refused : started = true ∨ b ≠ b') :
    mergeNewest (.pointer x' y' w' b') (a ++ ⟨.report (.pointer x y w b), started⟩ :: z).reverse = none := by
  have stops : mergeNewest (.pointer x' y' w' b') (⟨.report (.pointer x y w b), started⟩ :: a.reverse) = none := by
    rcases refused with rfl | other
    · rfl
    · cases started <;> simp [mergeNewest, Report.isPointer, mergePointer, other]
  simp [mergeNewest_append _ newest.reverse, stops]

end

/-! ### The actions -/

section
variable {s : State} {r : Report}

theorem State.applyAction_forward_room (room : s.upq.reports < 22) :
    s.applyAction .forward r = { s with upq := s.upq.append (.report r) } := by
  have queued : s.upq.forward r = some (s.upq.append (.report r)) := if_pos room
  rw [State.applyAction, State.forward, queued]

theorem State.applyAction_forward_full (full : 22 ≤ s.upq.reports) : s.applyAction .forward r = s.bump .lost := by
  have lost : s.upq.forward r = none := if_neg (Nat.not_lt.mpr full)
  rw [State.applyAction, State.forward, lost]

@[simp] theorem State.applyAction_drop : s.applyAction .drop r = s := rfl

theorem State.applyAction_coalesce_merged {entries : List Entry}
    (merged : mergeNewest r s.upq.entries.reverse = some entries.reverse) :
    s.applyAction .coalesce r = { s with upq := { s.upq with entries := entries } } := by
  simp [State.applyAction, State.coalesce, Upq.coalesce, merged]

theorem State.applyAction_coalesce_unmerged (unmerged : mergeNewest r s.upq.entries.reverse = none) :
    s.applyAction .coalesce r = s.applyAction .forward r := by
  simp [State.applyAction, State.coalesce, State.forward, Upq.coalesce, unmerged]

end

/-! ### The routing -/

section
variable {s : State} {fn : BaseFn} {data : List Byte}

theorem State.route_malformed (answered : data ≠ []) (malformed : readReport fn data = none) :
    s.route fn data = s.bump .malformed := by
  simp [State.route, answered, malformed]

theorem State.route_report (answered : data ≠ []) {r : Report} (read : readReport fn data = some r) :
    s.route fn data = ((s.deliverReport r).applyAction (routeCell s.tables.route.active r.row s.posture) r).handOn
      (routeCell s.tables.route.active r.row s.posture) r := by
  simp [State.route, answered, read]

/-- R104: a dropped report is not activity. -/
theorem State.applyAction_active (s : State) (action : RouteAction) (r : Report) :
    (if action = .drop then s.applyAction action r else (s.applyAction action r).activity false) =
      if action = .drop then s else (s.applyAction action r).activity false := by
  split
  · next drop => rw [drop, State.applyAction_drop]
  · rfl

end

/-! ### The statement -/

/-- Settles O25 (R95 to R98, R101 to R104), by the routing's steps, the actions and the reading of each function's answer. -/
theorem responsesAreRoutedByAction : Obligations.ResponsesAreRoutedByAction := by
  refine ⟨fun s fn data => ⟨?_, State.route_malformed, fun answered r read => ?_⟩,
    fun s r => ⟨State.applyAction_forward_room, State.applyAction_forward_full, State.applyAction_drop, ?_, fun others =>
      State.applyAction_coalesce_unmerged (mergeNewest_noPointer r (NoPointer.reverse others))⟩,
    fun events _ few numbered => readReport_keys_events events few numbered, fun _ => readReport_keys_length,
    fun before after _ _ even bad => readReport_keys_none (readEvents_malformed bad before after even),
    readReport_pointer, readReport_motion, fun _ _ => rfl,
    fun flags => ⟨rfl, rfl, fun _ bad => readReport_button_malformed bad flags⟩,
    fun _ => ⟨readReport_length_six, readReport_length_two⟩⟩
  · rintro rfl
    rfl
  · have routed := State.route_report (s := s) answered read
    refine ⟨?_, ?_, ?_, ?_, ?_, ?_⟩
    · rintro a rfl
      exact routed
    · rintro p rfl
      exact routed
    · rintro l rfl
      exact routed
    · rintro l rfl
      exact routed
    · rintro e rfl
      exact routed.trans (congrArg (State.wakeSource · .keys) (s.applyAction_active _ _))
    · rintro x y z b rfl
      exact routed.trans (congrArg (State.wakeSource · .pointer) (s.applyAction_active _ _))
  · rintro a z x y w x' y' w' b b' started rfl entries newest
    refine ⟨?_, fun refused => ?_⟩
    · rintro rfl rfl
      exact State.applyAction_coalesce_merged (entries ▸ mergeNewest_merges newest)
    · exact State.applyAction_coalesce_unmerged (entries ▸ mergeNewest_refuses newest refused)

end Sys2Proof.Machine
end

section
/-!
PROOFS. The place of a reply in the upward queue: no notice of a kind that comes after it moves ahead of it; the entry to RELEASING, step
by step; and from these the statement about the detach requests (O47).
-/

namespace Sys2Proof.Machine

/-! ### The place of a reply in the upward queue -/

/-- R107: an entry as a notice leaves it, where one of the notice's kind waits. -/
def Notice.renew (n : Notice) (e : Entry) : Entry := if e.waits n.kind then { e with content := .notice n } else e

@[simp] theorem Notice.renew_isNotice (n : Notice) (k : NoticeKind) (e : Entry) : (n.renew e).isNotice k = e.isNotice k := by
  unfold Notice.renew
  split
  · rename_i waits
    simp only [Entry.waits, Bool.and_eq_true] at waits
    obtain ⟨content, started⟩ := e
    cases content with
    | notice m => simp_all [Entry.isNotice]
    | report r => simp [Entry.isNotice] at waits
    | reply r => simp [Entry.isNotice] at waits
  · rfl

@[simp] theorem Notice.renew_replyEntry (n : Notice) (kind : Byte) (code : ReplyCode) (data : List Byte) :
    n.renew (replyEntry kind code data) = replyEntry kind code data := rfl

/-- R107: a notice renews the one of its kind that waits, and otherwise stands at the tail or in the follow-on place. -/
theorem Upq.issue_entries (u : Upq) (n : Notice) :
    (u.issue n).entries = u.entries.map n.renew ∨ ∃ more, (u.issue n).entries = u.entries ++ more := by
  rcases u.issue_cases n with ⟨_, e⟩ | ⟨_, _, e⟩ | ⟨_, _, e⟩ <;> rw [e]
  · exact .inl rfl
  · exact .inr ⟨[], (List.append_nil _).symm⟩
  · exact .inr ⟨_, rfl⟩

/-- The entry stands in the queue, and no notice of this kind ahead of it. -/
def Upq.StandsAhead (u : Upq) (e : Entry) (k : NoticeKind) : Prop :=
  ∃ a z, u.entries = a ++ e :: z ∧ ∀ x, x ∈ a → x.isNotice k = false

/-- R117: the reply is in the queue of `t`, ahead of every notice of this kind unless one was in the queue of `s` already. -/
def State.RepliesAhead (s : State) (reply : Entry) (k : NoticeKind) (t : State) : Prop :=
  reply ∈ t.upq.entries ∧ ((∀ e, e ∈ s.upq.entries → e.isNotice k = false) → t.upq.StandsAhead reply k)

theorem Upq.StandsAhead.append {u v : Upq} {e : Entry} {k : NoticeKind} (h : u.StandsAhead e k) {more : List Entry}
    (entries : v.entries = u.entries ++ more) : v.StandsAhead e k := by
  obtain ⟨a, z, whole, others⟩ := h
  exact ⟨a, z ++ more, by simp [entries, whole], others⟩

section
variable {kind : Byte} {code : ReplyCode} {data : List Byte} {k : NoticeKind}

/-- R107: a renewed notice keeps its place and its kind, and a new one stands behind the reply. -/
theorem Upq.StandsAhead.issue {u : Upq} (h : u.StandsAhead (replyEntry kind code data) k) (n : Notice) :
    (u.issue n).StandsAhead (replyEntry kind code data) k := by
  rcases u.issue_entries n with renewed | ⟨more, appended⟩
  · obtain ⟨a, z, whole, others⟩ := h
    exact ⟨a.map n.renew, z.map n.renew, by simp [renewed, whole], by simpa using others⟩
  · exact h.append appended

theorem Upq.StandsAhead.queues {kinds : List NoticeKind} {u v : Upq} (h : u.StandsAhead (replyEntry kind code data) k)
    (queues : Upq.Queues kinds u v) : v.StandsAhead (replyEntry kind code data) k := by
  induction queues with
  | nothing => exact h
  | notice _ n _ ih => exact ih.issue n
  | reply _ _ ih => exact ih.append rfl

/-- R183: whatever a request queues after its reply, the reply stays, and ahead of every notice that it was queued ahead of. -/
theorem State.replied_ahead {kinds : List NoticeKind} {u t : State} (queues : (u.replied kind code data).Queues kinds t)
    (replies : (u.replied kind code data).KeepsReplies t) : u.RepliesAhead (replyEntry kind code data) k t :=
  ⟨replies _ (List.mem_append_right _ (List.mem_singleton.mpr rfl)), fun others =>
    Upq.StandsAhead.queues ⟨u.upq.entries, [], rfl, others⟩ queues⟩

end

/-! ### The entry to RELEASING -/

theorem State.detachNotice_hub (s : State) (o : DetachOutcome) (src : Option ReleaseSource) (before : DetachState) :
    (s.detachNotice o src before).spm.hub = s.spm.hub := by
  unfold State.detachNotice
  rcases State.activity_cases _ false with ⟨_, _, e⟩ | ⟨_, _, e⟩ | ⟨_, _, e⟩ | ⟨_, e⟩ <;> rw [e]
  all_goals rfl

theorem State.leaveDeep_latchClaim (s : State) : s.leaveDeep.spm.latchClaim = s.spm.latchClaim := by
  unfold State.leaveDeep
  split
  · rcases s.startClock_cases with ⟨_, _, e⟩ | ⟨_, e⟩ <;> rw [e]
  · rfl

/-- R175: what bars DEEP begins a clock start there, or finds one in progress. -/
theorem State.leaveDeep_clock_of_barred {s : State} (deep : s.spm.hub = .deep) (barred : s.deepBarred = true) :
    s.leaveDeep.spm.clock.isSome = true := by
  unfold State.leaveDeep
  rw [if_pos barred]
  rcases s.startClock_cases with ⟨_, _, e⟩ | ⟨running, e⟩ <;> rw [e]
  · rfl
  · exact Option.isSome_iff_ne_none.mpr (running.resolve_left fun h => h deep)

/-- R122: the latch unit in RELEASING, with its pulse from the start. -/
def Dlu.releasing (d : Dlu) (src : ReleaseSource) (pulse : Nat) : Dlu :=
  { d with
    state := .releasing, requestTimer := none, timedOut := false, source := some src
    ldrv := true, pulseTimer := some ⟨0, pulse⟩ }

section
variable (s : State) (src : ReleaseSource)

/-- R122, R126: the latch in RELEASING and its notice, before the claim and the pulse. -/
def State.releaseTold : State :=
  ({ s with
    dlu.state := .releasing, dlu.timedOut := false, dlu.source := some src, dlu.requestTimer := none } : State).detachNotice
    .releasing (some src) s.dlu.state

/-- R122, R166: the latch claim and the pulse, which bring the hub out of DEEP (R175). -/
def State.releasePulsed : State :=
  let claimed := (s.releaseTold src).setLatchClaim s.policy.latchCurrent
  { claimed with dlu.ldrv := true, dlu.pulseTimer := some ⟨0, s.policy.latchPulse⟩ }

theorem State.toReleasing_eq : s.toReleasing src = (s.releasePulsed src).leaveDeep := rfl

theorem State.releasePulsed_dlu : (s.releasePulsed src).dlu = s.dlu.releasing src s.policy.latchPulse := by
  simp [State.releasePulsed, State.releaseTold, Dlu.releasing]

theorem State.toReleasing_dlu : (s.toReleasing src).dlu = s.dlu.releasing src s.policy.latchPulse := by
  rw [s.toReleasing_eq src, ← s.releasePulsed_dlu src]
  simp

/-- R165, R166: the claim is granted at once, and the hub power state stands. -/
theorem State.releasePulsed_spm :
    (s.releasePulsed src).spm.latchClaim = s.policy.latchCurrent ∧ (s.releasePulsed src).spm.hub = s.spm.hub := by
  have follows := (s.releaseTold src).rebudget_spm { (s.releaseTold src).spm with latchClaim := s.policy.latchCurrent }
  have hub := congrArg Spm.hub follows
  exact ⟨congrArg Spm.latchClaim follows, hub.trans (State.detachNotice_hub _ _ _ _)⟩

theorem State.toReleasing_latchClaim : (s.toReleasing src).spm.latchClaim = s.policy.latchCurrent := by
  obtain ⟨claim, _⟩ := s.releasePulsed_spm src
  rw [s.toReleasing_eq src, State.leaveDeep_latchClaim, claim]

/-- R175: a latch in RELEASING brings the hub out of DEEP. -/
theorem State.toReleasing_clock (deep : s.spm.hub = .deep) : (s.toReleasing src).spm.clock.isSome = true := by
  obtain ⟨_, hub⟩ := s.releasePulsed_spm src
  have barred : (s.releasePulsed src).deepBarred = true := by simp [State.deepBarred, s.releasePulsed_dlu src, Dlu.releasing]
  rw [s.toReleasing_eq src]
  exact State.leaveDeep_clock_of_barred (hub.trans deep) barred

theorem State.releaseTold_handsOver : s.HandsOver (s.releaseTold src) := (State.detachNotice_handsOver _ _ _ _).left rfl rfl rfl

/-- R135: the claim brings at most the CHARGE swap of a stopping driver, and loses no reply. -/
theorem State.toReleasing_handsOver : s.HandsOver (s.toReleasing src) := by
  have claimed := (s.releaseTold_handsOver src).trans (State.setLatchClaim_handsOver _ s.policy.latchCurrent)
  have pulsed : s.HandsOver (s.releasePulsed src) := claimed.trans (.of_eq rfl rfl rfl)
  exact pulsed.trans (State.leaveDeep_handsOver _)

theorem State.toReleasing_queues_told : (s.releaseTold src).Queues [.pen] (s.toReleasing src) := by
  have claimed : (s.releaseTold src).Queues [.pen] (s.releasePulsed src) := State.rebudget_queues (by decide) _ _
  exact claimed.trans (State.leaveDeep_queues _)

theorem State.toReleasing_queues : s.Queues [.detach, .sleep, .pen] (s.toReleasing src) := by
  have told : s.Queues [.detach, .sleep, .pen] (s.releaseTold src) :=
    (State.detachNotice_queues (by decide) (by decide) _ _ _ _).left rfl
  exact told.trans ((s.toReleasing_queues_told src).mono (by decide))

/-- R126: what the claim queues behind the DETACH notice leaves it. -/
theorem State.toReleasing_holds :
    (s.toReleasing src).upq.Holds (.detach .releasing (some src) s.dlu.state .releasing s.pins.lsns s.posture) :=
  ((s.toReleasing_queues_told src).holds_iff (by simp [Notice.kind])).mpr (State.detachNotice_holds _ _ _ _)

end

/-! ### The requests by detach state -/

section
variable {s : State} {f : DownFrame}

theorem State.detachGrant_requested (requested : s.dlu.state = .requested) :
    s.detachGrant f = (s.replied f.kind .ok []).toReleasing .grant := by
  simpa [requested] using s.detachGrant_cases f

theorem State.detachGrant_late (other : s.dlu.state ≠ .requested) (late : s.dlu.timedOut = true) :
    s.detachGrant f = s.replied f.kind .late [] := by
  simpa [other, late] using s.detachGrant_cases f

theorem State.detachGrant_notPending (other : s.dlu.state ≠ .requested) (never : s.dlu.timedOut = false) :
    s.detachGrant f = s.replied f.kind .notPending [] := by
  simpa [other, never] using s.detachGrant_cases f

/-- R118: a request that is denied, before its notice. -/
def State.denied (s : State) (f : DownFrame) : State :=
  { s.replied f.kind .ok [] with dlu := { s.dlu with state := .latched, requestTimer := none } }

theorem State.detachDeny_requested (requested : s.dlu.state = .requested) :
    s.detachDeny f = (s.denied f).detachNotice .denied none .requested := if_pos requested

theorem State.detachDeny_notPending (other : s.dlu.state ≠ .requested) : s.detachDeny f = s.replied f.kind .notPending [] :=
  if_neg other

theorem State.mayDetach_iff :
    s.mayDetach = true ↔ s.posture ≠ .closed ∧ s.posture ≠ .unknown ∧ s.pae.record.permission = true := by
  simp [State.mayDetach, and_assoc]

theorem State.detachRelease_allowed (latched : s.dlu.state = .latched) (allowed : s.mayDetach = true) :
    s.detachRelease f = (s.replied f.kind .ok []).toReleasing .software := by
  rw [State.detachRelease, latched]
  exact if_pos allowed

theorem State.detachRelease_refused (latched : s.dlu.state = .latched) (refused : ¬s.mayDetach = true) :
    s.detachRelease f = s.replied f.kind .badValue [2] := by
  rw [State.detachRelease, latched]
  exact if_neg refused

theorem State.detachRelease_requested (requested : s.dlu.state = .requested) :
    s.detachRelease f = (s.replied f.kind .ok []).toReleasing .grant := by
  rw [State.detachRelease, requested]
  rfl

theorem State.detachRelease_underWay (underWay : s.dlu.state = .releasing ∨ s.dlu.state = .released) :
    s.detachRelease f = s.replied f.kind .ok [] := by
  rcases underWay with state | state <;> rw [State.detachRelease, state] <;> rfl

theorem State.detachRelease_absent (absent : s.dlu.state = .absent) : s.detachRelease f = s.replied f.kind .baseAbsent [] := by
  rw [State.detachRelease, absent]
  rfl

end

section
variable {s t : State} {rest : List DownFrame}

theorem exec_detachGrant (offered : s.offers ⟨0x45, []⟩ rest) (acts : (s.taken rest).detachGrant ⟨0x45, []⟩ = t) :
    exec .detachGrant s = .next t := congrArg Host.Outcome.next ((State.carryOut_of_offers offered _ _).trans acts)

theorem exec_detachDeny (offered : s.offers ⟨0x46, []⟩ rest) (acts : (s.taken rest).detachDeny ⟨0x46, []⟩ = t) :
    exec .detachDeny s = .next t := congrArg Host.Outcome.next ((State.carryOut_of_offers offered _ _).trans acts)

theorem exec_detachRelease (offered : s.offers ⟨0x47, []⟩ rest) (acts : (s.taken rest).detachRelease ⟨0x47, []⟩ = t) :
    exec .detachRelease s = .next t := congrArg Host.Outcome.next ((State.carryOut_of_offers offered _ _).trans acts)

end

/-! ### What a request brings besides its reply -/

/-- The parts that a detach request may touch. -/
def releaseParts : List Part := [.tables, .cnv, .pch, .bcd, .dlu, .spm, .upq, .slk]

theorem State.OnlyIn.of_release {s t : State} (pending : t.pending = s.pending) (ticks : t.ticks = s.ticks) (pins : t.pins = s.pins)
    (counters : t.counters = s.counters) (pae : t.pae = s.pae) (blk : t.blk = s.blk) (psc : t.psc = s.psc) :
    s.OnlyIn releaseParts t := by
  intro p outside
  cases p <;> first | assumption | exact absurd (by decide) outside

/-- R117, R120, R122, R126, R175: a request that is answered OK, and then the entry to RELEASING. -/
theorem State.answered_releases (s : State) (rest : List DownFrame) (kind : Byte) (src : ReleaseSource) :
    let t := ((s.taken rest).replied kind .ok []).toReleasing src
    t.dlu = s.dlu.releasing src s.policy.latchPulse ∧
    t.spm.latchClaim = s.policy.latchCurrent ∧ (s.spm.hub = .deep → t.spm.clock.isSome = true) ∧
    t.upq.Holds (.detach .releasing (some src) s.dlu.state .releasing s.pins.lsns s.posture) ∧
    s.RepliesAhead (replyEntry kind .ok []) .detach t ∧
    s.TablesStand t ∧ s.OnlyIn releaseParts t := by
  let u := (s.taken rest).replied kind .ok []
  have handed := u.toReleasing_handsOver src
  obtain ⟨pending, ticks, pins, counters, pae, blk, psc, _⟩ := u.toReleasing_frame src
  exact ⟨u.toReleasing_dlu src, u.toReleasing_latchClaim src, u.toReleasing_clock src, u.toReleasing_holds src,
    State.replied_ahead (u := s.taken rest) (u.toReleasing_queues src) handed.replies, handed.swaps.tables,
    .of_release pending ticks pins counters pae blk psc⟩

/-- R118, R126: a request that is denied, with its notice behind the reply. -/
theorem State.denied_notice (s : State) (rest : List DownFrame) (kind : Byte) :
    let t := ((s.taken rest).denied ⟨kind, []⟩).detachNotice .denied none .requested
    t.dlu = { s.dlu with state := .latched, requestTimer := none } ∧
    t.upq.Holds (.detach .denied none .requested .latched s.pins.lsns s.posture) ∧
    s.RepliesAhead (replyEntry kind .ok []) .detach t ∧
    s.OnlyIn [.dlu, .spm, .upq, .slk] t := by
  let u := (s.taken rest).denied ⟨kind, []⟩
  have queues : u.Queues [.detach, .sleep] (u.detachNotice .denied none .requested) :=
    State.detachNotice_queues (by decide) (by decide) _ _ _ _
  have replies := (u.detachNotice_handsOver .denied none .requested).replies
  refine ⟨by simp [State.denied, State.taken], State.detachNotice_holds _ _ _ _,
    State.replied_ahead (u := s.taken rest) queues replies, fun p outside => ?_⟩
  cases p <;> first | exact absurd (by decide) outside | simp [Part.Same, State.denied, State.taken, State.replied]

/-! ### The statement -/

/-- Settles O47: by detach state a request is its reply alone, or its reply and then a release (`State.answered_releases`) or a denial
(`State.denied_notice`), which queue behind the reply. -/
theorem detachRequestsActByState : Obligations.DetachRequestsActByState := by
  intro s rest
  refine ⟨fun offered => ⟨fun requested => ?_, fun other late => ?_, fun other never => ?_⟩,
    fun offered => ⟨fun requested => ?_, fun other => ?_⟩,
    fun offered => ⟨fun latched => ⟨fun allowed => ?_, fun refused => ?_⟩, fun requested => ?_, fun underWay => ?_,
      fun absent => ?_⟩⟩
  · exact ⟨_, exec_detachGrant offered (State.detachGrant_requested requested), s.answered_releases rest 0x45 .grant⟩
  · exact exec_detachGrant offered (State.detachGrant_late other late)
  · exact exec_detachGrant offered (State.detachGrant_notPending other never)
  · exact ⟨_, exec_detachDeny offered (State.detachDeny_requested requested), s.denied_notice rest 0x46⟩
  · exact exec_detachDeny offered (State.detachDeny_notPending other)
  · exact ⟨_, exec_detachRelease offered (State.detachRelease_allowed latched (State.mayDetach_iff.mpr allowed)),
      s.answered_releases rest 0x47 .software⟩
  · exact exec_detachRelease offered (State.detachRelease_refused latched fun may => refused (State.mayDetach_iff.mp may))
  · exact ⟨_, exec_detachRelease offered (State.detachRelease_requested requested), s.answered_releases rest 0x47 .grant⟩
  · exact exec_detachRelease offered (State.detachRelease_underWay underWay)
  · exact exec_detachRelease offered (State.detachRelease_absent absent)

end Sys2Proof.Machine
end

section
/-!
PROOFS. The back-channel decoder: classes and bits by the half-cell mark, bits and violations by the decoder's state, what a delivered
packet leaves of the decoder; and from these the statement about the decoding (O36).
-/

namespace Sys2Proof.Machine

/-! ### Intervals and the half-cell mark -/

section
variable {n : Nat}

theorem classOf_short (low : 188 ≤ n) (high : n ≤ 312) : classOf n = .short := if_pos ⟨low, high⟩

theorem classOf_long (low : 375 ≤ n) (high : n ≤ 625) : classOf n = .long :=
  (if_neg (by omega)).trans (if_pos ⟨low, high⟩)

theorem classOf_violation (low : n ≤ 187 ∨ (313 ≤ n ∧ n ≤ 374)) : classOf n = .violation :=
  (if_neg (by omega)).trans (if_neg (by omega))

end

theorem symbolOf_violation (mark : Bool) : symbolOf mark .violation = .violation := by cases mark <;> rfl

/-! ### A violation by the decoder's state -/

theorem Bcd.toHunt_of_hunt {b : Bcd} (hunts : b.decoder = .hunt) :
    b.toHunt = { b with ones := 0, bitCount := 0, acc := 0, half := false } := by
  rw [Bcd.toHunt, hunts]

/-- R158, R159: in every state a violation takes the decoder to HUNT. -/
@[simp] theorem State.violation_bcd (s : State) : s.violation.bcd = s.bcd.toHunt := by
  unfold State.violation
  dsimp only
  split <;> simp

/-- R158: outside DATA a violation does no more than the return to HUNT. -/
theorem State.violation_outside {s : State} (outside : s.bcd.decoder ≠ .data) : s.violation = { s with bcd := s.bcd.toHunt } :=
  if_neg outside

theorem State.violation_hunt {s : State} (hunts : s.bcd.decoder = .hunt) :
    s.violation = { s with bcd.ones := 0, bcd.bitCount := 0, bcd.acc := 0, bcd.half := false } := by
  rw [State.violation_outside (by simp [hunts]), Bcd.toHunt_of_hunt hunts]

/-! ### A bit by the decoder's state -/

section
variable {s : State}

theorem State.takeBit_hunt (hunts : s.bcd.decoder = .hunt) (one : Bool) :
    s.takeBit one = if one then { s with bcd.decoder := .preamble, bcd.ones := 1 } else s := by
  simp only [State.takeBit, hunts]

theorem State.takeBit_preamble_one (counts : s.bcd.decoder = .preamble) :
    s.takeBit true = { s with bcd.ones := min (s.bcd.ones + 1) 15 } := by
  simp only [State.takeBit, counts, if_true]

theorem State.takeBit_preamble_zero (counts : s.bcd.decoder = .preamble) :
    s.takeBit false =
      if 6 ≤ s.bcd.ones then { s with bcd.decoder := .data, bcd.bitCount := 0, bcd.acc := 0 }
      else { s with bcd := s.bcd.toHunt } := by
  simp only [State.takeBit, counts, Bool.false_eq_true, if_false]

theorem State.takeBit_data (fills : s.bcd.decoder = .data) (one : Bool) :
    s.takeBit one =
      if s.bcd.bitCount + 1 = 24 then s.complete (s.bcd.placed one)
      else { s with bcd.acc := s.bcd.placed one, bcd.bitCount := s.bcd.bitCount + 1 } := by
  simp only [State.takeBit, fills]

end

theorem Bcd.placed_eq (b : Bcd) (one : Bool) :
    b.placed one = if one then b.acc ||| BitVec.twoPow 24 b.bitCount else b.acc := rfl

/-! ### What a delivered packet leaves of the decoder -/

/-- R153: the decoder stands, or the capture unit has gone to OFF with its clearing. -/
def Bcd.OffAtMost (b c : Bcd) : Prop := c = b ∨ c = b.cleared .off

theorem Bcd.OffAtMost.refl (b : Bcd) : b.OffAtMost b := .inl rfl

theorem State.enterCharger_offAtMost (s : State) (c : ChargerState) : s.bcd.OffAtMost (s.enterCharger c).bcd := by
  rcases s.enterCharger_cases c with ⟨_, _, e⟩ | ⟨_, e⟩ <;> rw [e]
  · exact .inr (State.capture_bcd _ _)
  · exact .refl _

theorem State.toCharger_offAtMost (s : State) {c : ChargerState} (rests : c.Rests) : s.bcd.OffAtMost (s.toCharger c).bcd := by
  obtain ⟨_, _, bcd, _⟩ := s.toCharger_rests rests
  exact bcd ▸ s.enterCharger_offAtMost c

theorem State.toDone_offAtMost (s : State) : s.bcd.OffAtMost s.toDone.bcd := by
  have charger := s.toCharger_offAtMost (c := .done) (.inr (.inl rfl))
  simpa [State.toDone] using charger

theorem State.toFault_offAtMost (s : State) (r : FaultReason) (code : Option Byte) : s.bcd.OffAtMost (s.toFault r code).bcd := by
  have charger := s.toCharger_offAtMost (c := .fault) (.inr (.inr rfl))
  simpa [State.toFault] using charger

/-- R141: a battery level in IDENT ends the charge at most. -/
theorem State.batteryInIdent_offAtMost (s : State) (b : Nat) : s.bcd.OffAtMost (s.batteryInIdent b).bcd := by
  unfold State.batteryInIdent
  split <;> split
  · exact .inl (by simp)
  · exact .refl _
  · exact .inl (by simp)
  · exact State.toDone_offAtMost _

/-- R143: a battery level in CHARGE ends the charge at most. -/
theorem State.batteryInCharge_offAtMost (s : State) (b : Nat) : s.bcd.OffAtMost (s.batteryInCharge b).bcd := by
  unfold State.batteryInCharge
  dsimp only
  split
  · exact .refl _
  split
  · exact .refl _
  · exact s.toDone_offAtMost

/-- R161: a delivery records the packet, and its kind acts on the decoder by a stop of the charger at most. -/
theorem State.deliver_offAtMost (s : State) (kind value : Byte) :
    Bcd.OffAtMost { s.bcd with last := some ⟨kind, value, s.ticks⟩ } (s.deliver kind value).bcd := by
  unfold State.deliver
  extract_lets -lift _ _ noted _ t
  have recorded : t.bcd = { s.bcd with last := some ⟨kind, value, s.ticks⟩ } := by
    simp only [t]
    split <;> rfl
  rw [← recorded]
  clear_value t
  split
  next _ _ p _ _ =>
    have pen : ∀ q, (t.setPen q).bcd = t.bcd := fun q => by simp
    split -- IDENTITY (R141)
    · dsimp only
      split <;> exact .inl (pen _)
    split -- BATTERY (R141, R143)
    · dsimp only
      rw [← pen { p with battery := some (min value.toNat 100) }]
      split
      · exact State.batteryInIdent_offAtMost _ _
      · exact State.batteryInCharge_offAtMost _ _
    split -- ADJUST (R144)
    · split
      · exact .inl (by simp)
      · exact .refl _
    split -- END_CHARGE (R149)
    · exact t.toDone_offAtMost
    split -- PEN_FAULT (R150)
    · exact t.toFault_offAtMost _ _
    · exact .refl _
  · exact .refl _

/-- R158, R159: a completed packet leaves the decoder without ones and without the mark, whatever its kind brings. -/
theorem State.complete_cleared (s : State) (acc : BitVec 24) :
    (s.complete acc).bcd.half = false ∧ (s.complete acc).bcd.ones = 0 := by
  unfold State.complete
  dsimp only
  split
  · rcases State.deliver_offAtMost ({ s with bcd := s.bcd.toHunt } : State).dataLeft (acc.truncate 8) ((acc >>> 8).truncate 8)
      with e | e <;> rw [e] <;> simp
  · simp

/-! ### A departure from DATA -/

/-- R11, R163: a change of capture mode is to the converter and the charger what the departure from DATA is. -/
theorem State.capture_left (s : State) (m : CaptureMode) :
    (s.capture m).cnv = (if s.bcd.decoder = .data then s.dataLeft.cnv else s.cnv) ∧
    (s.capture m).pch = (if s.bcd.decoder = .data then s.dataLeft.pch else s.pch) := by
  rcases s.capture_cases m with ⟨fills, e⟩ | ⟨outside, e⟩ <;> rw [e]
  · rw [if_pos fills, if_pos fills]
    unfold State.dataLeft
    dsimp only
    split <;> exact ⟨rfl, rfl⟩
  · exact ⟨(if_neg outside).symm, (if_neg outside).symm⟩

/-! ### The statement -/

/-- Settles O36: the half-cell mark and the class give the symbol; the decoder's state says what the symbol does; and every way back to
HUNT goes by `Bcd.toHunt` or `Bcd.cleared`. -/
theorem intervalsBitsAndPreambleAreDecoded : Obligations.IntervalsBitsAndPreambleAreDecoded := by
  refine ⟨⟨rfl, rfl, rfl, rfl, symbolOf_violation, fun s => ⟨rfl, fun _ => rfl, rfl, ?mark, ?markSilent, fun m => ?captured,
      s.complete_cleared, fun hunts => ?hunt, fun counts => ?preamble, fun fills one => ?data, rfl, s.capture_left,
      ?hunts, ?ones⟩⟩,
    fun n => classOf_short, fun n => classOf_long, fun n => classOf_violation, fun s => rfl⟩
  case mark => rw [State.violation_bcd, Bcd.toHunt_half]
  case markSilent => rw [State.silence, State.violation_bcd, Bcd.toHunt_half]
  case captured => rw [State.capture_bcd, Bcd.cleared_half, Bcd.cleared_ones]; exact ⟨rfl, rfl⟩
  case hunt =>
    exact ⟨s.takeBit_hunt hunts true, s.takeBit_hunt hunts false, State.violation_hunt hunts⟩
  case preamble =>
    have zero := State.takeBit_preamble_zero counts
    exact ⟨State.takeBit_preamble_one counts, fun enough => zero.trans (if_pos enough), fun few => zero.trans (if_neg (by omega)),
      State.violation_outside (by simp [counts])⟩
  case data =>
    have placed := State.takeBit_data fills one
    rw [Bcd.placed_eq] at placed
    exact ⟨fun more => placed.trans (if_neg (by omega)), fun last => placed.trans (if_pos (by omega))⟩
  case hunts => rw [State.violation_bcd, Bcd.toHunt_decoder]
  case ones => rw [State.violation_bcd, Bcd.toHunt_ones]

end Sys2Proof.Machine
end

section
/-!
PROOFS. The checks of a commit: the rows they look at and the row that fails first (R185), and what a row has to meet, table by table
(part of O45).
-/

namespace Sys2Proof.Machine

/-! ### The rows that a commit checks -/

theorem checkedRows_eq (k : TableId) (img : Image) :
    checkedRows k img = List.range' k.firstRow (lastChecked k img + 1 - k.firstRow) := by
  rw [checkedRows, List.range_eq_range', List.drop_range']
  simp

theorem mem_checkedRows {k : TableId} {img : Image} {r : Nat} :
    r ∈ checkedRows k img ↔ k.firstRow ≤ r ∧ r ≤ lastChecked k img := by
  rw [checkedRows_eq, List.mem_range'_1]
  omega

/-- R185: the row that is answered fails, and those checked before it pass. -/
theorem firstBadRow_eq_some {k : TableId} {img : Image} {r : Nat} (bad : firstBadRow k img = some r) :
    rowOk k img r = false ∧ r ∈ checkedRows k img ∧ ∀ q, q ∈ checkedRows k img → q < r → rowOk k img q = true := by
  rw [firstBadRow, checkedRows_eq, List.find?_range'_eq_some, ← checkedRows_eq] at bad
  obtain ⟨fails, member, before⟩ := bad
  refine ⟨by simpa using fails, member, fun q checked earlier => ?_⟩
  simpa using before q (mem_checkedRows.mp checked).1 earlier

theorem firstBadRow_eq_none {k : TableId} {img : Image} (sound : firstBadRow k img = none) :
    ∀ q, q ∈ checkedRows k img → rowOk k img q = true := by
  simpa [firstBadRow] using sound

/-! ### The ranges of a row's fields -/

/-- A row has its fields, each within its one range. -/
def Row.Within (row : Row) (ranges : List (Nat × Nat)) : Prop :=
  List.Forall₂ (fun n (p : Nat × Nat) => p.1 ≤ n ∧ n ≤ p.2) row ranges

theorem zip_admits_iff (fields : List FieldSpec) (row : Row) :
    (fields.length == row.length && (fields.zip row).all fun p => p.1.admits p.2) = true ↔
      List.Forall₂ (fun n (f : FieldSpec) => f.admits n = true) row fields := by
  induction fields generalizing row with
  | nil => cases row <;> simp
  | cons f fields ih =>
    cases row with
    | nil => simp
    | cons n row =>
      rw [List.forall₂_cons, ← ih row]
      simp only [List.length_cons, List.zip_cons_cons, List.all_cons, Bool.and_eq_true, beq_iff_eq, Nat.add_right_cancel_iff]
      exact and_left_comm

theorem fieldsOk_iff {k : TableId} {r : Nat} {row : Row} :
    fieldsOk k r row = true ↔ List.Forall₂ (fun n (f : FieldSpec) => f.admits n = true) row (fieldsOf k r) :=
  zip_admits_iff (fieldsOf k r) row

theorem fieldsOk_iff_within {k : TableId} {r : Nat} {row : Row} {ranges : List (Nat × Nat)}
    (single : (fieldsOf k r).map FieldSpec.ranges = ranges.map ([·])) : fieldsOk k r row = true ↔ row.Within ranges := by
  have fields : List.Forall₂ (fun n (f : FieldSpec) => f.admits n = true) row (fieldsOf k r) ↔
      List.Forall₂ (fun n l => (l.any fun p : Nat × Nat => decide (p.1 ≤ n ∧ n ≤ p.2)) = true) row
        ((fieldsOf k r).map FieldSpec.ranges) := by
    rw [List.forall₂_map_right_iff]
    rfl
  rw [fieldsOk_iff, fields, single, List.forall₂_map_right_iff]
  simp [Row.Within]

/-! ### The rows that pass, table by table -/

theorem fieldsOf_zero (k : TableId) : fieldsOf k 0 = globalFields k := rfl

theorem fieldsOf_row (k : TableId) {r : Nat} (row : 1 ≤ r) : fieldsOf k r = rowFields k := if_neg (by omega)

section
variable {k : TableId} {img : Image} {ranges : List (Nat × Nat)}

theorem rowOk_zero_iff (single : (globalFields k).map FieldSpec.ranges = ranges.map ([·])) :
    rowOk k img 0 = true ↔ (img.row 0).Within ranges ∧ crossOk k img 0 = true := by
  rw [rowOk, Bool.and_eq_true, fieldsOk_iff_within (by rwa [fieldsOf_zero])]

theorem rowOk_row_iff {r : Nat} (row : 1 ≤ r) (single : (rowFields k).map FieldSpec.ranges = ranges.map ([·])) :
    rowOk k img r = true ↔ (img.row r).Within ranges ∧ crossOk k img r = true := by
  rw [rowOk, Bool.and_eq_true, fieldsOk_iff_within (by rwa [fieldsOf_row k row])]

/-- A row that nothing but its fields' ranges can fail. -/
theorem rowOk_zero_ranges (single : (globalFields k).map FieldSpec.ranges = ranges.map ([·])) (uncrossed : crossOk k img 0 = true) :
    rowOk k img 0 = true ↔ (img.row 0).Within ranges :=
  (rowOk_zero_iff single).trans (and_iff_left uncrossed)

theorem rowOk_row_ranges {r : Nat} (row : 1 ≤ r) (single : (rowFields k).map FieldSpec.ranges = ranges.map ([·]))
    (uncrossed : crossOk k img r = true) : rowOk k img r = true ↔ (img.row r).Within ranges :=
  (rowOk_row_iff row single).trans (and_iff_left uncrossed)

end

theorem field_admits_iff (w lo hi n : Nat) : (field w lo hi).admits n = true ↔ lo ≤ n ∧ n ≤ hi := by
  simp [field, FieldSpec.admits]

/-- R82: a doze period is 0, or lies in 10 to 5000. -/
theorem dozePeriod_admits_iff (n : Nat) :
    (⟨2, [(0, 0), (10, 5000)]⟩ : FieldSpec).admits n = true ↔ (0 ≤ n ∧ n ≤ 5000) ∧ (n = 0 ∨ 10 ≤ n) := by
  simp only [FieldSpec.admits, List.any_cons, List.any_nil, Bool.or_false, Bool.or_eq_true, decide_eq_true_eq]
  omega

/-- R82, R83: the doze period is the one field of a slot's row with a gap in its range. -/
theorem slotFields_iff {row : Row} :
    List.Forall₂ (fun n (f : FieldSpec) => f.admits n = true) row (rowFields .schedule) ↔
      row.Within [(1, 5), (0, 32), (1, 1000), (0, 5000), (1, 8), (0, 1)] ∧ (row.getD 3 0 = 0 ∨ 10 ≤ row.getD 3 0) := by
  unfold Row.Within rowFields flagField
  constructor
  · rintro (_ | ⟨fn, _ | ⟨len, _ | ⟨run, _ | ⟨doze, _ | ⟨owed, _ | ⟨flag, _ | _⟩⟩⟩⟩⟩⟩)
    obtain ⟨range, gap⟩ := (dozePeriod_admits_iff _).mp doze
    simp only [field_admits_iff] at fn len run owed flag
    exact ⟨.cons fn (.cons len (.cons run (.cons range (.cons owed (.cons flag .nil))))), gap⟩
  · rintro ⟨_ | ⟨fn, _ | ⟨len, _ | ⟨run, _ | ⟨range, _ | ⟨owed, _ | ⟨flag, _ | _⟩⟩⟩⟩⟩⟩, gap⟩
    have doze := (dozePeriod_admits_iff _).mpr ⟨range, gap⟩
    have admits {w lo hi n : Nat} := (field_admits_iff w lo hi n).mpr
    exact .cons (admits fn) (.cons (admits len) (.cons (admits run) (.cons doze (.cons (admits owed) (.cons (admits flag) .nil)))))

section
variable {img : Image} {r : Nat}

theorem crossOk_charge_zero : crossOk .charge img 0 = true ↔ img.cell 0 11 < img.cell 0 12 := decide_eq_true_iff

theorem crossOk_route : crossOk .route img r = true ↔ (r ≠ 2 → 2 ∉ img.row r) := by
  simp only [crossOk, Bool.or_eq_true, beq_iff_eq, List.all_eq_true, bne_iff_ne, ← or_iff_not_imp_left]
  exact or_congr_right ⟨fun others two => others 2 two rfl, fun none c member two => none (two ▸ member)⟩

variable (row : 1 ≤ r)
include row

theorem crossOk_schedule : crossOk .schedule img r = true ↔ ∀ q, 1 ≤ q → q < r → img.cell q 0 ≠ img.cell r 0 := by
  have other : r ≠ 0 := by omega
  simp only [crossOk, beq_iff_eq, other, Bool.or_eq_true, Bool.not_eq_true', List.any_eq_false, List.mem_range, Bool.and_eq_true,
    bne_iff_ne, false_or, not_and]
  exact ⟨fun h q first before => h q before (by omega), fun h q before other => h q (by omega) before⟩

theorem crossOk_channel :
    crossOk .channel img r = true ↔ img.cell r 1 ≤ img.cell r 2 ∧ (r = 1 ∨ r = 2 → img.cell r 5 = 0) := by
  have other : r ≠ 0 := by omega
  simp [crossOk, other]
  omega

theorem crossOk_charge :
    crossOk .charge img r = true ↔
      img.cell r 0 < img.cell r 1 ∧ img.cell r 2 ≤ img.cell r 3 ∧ img.cell r 3 ≤ img.cell 0 1 - 2 * img.cell 0 2 := by
  have other : r ≠ 0 := by omega
  simp [crossOk, other, and_assoc]

theorem rowOk_schedule :
    rowOk .schedule img r = true ↔
      (img.row r).Within [(1, 5), (0, 32), (1, 1000), (0, 5000), (1, 8), (0, 1)] ∧ (img.cell r 3 = 0 ∨ 10 ≤ img.cell r 3) ∧
      ∀ q, 1 ≤ q → q < r → img.cell q 0 ≠ img.cell r 0 := by
  rw [rowOk, Bool.and_eq_true, fieldsOk_iff, fieldsOf_row _ row, slotFields_iff, crossOk_schedule row, and_assoc]
  rfl

end

end Sys2Proof.Machine
end

section
/-!
PROOFS. The CHARGE swap (R135): what its load puts in effect; what the changes of the charger that follow the load keep of it, since no
further swap can come with them; and from both all that the swap does, in whatever state it is made (part of O45).
-/

namespace Sys2Proof.Machine

/-! ### The values of the coil driver in effect -/

/-- R129: the three values are in effect, and buffered. -/
structure Driver.InEffect (d : Driver) (period dead duty : Nat) : Prop where
  period : d.period = period ∧ d.periodB = period
  dead : d.dead = dead ∧ d.deadB = dead
  duty : d.duty = duty ∧ d.dutyB = duty

theorem Driver.adopt_inEffect (d : Driver) (period dead duty oldN newN : Nat) :
    (d.adopt period dead duty oldN newN).InEffect period dead duty := by
  unfold Driver.adopt
  dsimp only
  (repeat' split) <;> exact ⟨⟨rfl, rfl⟩, ⟨rfl, rfl⟩, ⟨rfl, rfl⟩⟩

/-- R128: a start loads the buffered values, and a stop keeps all of them. -/
theorem Pch.settle_inEffect {p : Pch} {period dead duty : Nat} (h : p.driver.InEffect period dead duty) :
    p.settle.driver.InEffect period dead duty := by
  rcases p.settle_cases with ⟨_, _, _, e⟩ | ⟨_, _, _, e⟩ | ⟨_, _, e⟩ | ⟨_, _, e⟩ <;> rw [e]
  · exact h
  · exact ⟨⟨h.period.2, h.period.2⟩, ⟨h.dead.2, h.dead.2⟩, ⟨h.duty.2, h.duty.2⟩⟩
  · exact ⟨h.period, h.dead, h.duty⟩
  · exact h

/-! ### What the changes of the charger keep of a CHARGE swap -/

/-- R135: with no CHARGE table awaiting swap, what every change of the charger keeps: the tables, the budget record but for the stage
limit and its claim, the values in effect and the replies. -/
structure State.KeepsSwap (s t : State) : Prop where
  tables : t.tables = s.tables
  limit : ∀ limit, t.spm.withLimit limit = s.spm.withLimit limit
  effect : ∀ period dead duty, s.pch.driver.InEffect period dead duty → t.pch.driver.InEffect period dead duty
  replies : s.KeepsReplies t

theorem State.KeepsSwap.of_eq {s t : State} (tables : t.tables = s.tables) (spm : t.spm = s.spm)
    (driver : t.pch.driver = s.pch.driver) (upq : t.upq = s.upq) : s.KeepsSwap t :=
  ⟨tables, fun _ => by rw [spm], fun _ _ _ h => by rwa [driver], .of_eq upq⟩

theorem State.KeepsSwap.refl (s : State) : s.KeepsSwap s := .of_eq rfl rfl rfl rfl

theorem State.KeepsSwap.trans {s t u : State} (h : s.KeepsSwap t) (h' : t.KeepsSwap u) : s.KeepsSwap u :=
  ⟨h'.tables.trans h.tables, fun l => (h'.limit l).trans (h.limit l), fun _ _ _ e => h'.effect _ _ _ (h.effect _ _ _ e),
    h.replies.trans h'.replies⟩

/-- A state that shares all of this with the first state of the relation may replace it. -/
theorem State.KeepsSwap.left {s t u : State} (h : u.KeepsSwap t) (tables : u.tables = s.tables) (spm : u.spm = s.spm)
    (driver : u.pch.driver = s.pch.driver) (upq : u.upq = s.upq) : s.KeepsSwap t :=
  (State.KeepsSwap.of_eq tables spm driver upq).trans h

theorem State.penNotice_keepsSwap (s : State) : s.KeepsSwap s.penNotice :=
  ⟨by simp, fun _ => by simp, fun _ _ _ h => by simpa using h, s.notice_keepsReplies _⟩

theorem State.enterCharger_keepsSwap (s : State) (c : ChargerState) : s.KeepsSwap (s.enterCharger c) := by
  refine ⟨by simp, fun _ => by simp, fun _ _ _ h => ?_, s.enterCharger_keepsReplies c⟩
  rw [(s.enterCharger_pch c).2]
  exact Pch.settle_inEffect (p := { s.pch with state := c }) h

/-- R147, R148: the pause reasons do to the charger no more than this: it goes to PAUSED or to WAIT, or stays. -/
structure Pch.RepausedAtMost (p q : Pch) : Prop where
  pen : q.pen = p.pen
  waiting : p.waiting = none → q.waiting = none
  charge : q.state = .charge → p.state = .charge ∧ q.stageTimer = p.stageTimer
  attempts : p.state ≠ .paused → q.attempts = p.attempts
  counts : q.overcurrent = p.overcurrent ∧ q.timeouts = p.timeouts

/-- R128, R153: of the charger's record a change of its state touches the state, the driver, the blanking and the waiting stage. -/
theorem State.enterCharger_pch_eq (s : State) (c : ChargerState) :
    ∃ driver blanking waiting, (s.enterCharger c).pch =
      { s.pch with state := c, driver := driver, blanking := blanking, waiting := waiting } ∧
      (waiting = s.pch.waiting ∨ waiting = none) := by
  rcases s.enterCharger_cases c with ⟨_, _, e⟩ | ⟨_, e⟩ <;> rw [e]
  · rw [State.capture_pch, Pch.settle_eq]
    exact ⟨_, _, none, rfl, .inr rfl⟩
  · dsimp only
    rw [Pch.settle_eq]
    exact ⟨_, _, _, rfl, .inl rfl⟩

/-- R148, R139: a charger that goes to PAUSED or to WAIT. -/
theorem State.enterCharger_repaused (s : State) {c : ChargerState} (other : c ≠ .charge) :
    s.pch.RepausedAtMost (s.enterCharger c).pch := by
  obtain ⟨_, _, waiting, e, discarded⟩ := s.enterCharger_pch_eq c
  rw [e]
  exact ⟨rfl, fun h => discarded.elim (·.trans h) id, fun charge => absurd charge other, fun _ => rfl, ⟨rfl, rfl⟩⟩

section
variable (s : State) (q : Pauses)

theorem State.toPausedBy_keepsSwap : s.KeepsSwap (s.toPausedBy State.enterCharger) :=
  (State.enterCharger_keepsSwap _ .paused).left rfl rfl rfl rfl

theorem State.toWaitBy_keepsSwap : s.KeepsSwap (s.toWaitBy State.enterCharger) :=
  (s.enterCharger_keepsSwap .wait).trans ((State.penNotice_keepsSwap _).left rfl rfl rfl rfl)

theorem State.setPausesBy_keepsSwap : s.KeepsSwap (s.setPausesBy State.enterCharger q) := by
  rcases s.setPausesBy_cases State.enterCharger q with ⟨_, e⟩ | ⟨_, _, _, e⟩ | ⟨_, _, _, e⟩ | ⟨_, _, _, e⟩ <;> rw [e]
  · exact .refl s
  · refine State.KeepsSwap.trans ?_ (State.penNotice_keepsSwap _)
    exact (State.toPausedBy_keepsSwap _).left rfl rfl rfl rfl
  · exact (State.toWaitBy_keepsSwap _).left rfl rfl rfl rfl
  · exact (State.penNotice_keepsSwap _).left rfl rfl rfl rfl

theorem State.setPausesBy_repaused : s.pch.RepausedAtMost (s.setPausesBy State.enterCharger q).pch := by
  have cases := s.setPausesBy_cases State.enterCharger q
  rcases cases with ⟨_, e⟩ | ⟨_, _, _, e⟩ | ⟨_, paused, _, e⟩ | ⟨_, _, _, e⟩ <;> rw [e]
  · exact ⟨rfl, id, fun h => ⟨h, rfl⟩, fun _ => rfl, ⟨rfl, rfl⟩⟩
  · let cleared : State := { s with
      pch.pauses := q, pch.waitTimer := none, pch.burstTimer := none, pch.stageTimer := none, pch.packetTimer := none
      pch.waiting := none, pch.checkTicks := none }
    have state : (cleared.enterCharger .paused).pch.state = .paused := (cleared.enterCharger_pch .paused).1
    obtain ⟨pen, waiting, _, attempts, counts⟩ := cleared.enterCharger_repaused (c := .paused) (by decide)
    exact ⟨pen, fun _ => waiting rfl, fun charge => absurd (state.symm.trans charge) (by decide), attempts, counts⟩
  · let cleared : State := { s with pch.pauses := q, pch.attempts := 0 }
    have state : (cleared.enterCharger .wait).pch.state = .wait := (cleared.enterCharger_pch .wait).1
    obtain ⟨pen, waiting, _, _, counts⟩ := cleared.enterCharger_repaused (c := .wait) (by decide)
    exact ⟨pen, waiting, fun charge => absurd (state.symm.trans charge) (by decide), fun other => absurd paused other, counts⟩
  · exact ⟨rfl, id, fun h => ⟨h, rfl⟩, fun _ => rfl, ⟨rfl, rfl⟩⟩

/-- The current limit of the stage named in the pen record, or of stage 0 (R152). -/
def State.limitInForce : Nat := (s.stage ((s.pch.pen.bind PenRecord.stage).getD 0)).currentLimit

/-- R152, R165: the budget record with the stage limit in force and the claim that follows from it. -/
def State.limited : State := { s with spm := s.spm.withLimit s.limitInForce }

/-- R152, R165: the limit is handed on with the claim that follows from it, and then the charger is paused or resumed at most. -/
theorem State.handLimitBy_spec :
    let t := s.handLimitBy State.enterCharger
    s.KeepsSwap t ∧ s.pch.RepausedAtMost t.pch ∧ t.spm = s.spm.withLimit s.limitInForce := by
  have handed : s.KeepsSwap s.limited := ⟨rfl, fun _ => rfl, fun _ _ _ => id, .of_eq rfl⟩
  rcases s.rebudgetBy_cases State.enterCharger { s.spm with stageLimit := s.limitInForce } with ⟨_, _, e⟩ | ⟨_, e⟩
  · have stays : s.handLimitBy State.enterCharger = s.limited := e
    rw [stays]
    exact ⟨handed, ⟨rfl, id, fun h => ⟨h, rfl⟩, fun _ => rfl, ⟨rfl, rfl⟩⟩, rfl⟩
  · generalize s.pch.pauses.forClaim _ _ = q at e
    have moves : s.handLimitBy State.enterCharger = s.limited.setPausesBy State.enterCharger q := e
    have spm : (s.limited.setPausesBy State.enterCharger q).spm = s.limited.spm :=
      State.setPausesBy_spm State.enterCharger (fun p r => r = p) (fun _ => rfl) (fun t c => by simp) s.limited q
    rw [moves]
    exact ⟨handed.trans (s.limited.setPausesBy_keepsSwap q), s.limited.setPausesBy_repaused q, spm⟩

end

/-! ### A stage that is made after a CHARGE swap -/

section
variable {s : State} (swapped : s.tables.charge.awaiting = false)
include swapped

theorem State.toCharger_swapped {t : State} (tables : t.tables = s.tables) (c : ChargerState) : t.toCharger c = t.enterCharger c :=
  State.toCharger_calm (.inr (tables ▸ swapped)) c

theorem State.setPauses_swapped (q : Pauses) : s.setPauses q = s.setPausesBy State.enterCharger q := by
  have paused : ∀ t : State, t.tables = s.tables → t.toPausedBy State.toCharger = t.toPausedBy State.enterCharger :=
    fun t tables => State.toCharger_swapped swapped (by exact tables) .paused
  have waits : ∀ t : State, t.tables = s.tables → t.toWaitBy State.toCharger = t.toWaitBy State.enterCharger := by
    intro t tables
    rw [State.toWaitBy, State.toCharger_swapped swapped tables]
    rfl
  unfold State.setPauses State.setPausesBy
  dsimp only
  rw [paused { s with pch.pauses := q } rfl, waits { s with pch.pauses := q, pch.attempts := 0 } rfl]

theorem State.handLimit_swapped : s.handLimit = s.handLimitBy State.enterCharger := by
  unfold State.handLimit State.handLimitBy State.rebudgetBy
  dsimp only
  split
  · rfl
  · exact State.setPauses_swapped (s := s.limited) swapped _

theorem State.handLimit_spec :
    s.KeepsSwap s.handLimit ∧ s.pch.RepausedAtMost s.handLimit.pch ∧ s.handLimit.spm = s.spm.withLimit s.limitInForce := by
  rw [State.handLimit_swapped swapped]
  exact s.handLimitBy_spec

end

/-- R142, R143: what an entry to CHARGE and a change of stage have in common. -/
structure Pch.MakesStage (p : Pch) (stage : Nat) (timer : Option Timer) (q : Pch) : Prop where
  pen : q.pen = p.pen.map fun r => { r with stage := some stage }
  waiting : q.waiting = none
  timer : q.state = .charge → q.stageTimer = timer
  overcurrent : q.overcurrent = 0

/-- A pause or a resume leaves the stage as it was made. -/
theorem Pch.MakesStage.repaused {p q r : Pch} {stage : Nat} {timer : Option Timer} (h : p.MakesStage stage timer q)
    (after : q.RepausedAtMost r) : p.MakesStage stage timer r where
  pen := after.pen.trans h.pen
  waiting := after.waiting h.waiting
  timer charge := (after.charge charge).2.trans (h.timer (after.charge charge).1)
  overcurrent := after.counts.1.trans h.overcurrent

section
variable {s : State} (swapped : s.tables.charge.awaiting = false) (stage : Nat)
include swapped

theorem State.toStage_spec :
    s.KeepsSwap (s.toStage stage) ∧ s.pch.MakesStage stage (s.stageTimerFor stage) (s.toStage stage).pch := by
  let made : State := { s with
      pch.pen := s.pch.pen.map fun (p : PenRecord) => { p with stage := some stage }
      pch.stageTimer := s.stageTimerFor stage
      pch.overcurrent := 0, pch.waiting := none }
  obtain ⟨keeps, repaused, _⟩ := State.handLimit_spec (s := made) swapped
  have stageMade : s.pch.MakesStage stage (s.stageTimerFor stage) made.pch := ⟨rfl, rfl, fun _ => rfl, rfl⟩
  exact ⟨(keeps.trans (State.penNotice_keepsSwap _)).left rfl rfl rfl rfl, stageMade.repaused repaused⟩

theorem State.toCharge_spec :
    s.KeepsSwap (s.toCharge stage) ∧ s.pch.MakesStage stage (s.stageTimerFor stage) (s.toCharge stage).pch := by
  let entered := s.enterCharger .charge
  let made : State := { entered with
      pch.pen := entered.pch.pen.map fun (p : PenRecord) => { p with stage := some stage }
      pch.stageTimer := s.stageTimerFor stage
      pch.packetTimer := some (.start s.chg.packetTimeout)
      pch.attempts := 0, pch.overcurrent := 0, pch.timeouts := 0, pch.waiting := none }
  have ran : s.toCharge stage = made.handLimit.penNotice := by
    unfold State.toCharge
    rw [State.toCharger_swapped swapped rfl]
  have pen : entered.pch.pen = s.pch.pen := by
    obtain ⟨_, _, _, e, _⟩ := s.enterCharger_pch_eq .charge
    rw [e]
  obtain ⟨keeps, repaused, _⟩ := State.handLimit_spec (s := made) (by simpa [made, entered] using swapped)
  have stageMade : s.pch.MakesStage stage (s.stageTimerFor stage) made.pch :=
    ⟨by rw [← pen], rfl, fun _ => rfl, rfl⟩
  have noticed : entered.KeepsSwap made.handLimit.penNotice :=
    (keeps.trans (State.penNotice_keepsSwap _)).left rfl rfl rfl rfl
  rw [ran]
  exact ⟨(s.enterCharger_keepsSwap .charge).trans noticed, stageMade.repaused repaused⟩

end

/-- R142, R143: what waits is made, and nothing waits after. -/
theorem State.makeWaiting_spec {s : State} (swapped : s.tables.charge.awaiting = false) :
    s.KeepsSwap s.makeWaiting ∧ s.makeWaiting.pch.waiting = none ∧ (s.pch.waiting = none → s.makeWaiting = s) ∧
    ∀ w, s.pch.waiting = some w → s.pch.MakesStage w.stage (s.stageTimerFor w.stage) s.makeWaiting.pch := by
  rcases s.makeWaiting_cases with ⟨quiet, e⟩ | ⟨w, waits, _, e⟩ | ⟨w, waits, _, e⟩ <;> rw [e]
  · exact ⟨.refl s, quiet, fun _ => rfl, fun w waits => by simp [quiet] at waits⟩
  · obtain ⟨keeps, made⟩ := State.toCharge_spec swapped w.stage
    exact ⟨keeps, made.waiting, fun quiet => by simp [quiet] at waits, fun v h => by
      obtain rfl : w = v := Option.some.inj (waits.symm.trans h)
      exact made⟩
  · obtain ⟨keeps, made⟩ := State.toStage_spec swapped w.stage
    exact ⟨keeps, made.waiting, fun quiet => by simp [quiet] at waits, fun v h => by
      obtain rfl : w = v := Option.some.inj (waits.symm.trans h)
      exact made⟩

/-! ### The load of a CHARGE swap -/

/-- R135: the waiting stage under a new image: a stage that the image does not have is chosen anew. -/
def State.restaged (s : State) (w : Waiting) : Waiting := if s.chg.stageCount ≤ w.stage then { w with stage := s.chosen } else w

/-- R135, R185: the images moved, the commit answered and the waiting stage in the new image. -/
def State.swapImaged (s : State) : State :=
  let t := s.swapTable .charge
  { t with pch.stepped := false, pch.waiting := s.pch.waiting.map t.restaged }

/-- R135: the stage chosen anew, and the new period, dead band and duty loaded, before what waits is made. -/
def State.swapLoaded (s : State) : State :=
  let t := s.swapImaged.rechoose
  { t with pch.driver := t.pch.driver.adopt t.chg.period t.chg.deadBand t.swapDuty s.chg.divider t.chg.divider }

theorem State.swapCharge_eq (s : State) : s.swapCharge = s.swapLoaded.makeWaiting.handLimit := rfl

theorem State.rechoose_cases (s : State) :
    (∃ i, s.pch.state = .charge ∧ s.pch.waiting = none ∧ s.pch.pen.bind PenRecord.stage = some i ∧ s.chg.stageCount ≤ i ∧
      s.rechoose = { s with
        pch.pen := s.pch.pen.map fun (p : PenRecord) => { p with stage := some s.chosen }
        pch.stageTimer := s.stageTimerFor s.chosen
        pch.driver.dutyB := (s.stage s.chosen).dutyMin }) ∨
    (¬(s.pch.state = .charge ∧ s.pch.waiting = none ∧
        ∃ i, s.pch.pen.bind PenRecord.stage = some i ∧ s.chg.stageCount ≤ i) ∧
      s.rechoose = s) := by
  unfold State.rechoose
  split
  · rename_i i charge quiet stage
    split
    · rename_i beyond
      exact .inl ⟨i, charge, quiet, stage, beyond, rfl⟩
    · rename_i within
      refine .inr ⟨fun ⟨_, _, j, names, beyond⟩ => within ?_, rfl⟩
      obtain rfl : i = j := Option.some.inj (stage.symm.trans names)
      exact beyond
  · rename_i other
    exact .inr ⟨fun ⟨charge, quiet, i, stage, _⟩ => other i charge quiet stage, rfl⟩

theorem State.rechoose_pch (s : State) :
    ∃ pen timer driver, s.rechoose.pch = { s.pch with pen := pen, stageTimer := timer, driver := driver } := by
  rcases s.rechoose_cases with ⟨_, _, _, _, _, e⟩ | ⟨_, e⟩ <;> rw [e] <;> exact ⟨_, _, _, rfl⟩

section
variable (s : State)

/-- R135: of the charger's record the load leaves the state and the counts; and nothing waits after it but what waited before. -/
theorem State.swapLoaded_pch :
    let p := s.swapLoaded.pch
    p.state = s.pch.state ∧ p.waiting = s.pch.waiting.map (s.swapTable .charge).restaged ∧ p.attempts = s.pch.attempts ∧
    p.overcurrent = s.pch.overcurrent ∧ p.timeouts = s.pch.timeouts ∧ p.pen = s.swapImaged.rechoose.pch.pen ∧
    p.stageTimer = s.swapImaged.rechoose.pch.stageTimer := by
  obtain ⟨_, _, _, e⟩ := s.swapImaged.rechoose_pch
  unfold State.swapLoaded
  dsimp only
  rw [e]
  exact ⟨rfl, rfl, rfl, rfl, rfl, rfl, rfl⟩

theorem State.swapLoaded_tables : s.swapLoaded.tables = s.chargeSwapped := by
  have images : s.swapLoaded.tables = s.swapImaged.tables := by simp [State.swapLoaded]
  exact images

theorem State.swapLoaded_spm : s.swapLoaded.spm = s.spm := by
  simp [State.swapLoaded, State.swapImaged]

theorem State.swapLoaded_inEffect :
    s.swapLoaded.pch.driver.InEffect s.swapLoaded.chg.period s.swapLoaded.chg.deadBand s.swapImaged.rechoose.swapDuty :=
  Driver.adopt_inEffect _ _ _ _ _ _

theorem State.swapLoaded_answers : ⟨.reply ⟨0x41, .ok, [], false⟩, false⟩ ∈ s.swapLoaded.upq.entries := by
  simp [State.swapLoaded, State.swapImaged, State.swapTable, State.reply_upq, commitKind]

end

/-! ### The stage and the duty that the swap chooses -/

section
variable {s t : State}

/-- What is read off the CHARGE image is the same in two states with the same tables. -/
theorem State.chargeReads_of_tables (tables : t.tables = s.tables) :
    t.chg = s.chg ∧ t.stage = s.stage ∧ t.clampDuty = s.clampDuty ∧ t.stageTimerFor = s.stageTimerFor := by
  have chg : t.chg = s.chg := by rw [State.chg, tables, State.chg]
  have stage : t.stage = s.stage := by
    funext i
    rw [State.stage, tables, State.stage]
  refine ⟨chg, stage, ?_, ?_⟩
  · funext i d
    simp only [State.clampDuty, State.dutyCeiling, chg, stage]
  · funext i
    simp only [State.stageTimerFor, stage]

theorem State.chosen_of_battery (tables : t.tables = s.tables)
    (battery : t.pch.pen.bind PenRecord.battery = s.pch.pen.bind PenRecord.battery) : t.chosen = s.chosen := by
  rw [State.chosen, battery, tables, State.chosen]

theorem clampDuty_dutyMin (s : State) (stage : Nat) : s.clampDuty stage (s.stage stage).dutyMin = (s.stage stage).dutyMin :=
  max_eq_left (min_le_right _ _)

theorem State.rechoose_waits {w : Waiting} (waits : s.pch.waiting = some w) : s.rechoose = s := by
  rcases s.rechoose_cases with ⟨_, _, quiet, _⟩ | ⟨_, e⟩
  · simp [waits] at quiet
  · exact e

theorem State.rechoose_other (other : s.pch.state ≠ .charge) : s.rechoose = s := by
  rcases s.rechoose_cases with ⟨_, charge, _⟩ | ⟨_, e⟩
  · exact absurd charge other
  · exact e

section
variable {p : PenRecord} {i : Nat} (pen : s.pch.pen = some p) (names : p.stage = some i)
include pen names

theorem State.rechoose_within (within : i < s.chg.stageCount) : s.rechoose = s := by
  rcases s.rechoose_cases with ⟨j, _, _, stage, beyond, _⟩ | ⟨_, e⟩
  · simp only [pen, Option.bind_some, names, Option.some.injEq] at stage
    omega
  · exact e

theorem State.rechoose_beyond (charge : s.pch.state = .charge) (quiet : s.pch.waiting = none) (beyond : s.chg.stageCount ≤ i) :
    s.rechoose = { s with
      pch.pen := some { p with stage := some s.chosen }
      pch.stageTimer := s.stageTimerFor s.chosen
      pch.driver.dutyB := (s.stage s.chosen).dutyMin } := by
  rcases s.rechoose_cases with ⟨_, _, _, _, _, e⟩ | ⟨no, _⟩
  · rw [e, pen]
    rfl
  · exact absurd ⟨charge, quiet, i, by simp [pen, names], beyond⟩ no

/-- R135: in CHARGE the duty is clamped to the range of the stage that the pen record names. -/
theorem State.swapDuty_charge (charge : s.pch.state = .charge) (quiet : s.pch.waiting = none) :
    s.swapDuty = s.clampDuty i s.pch.driver.dutyB := by
  simp [State.swapDuty, State.stageInForce, quiet, charge, pen, names]

end

theorem State.swapDuty_waits {w : Waiting} (waits : s.pch.waiting = some w) :
    s.swapDuty = if w.entry then (s.stage w.stage).dutyMin else s.clampDuty w.stage s.pch.driver.dutyB := by
  simp [State.swapDuty, waits]

theorem State.swapDuty_ident (ident : s.pch.state = .ident) (quiet : s.pch.waiting = none) :
    s.swapDuty = (s.stage 0).dutyMin := by
  simp [State.swapDuty, quiet, ident]

theorem State.swapDuty_idle (idle : s.pch.state.drives = false) (quiet : s.pch.waiting = none) :
    s.swapDuty = min (s.chg.period - 2 * s.chg.deadBand) s.pch.driver.dutyB := by
  unfold State.swapDuty
  rw [quiet]
  cases state : s.pch.state <;> simp [state, ChargerState.drives] at idle
  all_goals exact Nat.zero_max _

end

/-! ### The CHARGE swap -/

section
variable (s : State)

/-- R135: what holds of every CHARGE swap once it is loaded, whatever waits to be made. -/
theorem State.swapCharge_keeps :
    s.swapLoaded.KeepsSwap s.swapCharge ∧ s.swapCharge.pch.waiting = none ∧
    s.swapCharge.spm = s.spm.withLimit s.swapCharge.limitInForce ∧
    (s.pch.waiting = none → s.swapLoaded.pch.RepausedAtMost s.swapCharge.pch) ∧
    ∀ w, s.pch.waiting = some w →
      let made := (s.swapTable .charge).restaged w
      s.swapLoaded.pch.MakesStage made.stage (s.swapLoaded.stageTimerFor made.stage) s.swapCharge.pch := by
  have swapped : s.swapLoaded.tables.charge.awaiting = false := by rw [s.swapLoaded_tables]; rfl
  obtain ⟨keeps, made, none, some⟩ := State.makeWaiting_spec swapped
  obtain ⟨handed, repaused, spm⟩ :=
    State.handLimit_spec (s := s.swapLoaded.makeWaiting) (by rw [keeps.tables]; exact swapped)
  obtain ⟨_, waiting, _⟩ := s.swapLoaded_pch
  rw [s.swapCharge_eq]
  refine ⟨keeps.trans handed, repaused.waiting made, ?_, fun quiet => ?_, fun w waits => ?_⟩
  · have limit : s.swapLoaded.makeWaiting.handLimit.limitInForce = s.swapLoaded.makeWaiting.limitInForce := by
      rw [State.limitInForce, repaused.pen, (State.chargeReads_of_tables handed.tables).2.1, State.limitInForce]
    rw [spm, limit, keeps.limit, s.swapLoaded_spm]
  · rw [none (by rw [waiting, quiet]; rfl)] at repaused ⊢
    exact repaused
  · exact (some _ (by rw [waiting, waits]; rfl)).repaused repaused

/-- R135: all that the CHARGE swap does. -/
theorem State.swapCharge_swapsCharge : s.SwapsCharge s.swapCharge := by
  obtain ⟨keeps, noneWaits, spm, quietly, makes⟩ := s.swapCharge_keeps
  obtain ⟨state, _, attempts, overcurrent, timeouts, pen, timer⟩ := s.swapLoaded_pch
  have tables : s.swapCharge.tables = s.swapImaged.tables := keeps.tables.trans s.swapLoaded_tables
  obtain ⟨chg, stage, clamp, timerFor⟩ := State.chargeReads_of_tables tables
  obtain ⟨chg', _, _, timerFor'⟩ := State.chargeReads_of_tables (s := s.swapImaged) s.swapLoaded_tables
  have effect := keeps.effect _ _ _ s.swapLoaded_inEffect
  have dutyB : s.swapCharge.pch.driver.dutyB = s.swapImaged.rechoose.swapDuty := effect.duty.2
  exact {
    tables := tables
    reply := keeps.replies _ s.swapLoaded_answers
    period := by rw [chg, ← chg']; exact effect.period
    dead := by rw [chg, ← chg']; exact effect.dead
    inEffect := effect.duty.1.trans effect.duty.2.symm
    noneWaits := noneWaits
    limit := congrArg Spm.stageLimit spm
    claim := by rw [spm]; rfl
    waiting := by
      intro w p waits present
      have made := makes w waits
      have waits' : s.swapImaged.pch.waiting = some ((s.swapTable .charge).restaged w) := congrArg (Option.map _) waits
      rw [State.rechoose_waits waits'] at pen dutyB
      have named := made.pen.trans (congrArg (Option.map _) (pen.trans present))
      have chosen : s.swapCharge.chosen = s.swapImaged.chosen :=
        State.chosen_of_battery tables (by rw [named]; simp [State.swapImaged, present])
      have choice : ((s.swapTable .charge).restaged w).stage =
          if s.swapCharge.chg.stageCount ≤ w.stage then s.swapCharge.chosen else w.stage := by
        rw [chg, chosen]
        exact apply_ite Waiting.stage _ _ _
      have entry : ((s.swapTable .charge).restaged w).entry = w.entry :=
        (apply_ite Waiting.entry _ _ _).trans (ite_self _)
      dsimp only
      rw [← choice, stage, clamp, timerFor]
      refine ⟨named, made.overcurrent, ?_, fun charge => (made.timer charge).trans (congrFun timerFor' _)⟩
      rw [dutyB, State.swapDuty_waits waits', entry]
      rfl
    ident := by
      intro quiet ident
      rw [dutyB, stage, State.rechoose_other (s := s.swapImaged) (by simp [State.swapImaged, ident])]
      exact State.swapDuty_ident ident (by simp [State.swapImaged, quiet])
    kept := by
      intro p i quiet charge present names within
      have quiet' : s.swapImaged.pch.waiting = none := by simp [State.swapImaged, quiet]
      have kept := State.rechoose_within (s := s.swapImaged) present names (by rwa [chg] at within)
      rw [kept] at pen dutyB timer
      rw [dutyB, clamp]
      exact ⟨((quietly quiet).pen.trans pen).trans present, State.swapDuty_charge (s := s.swapImaged) present names charge quiet',
        fun rests => ((quietly quiet).charge rests).2.trans timer⟩
    chosen := by
      intro p i quiet charge present names beyond
      have quiet' : s.swapImaged.pch.waiting = none := by simp [State.swapImaged, quiet]
      have chooses := State.rechoose_beyond (s := s.swapImaged) present names charge quiet' (by rwa [chg] at beyond)
      rw [chooses] at pen timer
      have named := (quietly quiet).pen.trans pen
      have chosen : s.swapCharge.chosen = s.swapImaged.chosen :=
        State.chosen_of_battery tables (by rw [named]; simp [State.swapImaged, present])
      rw [chosen, stage, timerFor]
      refine ⟨named, ?_, fun rests => ((quietly quiet).charge rests).2.trans timer⟩
      rw [dutyB, State.swapDuty_charge (s := s.swapImaged.rechoose) (by rw [chooses]) rfl (by rw [chooses]; exact charge)
        (by rw [chooses]; exact quiet'), chooses]
      exact clampDuty_dutyMin s.swapImaged _
    idle := by
      intro quiet idle
      have other : s.pch.state ≠ .charge := by
        intro charge
        simp [charge, ChargerState.drives] at idle
      rw [dutyB, chg, State.rechoose_other (s := s.swapImaged) other]
      exact State.swapDuty_idle idle (by simp [State.swapImaged, quiet])
    counts := by
      intro quiet other
      obtain ⟨overcurrent', timeouts'⟩ := (quietly quiet).counts
      have attempts' := (quietly quiet).attempts (state ▸ other)
      exact ⟨attempts'.trans attempts, overcurrent'.trans overcurrent, timeouts'.trans timeouts⟩ }

end

end Sys2Proof.Machine
end

section
/-!
PROOFS. What a change of the pause reasons keeps of the pen and of the reason SLEEP, also where it brings a CHARGE swap; and from this
what the POLICY swap brings (R168, R172 to R175). Then the statement about TABLE_COMMIT (O45).
-/

namespace Sys2Proof.Machine

/-! ### The pen and the reason SLEEP -/

/-- What a change of charger state keeps: the pen record and whether SLEEP pauses the charger. -/
def Pch.KeepsSleep (p q : Pch) : Prop := q.pen = p.pen ∧ q.pauses.sleep = p.pauses.sleep

theorem Pch.KeepsSleep.trans {p q r : Pch} (h : p.KeepsSleep q) (h' : q.KeepsSleep r) : p.KeepsSleep r :=
  ⟨h'.1.trans h.1, h'.2.trans h.2⟩

section
variable (go : State → ChargerState → State) (change : ∀ (s : State) c, s.pch.KeepsSleep (go s c).pch)
include change

/-- R147, R173: SLEEP becomes what it is set to, whatever the change of the reasons brings. -/
theorem State.setPausesBy_keepsSleep (s : State) (q : Pauses) :
    (s.setPausesBy go q).pch.pen = s.pch.pen ∧ (s.setPausesBy go q).pch.pauses.sleep = q.sleep := by
  rcases s.setPausesBy_cases go q with ⟨rfl, e⟩ | ⟨_, _, _, e⟩ | ⟨_, _, _, e⟩ | ⟨_, _, _, e⟩ <;> rw [e]
  · exact ⟨rfl, rfl⟩
  · exact change { s with
      pch.pauses := q, pch.waitTimer := none, pch.burstTimer := none, pch.stageTimer := none, pch.packetTimer := none
      pch.waiting := none, pch.checkTicks := none } .paused
  · exact change { s with pch.pauses := q, pch.attempts := 0 } .wait
  · exact ⟨rfl, rfl⟩

/-- R165: the claim judges BUDGET and LATCH alone. -/
theorem State.rebudgetBy_keepsSleep (s : State) (p : Spm) : s.pch.KeepsSleep (s.rebudgetBy go p).pch := by
  rcases s.rebudgetBy_cases go p with ⟨_, _, e⟩ | ⟨_, e⟩ <;> rw [e]
  · exact ⟨rfl, rfl⟩
  · exact State.setPausesBy_keepsSleep go change _ _

end

theorem State.enterCharger_keepsSleep (s : State) (c : ChargerState) : s.pch.KeepsSleep (s.enterCharger c).pch := by
  obtain ⟨_, _, _, e, _⟩ := s.enterCharger_pch_eq c
  rw [e]
  exact ⟨rfl, rfl⟩

theorem State.toCharger_keepsSleep (s : State) (c : ChargerState) : s.pch.KeepsSleep (s.toCharger c).pch := by
  have entered := s.enterCharger_keepsSleep c
  rcases s.toCharger_cases c with ⟨_, _, _, e⟩ | ⟨_, e⟩ <;> rw [e]
  · exact entered.trans (State.rebudgetBy_keepsSleep _ State.enterCharger_keepsSleep _ _)
  · exact entered

/-! ### SLEEP judged again -/

/-- R165: the pen claim is the one that the rest of the budget record gives. -/
def Spm.Claims (p : Spm) : Prop := p.penClaim = p.claim

theorem Spm.Follows.claims {p r : Spm} (h : p.Follows r) : r.Claims := by
  unfold Spm.Follows at h
  rw [h]
  rfl

/-- A CHARGE swap that a pause brings touches the stage limit and the pen claim of the budget record, and no more of it. -/
def Spm.LimitedAtMost (p r : Spm) : Prop := r = { p with stageLimit := r.stageLimit, penClaim := r.penClaim }

theorem Spm.LimitedAtMost.powers {p r : Spm} (h : p.LimitedAtMost r) :
    r.hub = p.hub ∧ r.system = p.system ∧ r.target = p.target ∧ r.activityTimer = p.activityTimer ∧ r.supply = p.supply := by
  unfold Spm.LimitedAtMost at h
  refine ⟨?_, ?_, ?_, ?_, ?_⟩ <;> rw [h]

section
variable (s : State)

theorem State.judgeSleep_spm : s.spm.LimitedAtMost s.judgeSleep.spm ∧ (s.spm.Claims → s.judgeSleep.spm.Claims) := by
  rcases s.setPauses_spm { s.pch.pauses with sleep := s.sleepWanted } with e | follows
  · have stays : s.judgeSleep.spm = s.spm := e
    rw [stays]
    exact ⟨rfl, id⟩
  · have moves : s.spm.Follows s.judgeSleep.spm := follows
    refine ⟨?_, fun _ => moves.claims⟩
    unfold Spm.Follows at moves
    rw [moves]
    rfl

theorem State.judgeSleep_keeps :
    s.judgeSleep.pch.pen = s.pch.pen ∧ s.judgeSleep.pch.pauses.sleep = s.sleepWanted :=
  State.setPausesBy_keepsSleep _ State.toCharger_keepsSleep s _

theorem State.judgeSleep_handsOver : s.HandsOver s.judgeSleep := ⟨s.judgeSleep_swapsAtMost, s.judgeSleep_keepsReplies⟩

theorem State.leaveDeep_spm : ∃ clock, s.leaveDeep.spm = { s.spm with clock := clock } := by
  unfold State.leaveDeep
  split
  · rcases s.startClock_cases with ⟨_, _, e⟩ | ⟨_, e⟩ <;> rw [e] <;> exact ⟨_, rfl⟩
  · exact ⟨_, rfl⟩

/-- R172: the target depth that a state asleep forms. -/
def State.formedTarget : Depth := if s.spm.requested = some .deep ∧ s.row.depth = .deep then .deep else .doze

theorem State.formTarget_spm :
    s.formTarget.spm = { s.spm with target := if s.spm.system = .asleep then some s.formedTarget else s.spm.target } := by
  unfold State.formTarget State.formedTarget
  by_cases asleep : s.spm.system = .asleep
  · rw [if_pos asleep, if_pos asleep]
    split <;> rfl
  · rw [if_neg asleep, if_neg asleep]

variable {s} {t : State}

/-- A CHARGE swap leaves the current row of the POLICY table. -/
theorem State.TablesStand.row (stand : s.TablesStand t) (pae : t.pae = s.pae) : t.row = s.row := by
  have posture : t.posture = s.posture := congrArg (fun p : Pae => p.record.posture) pae
  rcases stand with e | ⟨_, e⟩ <;> rw [State.row, e, posture] <;> rfl

/-- R173: what SLEEP is judged by. -/
theorem State.sleepWanted_congr (hub : t.spm.hub = s.spm.hub) (system : t.spm.system = s.spm.system)
    (target : t.spm.target = s.spm.target) (row : t.row = s.row) (pen : t.pch.pen = s.pch.pen) :
    t.sleepWanted = s.sleepWanted := by
  simp only [State.sleepWanted, State.chargesInSleep, hub, system, target, row, pen]

/-- R173: SLEEP stands as it was judged, also after the CHARGE swap that its change may bring. -/
theorem State.judgeSleep_sleep (s : State) : s.judgeSleep.pch.pauses.sleep = s.judgeSleep.sleepWanted := by
  obtain ⟨hub, system, target, _⟩ := s.judgeSleep_spm.1.powers
  obtain ⟨pen, sleep⟩ := s.judgeSleep_keeps
  have row : s.judgeSleep.row = s.row := s.judgeSleep_handsOver.swaps.tables.row (by simp)
  exact sleep.trans (State.sleepWanted_congr hub system target row pen).symm

/-- R175: a clock start is no ground of SLEEP. -/
theorem State.leaveDeep_sleepWanted (s : State) : s.leaveDeep.sleepWanted = s.sleepWanted := by
  obtain ⟨clock, left⟩ := s.leaveDeep_spm
  have row : s.leaveDeep.row = s.row := s.leaveDeep_handsOver.swaps.tables.row (by simp)
  exact State.sleepWanted_congr (by rw [left]) (by rw [left]) (by rw [left]) row (by simp)

end

/-! ### The POLICY swap -/

section
variable (s : State)

/-- R164, R168: the activity timer at 0 and the supply term of the new image. -/
def State.policySupplied : State := ({ s with spm.activityTimer := 0 } : State).setPower s.spm.lastPower

/-- R172, R173: after that the target formed and SLEEP judged. -/
def State.policyJudged : State := s.policySupplied.formTarget.judgeSleep

theorem State.policySwapped_eq : s.policySwapped = s.policyJudged.leaveDeep := rfl

theorem State.setPower_handsOver (r : Option PowerReport) : s.HandsOver (s.setPower r) :=
  ⟨State.rebudgetBy_swapsAtMost _ State.toCharger_swapsAtMost s _,
    State.rebudgetBy_keepsReplies _ State.toCharger_keepsReplies s _⟩

theorem State.policySupplied_handsOver : s.HandsOver s.policySupplied := (State.setPower_handsOver _ _).left rfl rfl rfl

theorem State.policyJudged_handsOver : s.HandsOver s.policyJudged := by
  have formed : s.HandsOver s.policySupplied.formTarget :=
    s.policySupplied_handsOver.trans (.of_eq (by simp) (by simp) (by simp))
  exact formed.trans (State.judgeSleep_handsOver _)

theorem State.policySwapped_handsOver : s.HandsOver s.policySwapped := s.policyJudged_handsOver.trans (State.leaveDeep_handsOver _)

theorem State.policySupplied_row : s.policySupplied.row = s.row :=
  s.policySupplied_handsOver.swaps.tables.row (by simp [State.policySupplied])

theorem State.policyJudged_row : s.policyJudged.row = s.row :=
  s.policyJudged_handsOver.swaps.tables.row (by simp [State.policyJudged, State.policySupplied])

theorem State.policyJudged_pen : s.policyJudged.pch.pen = s.pch.pen := by
  have supplied : s.policySupplied.pch.pen = s.pch.pen :=
    (State.rebudgetBy_keepsSleep _ State.toCharger_keepsSleep { s with spm.activityTimer := 0 } _).1
  have formed : s.policySupplied.formTarget.pch.pen = s.pch.pen := by simpa using supplied
  exact (State.judgeSleep_keeps _).1.trans formed

/-- R164, R165, R168: the budget record with the new supply term; the power states stand. -/
theorem State.policySupplied_spm :
    let p := s.policySupplied.spm
    p.Claims ∧ p.activityTimer = 0 ∧ p.supply = supplyTerm s.policy s.spm.lastPower ∧ p.hub = s.spm.hub ∧
    p.system = s.spm.system ∧ p.requested = s.spm.requested := by
  have follows := State.rebudget_spm { s with spm.activityTimer := 0 }
    { s.spm with activityTimer := 0, lastPower := s.spm.lastPower, supply := supplyTerm s.policy s.spm.lastPower }
  have activity := congrArg Spm.activityTimer follows
  have supply := congrArg Spm.supply follows
  have hub := congrArg Spm.hub follows
  have system := congrArg Spm.system follows
  have requested := congrArg Spm.requested follows
  exact ⟨follows.claims, activity, supply, hub, system, requested⟩

/-- R164, R165, R168, R172: the budget record and the power states when SLEEP has been judged. -/
theorem State.policyJudged_spm :
    let p := s.policyJudged.spm
    p.Claims ∧ p.activityTimer = 0 ∧ p.supply = supplyTerm s.policy s.spm.lastPower ∧ p.hub = s.spm.hub ∧
    (s.spm.system = .asleep → p.target = some s.formedTarget) := by
  obtain ⟨supplied, activity, supply, hub, system, requested⟩ := s.policySupplied_spm
  have formed := s.policySupplied.formTarget_spm
  have claims : s.policySupplied.formTarget.spm.Claims := by
    rw [formed]
    exact supplied
  obtain ⟨limited, judged⟩ := s.policySupplied.formTarget.judgeSleep_spm
  obtain ⟨hub', _, target, activity', supply'⟩ := limited.powers
  rw [formed] at hub' target activity' supply'
  refine ⟨judged claims, activity'.trans activity, supply'.trans supply, hub'.trans hub, fun asleep => target.trans ?_⟩
  rw [if_pos (system.trans asleep), State.formedTarget, requested, s.policySupplied_row, State.formedTarget]

/-- R168, R172, R173, R165: all of it but the clock start is so when SLEEP has been judged. -/
theorem State.policySwapped_spm :
    let t := s.policySwapped
    t.spm.activityTimer = 0 ∧ t.spm.supply = supplyTerm s.policy s.spm.lastPower ∧
    t.spm.penClaim = min t.spm.stageLimit (min t.spm.supply t.spm.cap - t.spm.latchClaim) ∧
    (s.spm.system = .asleep → t.spm.target = some s.formedTarget) ∧ t.pch.pauses.sleep = t.sleepWanted := by
  obtain ⟨clock, left⟩ := s.policyJudged.leaveDeep_spm
  obtain ⟨claims, activity, supply, _, target⟩ := s.policyJudged_spm
  have sleep : s.policySwapped.sleepWanted = s.policyJudged.sleepWanted :=
    s.policyJudged.leaveDeep_sleepWanted
  have pauses : s.policySwapped.pch.pauses = s.policyJudged.pch.pauses := by simp [s.policySwapped_eq]
  dsimp only
  rw [sleep, pauses, s.policySwapped_eq, left]
  exact ⟨activity, supply, claims, target, State.judgeSleep_sleep _⟩

/-- R175: out of DEEP toward a target DOZE, or to charge in sleep. -/
theorem State.policySwapped_clock (asleep : s.spm.system = .asleep) (deep : s.spm.hub = .deep)
    (bars : s.formedTarget = .doze ∨ (s.row.chargeInSleep = true ∧ s.pch.pen.isSome = true)) :
    s.policySwapped.spm.clock.isSome = true := by
  obtain ⟨_, _, _, hub, target⟩ := s.policyJudged_spm
  suffices barred : s.policyJudged.deepBarred = true from State.leaveDeep_clock_of_barred (hub.trans deep) barred
  rcases bars with doze | ⟨charges, pen⟩
  · simp [State.deepBarred, target asleep, doze]
  · simp [State.deepBarred, State.chargesInSleep, s.policyJudged_row, s.policyJudged_pen, charges, pen]

end

/-! ### The request -/

section
variable {s t : State} {rest : List DownFrame} {n : Byte} {k : TableId}

theorem exec_tableCommit (offered : s.offers ⟨0x41, [n]⟩ rest) (acts : (s.taken rest).tableCommit ⟨0x41, [n]⟩ = t) :
    exec .tableCommit s = .next t := congrArg Host.Outcome.next ((State.carryOut_of_offers offered _ _).trans acts)

theorem DownFrame.arg_zero (kind : Byte) : DownFrame.arg ⟨kind, [n]⟩ 0 = n := rfl

theorem State.tableCommit_badTable (unnumbered : TableId.ofNumber n.toNat = none) :
    s.tableCommit ⟨0x41, [n]⟩ = s.replied 0x41 .badTable [] := by
  simp only [State.tableCommit, DownFrame.arg_zero, unnumbered, State.answer_eq_replied]

variable (numbered : TableId.ofNumber n.toNat = some k)
include numbered

theorem State.tableCommit_busy (awaits : (s.tables.get k).awaiting = true) :
    s.tableCommit ⟨0x41, [n]⟩ = s.replied 0x41 .busy [] := by
  simp only [State.tableCommit, DownFrame.arg_zero, numbered, awaits, if_true, State.answer_eq_replied]

variable (free : (s.tables.get k).awaiting = false)
include free

theorem State.tableCommit_badValue {r : Nat} (bad : firstBadRow k (s.tables.get k).pending = some r) :
    s.tableCommit ⟨0x41, [n]⟩ = s.replied 0x41 .badValue [BitVec.ofNat 8 r] := by
  simp only [State.tableCommit, DownFrame.arg_zero, numbered, free, bad, Bool.false_eq_true, if_false, State.answer_eq_replied, byteOf]

theorem State.tableCommit_valid (valid : firstBadRow k (s.tables.get k).pending = none) :
    s.tableCommit ⟨0x41, [n]⟩ = s.committed k := by
  simp only [State.tableCommit, DownFrame.arg_zero, numbered, free, valid, Bool.false_eq_true, if_false]

end

/-- The parts that a commit may touch. -/
def commitParts : List Part := [.tables, .cnv, .pch, .bcd, .spm, .upq, .slk]

theorem State.OnlyIn.of_commit {s t : State} (pending : t.pending = s.pending) (ticks : t.ticks = s.ticks) (pins : t.pins = s.pins)
    (counters : t.counters = s.counters) (pae : t.pae = s.pae) (blk : t.blk = s.blk) (psc : t.psc = s.psc) (dlu : t.dlu = s.dlu) :
    s.OnlyIn commitParts t := by
  intro p outside
  cases p <;> first | assumption | exact absurd (by decide) outside

/-! ### The statement -/

/-- R168: a POLICY commit, from the request that is taken. -/
theorem State.policy_committed (s : State) (rest : List DownFrame) :
    let u := s.taken rest
    let pending := s.tables.policy.pending
    let swapped : State := { u with tables := { s.tables with policy := ⟨pending, pending, false⟩ } }
    let row := policyRow pending s.posture
    let target := if s.spm.requested = some .deep ∧ row.depth = .deep then Depth.deep else Depth.doze
    let t := u.committed .policy
    swapped.TablesStand t ∧ replyEntry 0x41 .ok [] ∈ t.upq.entries ∧ t.spm.activityTimer = 0 ∧
    t.spm.supply = supplyTerm (policyGlobals pending) s.spm.lastPower ∧
    t.spm.penClaim = min t.spm.stageLimit (min t.spm.supply t.spm.cap - t.spm.latchClaim) ∧
    (s.spm.system = .asleep → t.spm.target = some target) ∧
    (s.spm.system = .asleep → s.spm.hub = .deep →
      target = .doze ∨ (row.chargeInSleep = true ∧ s.pch.pen.isSome = true) → t.spm.clock.isSome = true) ∧
    t.pch.pauses.sleep = t.sleepWanted ∧ s.OnlyIn commitParts t := by
  let v := (s.taken rest).swapTable .policy
  obtain ⟨activity, supply, claim, target, sleep⟩ := v.policySwapped_spm
  obtain ⟨pending, ticks, pins, counters, pae, blk, psc, dlu, _⟩ := v.policySwapped_frame
  have handed := v.policySwapped_handsOver
  exact ⟨handed.swaps.tables, handed.replies _ (List.mem_append_right _ (List.mem_singleton.mpr rfl)), activity, supply, claim,
    target, v.policySwapped_clock, sleep, .of_commit pending ticks pins counters pae blk psc dlu⟩

/-- Settles O45: the checks row by row (`firstBadRow_eq_some` and the rules of each table), and by table the commit of a valid image:
the swap alone for ROUTE, `State.policy_committed` for POLICY, `State.swapCharge_swapsCharge` for CHARGE while the driver is stopped,
and the mark for the rest. -/
theorem commitsValidateAndSwapOrWait : Obligations.CommitsValidateAndSwapOrWait := by
  unfold Obligations.CommitsValidateAndSwapOrWait
  refine ⟨fun k img r => firstBadRow_eq_some, fun k img => firstBadRow_eq_none, fun img => ?_, fun s rest n offered => ?_⟩
  · have least : ∀ k : TableId, k ≠ .route → ∀ r, r ∈ checkedRows k img ↔ r ≤ lastChecked k img := by
      intro k other r
      rw [mem_checkedRows]
      cases k <;> simp_all [TableId.firstRow]
    refine ⟨fun r => mem_checkedRows, least .posture (by decide), least .schedule (by decide), least .channel (by decide),
      least .charge (by decide), least .policy (by decide), ?_, ?_, ?_, ?_, ?_, fun r row => ⟨?_, ?_, ?_, ?_, ?_, ?_⟩⟩
    · exact rowOk_zero_ranges rfl rfl
    · exact rowOk_zero_ranges rfl rfl
    · exact rowOk_zero_ranges rfl rfl
    · rw [← crossOk_charge_zero]
      exact rowOk_zero_iff rfl
    · exact rowOk_zero_ranges rfl rfl
    · rw [← crossOk_route]
      exact rowOk_row_iff row rfl
    · exact rowOk_row_ranges row rfl rfl
    · exact rowOk_schedule row
    · rw [← crossOk_channel row]
      exact rowOk_row_iff row rfl
    · rw [← crossOk_charge row]
      exact rowOk_row_iff row rfl
    · exact rowOk_row_ranges row rfl rfl
  · refine ⟨fun unnumbered => exec_tableCommit offered (State.tableCommit_badTable unnumbered), fun k numbered => ?_⟩
    refine ⟨fun awaits => exec_tableCommit offered (State.tableCommit_busy (s := s.taken rest) numbered awaits), fun free =>
      ⟨fun r bad => exec_tableCommit offered (State.tableCommit_badValue (s := s.taken rest) numbered free bad), ?_, ?_, ?_, ?_⟩⟩
    all_goals
      intro valid table
      have ran := exec_tableCommit offered (State.tableCommit_valid (s := s.taken rest) numbered free valid)
    · subst table
      exact ran
    · subst table
      exact ⟨_, ran, s.policy_committed rest⟩
    · subst table
      refine ⟨fun runs => ran.trans (congrArg Host.Outcome.next (if_pos runs)), fun stopped => ?_⟩
      let u := s.taken rest
      obtain ⟨pending, ticks, pins, counters, pae, blk, psc, dlu, _⟩ := u.swapCharge_frame
      exact ⟨u.swapCharge, ran.trans (congrArg Host.Outcome.next (if_neg (by simp [State.taken, stopped]))),
        u.swapCharge_swapsCharge, .of_commit pending ticks pins counters pae blk psc dlu⟩
    · rcases table with rfl | rfl | rfl <;> exact ran

end Sys2Proof.Machine
end

section
/-!
PROOFS. The machine as a whole: the step and its queue (O1 to O4), the counters (O5), and the short commands of the converter and the
posture engine (O7, O13).
-/

namespace Sys2Proof.Machine

/-- Settles O1, by the equation of the step on a queue that is not empty. -/
theorem stepTakesTheFrontCommand : Obligations.StepTakesTheFrontCommand :=
  fun _ _ _ front => step_of_pending front

theorem State.driveTick_deep {s : State} (deep : s.spm.hub = .deep) : s.driveTick = s := if_pos deep

theorem State.driveTick_counts {s : State} (counts : s.spm.hub ≠ .deep) :
    s.driveTick = { s with pch.driver := s.pch.driver.tick, bcd := s.bcd.tick } := if_neg counts

theorem Driver.tick_eq (d : Driver) :
    d.tick = { d with position := if d.running then min (d.position + 1) (d.period - 1) else d.position } := by
  unfold Driver.tick
  split <;> rfl

/-- Settles O2: in DEEP the drive tick changes nothing, and outside it the driver and the two counts alone. -/
theorem idleStepIsOneDriveTick : Obligations.IdleStepIsOneDriveTick := by
  intro s idle
  refine ⟨fun deep => ?_, fun counts => ⟨_, step_of_idle idle, ?_, ?_, ?_⟩⟩
  · rw [step_of_idle idle, State.driveTick_deep deep]
  · intro p other
    cases p <;> simp_all [Part.Same]
  · rw [State.driveTick_counts counts]
    rfl
  · rw [State.driveTick_counts counts, Driver.tick_eq]

/-- Settles O5, by the two cases of a count: it reaches 255, with its EVENT notice, or it does not. -/
theorem countersSaturateAndTellOnce : Obligations.CountersSaturateAndTellOnce := by
  intro s k n
  refine ⟨s.bumpBy_get k n, fun j other => s.bumpBy_get_of_ne other n, ?_, ?_, ?_⟩
  · intro below reaches
    rcases s.bumpBy_cases k n with ⟨_, _, counted⟩ | ⟨quiet, _⟩
    · rw [counted]
      rfl
    · exact absurd ⟨below, by omega⟩ quiet
  · intro quiet
    rcases s.bumpBy_cases k n with ⟨below, reaches, _⟩ | ⟨_, counted⟩
    · omega
    · rw [counted]
  · intro p other
    cases p <;> simp_all [Part.Same]

theorem State.grantBlanking_stopped {s : State} (stopped : s.pch.driver.running = false) :
    s.grantBlanking =
      { s with
        pch.blanking := .inForce
        cnv.slotS := if s.cnv.slotS = .blankWait then (if s.cnv.slotC = .idle then .scanning else .ready) else s.cnv.slotS
        bcd.edges := if s.bcd.mode = .resonance then 0 else s.bcd.edges
        bcd.startStamp := if s.bcd.mode = .resonance then none else s.bcd.startStamp } := by
  have settled : ({ s.pch with blanking := .inForce } : Pch).settle = { s.pch with blanking := .inForce } := by
    simp [Pch.settle, stopped]
  simp [State.grantBlanking, stopped, settled]

/-- Settles O7: the limit's request is the one that slot S makes, and a grant with the driver stopped brings no swap. -/
theorem blankingIsForcedAndGranted : Obligations.BlankingIsForcedAndGranted := by
  intro s
  refine ⟨fun defers data limit => congrArg Host.Outcome.next (if_pos ⟨defers, data, limit⟩), fun asked stopped => ?_⟩
  show execBlankingGrant s = _
  unfold execBlankingGrant
  rw [if_pos asked, if_neg (by simp [stopped]), State.grantBlanking_stopped stopped]

/-- Settles O13: the guard of the expiry is the statement's. -/
theorem periodExpiryStartsALidRead : Obligations.PeriodExpiryStartsALidRead :=
  fun _ awake due => congrArg Host.Outcome.next (if_pos ⟨awake, due⟩)

/-! ### Every command is a next state but DUE_TIME for a missing slot -/

/-- Settles O4: DUE_TIME alone has a case that stops. -/
theorem onlyAMissingSlotStops : Obligations.OnlyAMissingSlotStops := by
  intro s
  refine ⟨fun c formed => ?_, fun n missing => if_neg (by simpa [Config.slots] using missing)⟩
  cases c
  case dueTime slot => exact ⟨_, if_pos (of_decide_eq_true formed)⟩
  all_goals exact ⟨_, rfl⟩

/-! ### The waiting commands -/

/-- A request keeps the waiting commands where its meaning does. -/
theorem State.carryOut_pending {act : State → DownFrame → State} (keeps : ∀ t f, (act t f).pending = t.pending) (s : State)
    (mine : DownFrame → Bool) : (s.carryOut mine act).pending = s.pending := by
  rcases s.carryOut_cases mine act with e | ⟨f, rest, _, _, e⟩ <;> rw [e]
  rw [keeps]
  rfl

theorem State.fixedLength_pending {act : State → State} (keeps : ∀ t, (act t).pending = t.pending) (s : State) (f : DownFrame)
    (n : Nat) : (s.fixedLength f n act).pending = s.pending := by
  unfold State.fixedLength
  split <;> simp [keeps]

/-- Settles O3: every operation's frame keeps the waiting commands. -/
theorem noCommandTouchesTheQueue : Obligations.NoCommandTouchesTheQueue := by
  intro c s t ran
  cases c
  case dueTime slot =>
    have ran : execDueTime slot s = .next t := ran
    unfold execDueTime at ran
    split at ran
    · obtain rfl := Host.Outcome.next.inj ran
      split <;> simp
    · exact absurd ran (by simp)
  all_goals
    obtain rfl := Host.Outcome.next.inj ran
  case powerOnReset | resetPin => rfl
  case softReset => split <;> rfl
  case baseWrite =>
    refine State.carryOut_pending (fun u f => ?_) s _
    split <;> simp
  case badKind | tableWrite | clearCounters =>
    exact State.carryOut_pending (fun u f => by simp) s _
  case tableCommit | tableRead | query | detachGrant | detachDeny | detachRelease | chargeControl | systemStateSleeping |
      systemStateAwake | hubResetLinks | hubResetAll =>
    exact State.carryOut_pending (fun u f => State.fixedLength_pending (fun v => by simp) u f _) s _
  case bciEdge | resonanceRisingEdge =>
    dsimp only
    (repeat' split) <;> simp
  all_goals
    (repeat' split) <;> simp

/-! ### The reset state -/

theorem State.reset_queueOk : State.reset.QueueOk where
  reports := by decide +kernel
  notices k := by cases k <;> decide +kernel
  places := by decide +kernel
  room := by decide +kernel
  started _ later := absurd later List.not_mem_nil
  sending := by decide +kernel
  followOn := .nil
  behind _ waits := absurd waits List.not_mem_nil

theorem State.reset_imagesOk : State.reset.ImagesOk where
  active k := by cases k <;> decide +kernel
  awaiting k waits := by cases k <;> exact absurd waits (by decide +kernel)
  atOnce := by decide +kernel

theorem State.reset_latchOk : State.reset.LatchOk := by
  constructor <;> decide +kernel

theorem State.reset_converterOk : State.reset.ConverterOk := by
  constructor <;> decide +kernel

theorem State.reset_dutyOk : State.reset.DutyOk where
  period := by decide +kernel
  dead := by decide +kernel
  duty := by decide +kernel
  dutyB := by decide +kernel
  buffered := by decide +kernel
  charging _ charges := absurd charges (by decide +kernel)
  waits _ waiting := absurd waiting (by rintro ⟨⟩)

theorem State.reset_chargerOk : State.reset.ChargerOk where
  on := by decide +kernel
  active := by decide +kernel
  paused := by decide +kernel
  waitTimer := by decide +kernel
  burstTimer := by decide +kernel
  packetTimer := by decide +kernel
  recheckTimer := by decide +kernel
  faultReason := by decide +kernel
  waiting _ waiting := absurd waiting (by rintro ⟨⟩)
  capture := by decide +kernel
  resonance := by decide +kernel
  stage := by decide +kernel

theorem State.reset_linkOk : State.reset.LinkOk where
  record := by decide +kernel
  noRecord := by decide +kernel
  rate := by decide +kernel
  retry := by decide +kernel
  owed := by decide +kernel
  txn _ inFlight := absurd inFlight (by rintro ⟨⟩)

theorem State.reset_anglesOk : State.reset.AnglesOk := by
  constructor
  case thetaHeld | phiBHeld => decide +kernel
  all_goals
    intro x held
    exact absurd held (by rintro ⟨⟩)

theorem State.reset_pollsOk : State.reset.PollsOk where
  owedSlots := by decide +kernel
  dueSlots := by decide +kernel
  owed i := by
    have none : State.reset.owed i = 0 := by
      show (List.replicate 12 0).getD i 0 = 0
      rw [List.getD_eq_getElem?_getD, List.getElem?_replicate]
      split <;> rfl
    omega
  writes := by decide +kernel
  data _ waits := absurd waits List.not_mem_nil

theorem State.reset_countersOk : State.reset.CountersOk where
  counters k := by
    show Counters.zero.get k ≤ 255
    simp
  check _ pen := absurd pen (by rintro ⟨⟩)
  violation _ pen := absurd pen (by rintro ⟨⟩)

/-- Settles O51, invariant by invariant; the values are those of the reset state itself. -/
theorem resetLeavesTheManualsValues : Obligations.ResetLeavesTheManualsValues := by
  refine ⟨rfl, rfl, rfl, fun k => by cases k <;> rfl, ?_⟩
  refine ⟨rfl, rfl, rfl, rfl, rfl, rfl, rfl, rfl, rfl, rfl, rfl, rfl, rfl, rfl, rfl, rfl, rfl, ?_⟩
  refine ⟨rfl, rfl, rfl, rfl, rfl, rfl, rfl, rfl, rfl, rfl, rfl, rfl, rfl, rfl, rfl, ?_⟩
  exact ⟨State.reset_queueOk, State.reset_imagesOk, ⟨by decide +kernel⟩, State.reset_latchOk,
    ⟨by decide +kernel, by decide +kernel, by decide +kernel⟩, State.reset_converterOk, State.reset_dutyOk, State.reset_chargerOk,
    ⟨by decide +kernel, by decide +kernel, by decide +kernel, by decide +kernel, by decide +kernel, by decide +kernel⟩,
    ⟨by decide +kernel, by decide +kernel, by decide +kernel, by decide +kernel, by decide +kernel⟩,
    (by constructor <;> decide +kernel), State.reset_linkOk, State.reset_anglesOk, State.reset_pollsOk, State.reset_countersOk⟩

end Sys2Proof.Machine
end

section
/-!
PROOFS. The triggers of the converter (O6, O8).
-/

namespace Sys2Proof.Machine

/-! ### S triggers -/

section
variable {s : State}

theorem State.takeS_merges (busy : s.cnv.slotS ≠ .idle) : s.takeS = s.bump .mergedS := if_neg busy

variable (idle : s.cnv.slotS = .idle)
include idle

theorem State.takeS_records (awaits : s.tables.channel.awaiting = true) : s.takeS = { s with cnv.recorded := true } := by
  rw [State.takeS, if_pos idle, if_pos awaits]

variable (free : s.tables.channel.awaiting = false)
include free

theorem State.takeS_starts : s.takeS = s.startScan := by
  rw [State.takeS, if_pos idle, if_neg (by simp [free])]

theorem State.takeS_empty (empty : s.scanSet = []) : s.takeS = s := by
  rw [State.takeS_starts idle free, State.startScan, if_pos (by simp [empty])]

variable (some : s.scanSet ≠ [])
include some

theorem State.takeS_unblanked (free : s.needsBlanking s.scanSet = false) :
    s.takeS = { s with
      cnv.todo := s.scanSet, cnv.readings := [], cnv.scanTicks := 0
      cnv.slotS := if s.cnv.slotC = SlotC.idle then SlotS.scanning else SlotS.ready } := by
  rw [State.takeS_starts idle ‹_›, State.startScan]
  simp [some, free]

variable (blanks : s.needsBlanking s.scanSet = true)
include blanks

theorem State.takeS_defers (data : s.bcd.decoder = .data) (limit : 0 < s.chan.deferLimit) :
    s.takeS = { s with
      cnv.todo := s.scanSet, cnv.readings := [], cnv.scanTicks := 0, cnv.slotS := .deferring } := by
  rw [State.takeS_starts idle ‹_›, State.startScan]
  simp [some, blanks, data, limit]

theorem State.takeS_asks (now : s.bcd.decoder ≠ .data ∨ s.chan.deferLimit = 0) :
    s.takeS = { s with
      cnv.todo := s.scanSet, cnv.readings := [], cnv.scanTicks := 0, cnv.slotS := .blankWait
      pch.blanking := if s.pch.blanking = .idle then .requested else s.pch.blanking } := by
  have postponed : ¬(s.bcd.decoder = .data ∧ 0 < s.chan.deferLimit) := by
    rintro ⟨data, limit⟩
    rcases now with left | off
    · exact left data
    · omega
  rw [State.takeS_starts idle ‹_›, State.startScan]
  simp only [List.isEmpty_iff, some, if_false, blanks, if_true, postponed]
  rfl

end

theorem State.mem_scanSet {s : State} {ch : Nat} :
    ch ∈ s.scanSet ↔ ch < 8 ∧
      ((s.spm.hub = .deep ∧ s.chan.deepSet.getLsbD ch = true) ∨ (s.spm.hub ≠ .deep ∧ (s.chanRow ch).inScan = true) ∨
        (ch = 7 ∧ s.cnv.fault = true)) := by
  by_cases deep : s.spm.hub = .deep <;> simp [State.scanSet, Config.channels, vref, deep]

theorem State.scanSet_ascending (s : State) : s.scanSet.Pairwise (· < ·) := List.Pairwise.filter _ List.pairwise_lt_range

theorem State.needsBlanking_iff (s : State) (chs : List Nat) :
    s.needsBlanking chs = true ↔ ∃ ch, ch ∈ chs ∧ (s.chanRow ch).blankCoil = true := List.any_eq_true

/-- Settles O6, by the cases of slot S and of the set that a scan would have. -/
theorem sTriggerStartsAScanOfItsSet : Obligations.STriggerStartsAScanOfItsSet := by
  refine ⟨fun s due => congrArg Host.Outcome.next (if_pos due), fun s => ⟨State.takeS_merges, State.takeS_records,
    State.takeS_empty, State.takeS_unblanked, State.takeS_defers, State.takeS_asks⟩, fun s => ?_⟩
  refine ⟨fun ch => State.mem_scanSet, s.scanSet_ascending, ?_, ?_, ?_, s.needsBlanking_iff⟩ <;>
  · intro hub
    simp [State.scanPeriod, hub]

/-! ### C triggers -/

section
variable {s : State}

theorem State.takeC_drops (busy : s.cnv.slotC = .converting ∨ s.cnv.held ≠ none) : s.takeC = s.bump .droppedC := by
  unfold State.takeC
  split
  · rfl
  · rfl
  · rename_i idle none
    simp [idle, none] at busy

variable (idle : s.cnv.slotC = .idle) (none : s.cnv.held = none)
include idle none

theorem State.takeC_holdsForSwap (awaits : s.tables.channel.awaiting = true) : s.takeC = { s with cnv.held := some .forSwap } := by
  simp [State.takeC, idle, none, awaits]

variable (free : s.tables.channel.awaiting = false)
include free

theorem State.takeC_ignores (scans : s.cnv.slotS = .scanning) (policy : s.chan.policy = .ignore) :
    s.takeC = s.bump .droppedC := by
  simp [State.takeC, idle, none, free, scans, policy]

theorem State.takeC_holdsForScan (scans : s.cnv.slotS = .scanning) (policy : s.chan.policy = .hold) :
    s.takeC = { s with cnv.held := some .forScan } := by
  simp [State.takeC, idle, none, free, scans, policy]

theorem State.takeC_converts (other : s.cnv.slotS ≠ .scanning) : s.takeC = { s with cnv.slotC := .converting } := by
  simp [State.takeC, idle, none, free, other]

end

/-- Settles O8, by the cases of the trigger taken. -/
theorem cTriggerActsByBothSlots : Obligations.CTriggerActsByBothSlots := by
  intro s running nth fresh u
  have taken : exec .cTrigger s = .next u.takeC := congrArg Host.Outcome.next (if_pos ⟨running, nth, fresh⟩)
  rw [taken]
  exact ⟨fun busy => congrArg _ (State.takeC_drops (s := u) busy),
    fun idle none awaits => congrArg _ (State.takeC_holdsForSwap (s := u) idle none awaits),
    fun idle none free scans policy => congrArg _ (State.takeC_ignores (s := u) idle none free scans policy),
    fun idle none free scans policy => congrArg _ (State.takeC_holdsForScan (s := u) idle none free scans policy),
    fun idle none free other => congrArg _ (State.takeC_converts (s := u) idle none free other)⟩

end Sys2Proof.Machine
end

section
/-!
PROOFS. The arithmetic and the steps of a posture evaluation: filters and hinge record (O15), classification (O16), rotation (O17); and
the system tick (O18).
-/

namespace Sys2Proof.Machine

/-! ### The filter -/

/-- R23: the quotient is rounded toward minus infinity. -/
theorem filterAxis_eq_iff (k : Nat) (f x q : Int) : filterAxis k f x = f + q ↔ q * 2 ^ k ≤ x - f ∧ x - f < (q + 1) * 2 ^ k := by
  have pos : (0 : Int) < ((2 ^ k : Nat) : Int) := by positivity
  have cast : ((2 ^ k : Nat) : Int) = 2 ^ k := by push_cast; rfl
  unfold filterAxis
  rw [add_right_inj, cast, Int.ediv_eq_iff_of_pos (cast ▸ pos), Int.add_mul, one_mul]

theorem filterAxis_rises {k : Nat} {f x : Int} (above : f ≤ x) :
    f ≤ filterAxis k f x ∧ filterAxis k f x ≤ x ∧ (filterAxis k f x = f ↔ x - f < 2 ^ k) := by
  have le : (x - f) / ((2 ^ k : Nat) : Int) ≤ x - f := Int.ediv_le_self _ (by omega)
  have nonneg : 0 ≤ (x - f) / ((2 ^ k : Nat) : Int) := Int.ediv_nonneg (by omega) (by positivity)
  refine ⟨by unfold filterAxis; omega, by unfold filterAxis; omega, ?_⟩
  have stands := filterAxis_eq_iff k f x 0
  rw [add_zero, zero_mul, zero_add, one_mul] at stands
  rw [stands]
  exact and_iff_right (by omega)

theorem filterAxis_falls {k : Nat} {f x : Int} (below : x < f) : x ≤ filterAxis k f x ∧ filterAxis k f x < f := by
  have pos : (0 : Int) < ((2 ^ k : Nat) : Int) := by positivity
  have neg : (x - f) / ((2 ^ k : Nat) : Int) < 0 := Int.ediv_neg_of_neg_of_pos (by omega) pos
  have ge : x - f ≤ (x - f) / ((2 ^ k : Nat) : Int) := by
    rw [Int.le_ediv_iff_mul_le pos]
    nlinarith
  unfold filterAxis
  omega

/-! ### The hinge record -/

theorem young_iff (limit : Nat) (age : Option Nat) : young limit age = true ↔ ∃ a, age = some a ∧ a < limit := by
  cases age <;> simp [young]

theorem hingeAngle_eq {b l : Nat} (hb : b < 360) (hl : l < 360) : hingeAngle b l = ((180 + (b : Int) - l) % 360).toNat := by
  unfold hingeAngle
  omega

theorem State.freshAngle_iff (s : State) :
    s.freshAngle = true ↔
      s.blk.link ≠ .absent ∧ (∃ a, s.pae.lidAge = some a ∧ a < s.post.staleLimit) ∧
      (∃ a, s.pae.baseAge = some a ∧ a < s.post.staleLimit) ∧
      s.post.mMin ≤ inPlane s.pae.lidFilter ∧ s.post.mMin ≤ inPlane s.pae.baseFilter := by
  simp [State.freshAngle, young_iff, and_assoc]

section
variable {s : State}

theorem State.hingeStep_fresh {b l : Nat} (fresh : s.freshAngle = true) (base : s.pae.phiB = some b) (lid : s.pae.phiL = some l) :
    s.hingeStep.pae.hinge = ⟨.fresh, some (hingeAngle b l), some b⟩ := by
  simp [State.hingeStep, fresh, base, lid]

theorem State.hingeStep_stale (stale : s.freshAngle = false) :
    s.hingeStep.pae.hinge = if s.blk.link = .absent then .empty else s.pae.hinge.hold := by
  simp [State.hingeStep, stale]

end

/-- Settles O15: the quotient by its two bounds, and the hinge record by the conditions of a fresh result. -/
theorem filtersAndHingeRecordAreFormed : Obligations.FiltersAndHingeRecordAreFormed := by
  refine ⟨fun s => ⟨rfl, fun b l fresh base lid hb hl => ?_, fun stale absent => ?_, fun stale present => ?_, s.freshAngle_iff, ?_, rfl,
    fun x y z => ?_⟩, filterAxis_eq_iff, fun k f x => filterAxis_rises, fun k f x => filterAxis_falls,
    fun k f x => ⟨?_, rfl⟩, fun k f x => rfl⟩
  · rw [State.hingeStep_fresh fresh base lid, hingeAngle_eq hb hl]
  · rw [State.hingeStep_stale stale, if_pos absent]
    rfl
  · rw [State.hingeStep_stale stale, if_neg present]
    rfl
  · intro p other
    cases p <;> simp_all [Part.Same]
  · rfl
  · cases f <;> rfl

/-! ### Angle ranges -/

theorem inAngles_iff (lo hi x : Nat) : inAngles lo hi x = true ↔ (lo ≤ x ∧ x ≤ hi) ∨ (hi < lo ∧ (lo ≤ x ∨ x ≤ hi)) := by
  unfold inAngles
  split <;> simp only [decide_eq_true_eq] <;> omega

theorem inWidened_whole {lo hi h x : Nat} (hlo : lo < 360) (hhi : hi < 360) (wide : 360 ≤ ((hi : Int) - lo) % 360 + 1 + 2 * h) :
    inWidened lo hi h x = true := by
  unfold inWidened
  exact if_pos (by omega)

/-- R47: a widened range begins `h` below `lo` and holds the range's angles and `h` more on either side. -/
theorem inWidened_iff {lo hi h x : Nat} (hlo : lo < 360) (hhi : hi < 360) (hh : h < 360) (hx : x < 360)
    (narrow : ((hi : Int) - lo) % 360 + 1 + 2 * h < 360) :
    inWidened lo hi h x = true ↔ ((x : Int) - (lo - h)) % 360 < ((hi : Int) - lo) % 360 + 1 + 2 * h := by
  unfold inWidened
  dsimp only
  rw [if_neg (by omega), inAngles_iff]
  omega

/-! ### The classification -/

section
variable {s : State} (present : s.blk.link ≠ .absent)
include present

theorem State.proposal_hall {p : Posture} (hall : hallProposal s.pae.hallF s.pae.hallR = some p) :
    s.proposal = if p = s.posture then none else some (p, none, .hall) := by
  simp [State.proposal, present, hall]

variable (quiet : hallProposal s.pae.hallF s.pae.hallR = none)
include quiet

theorem State.proposal_stale (stale : s.pae.hinge.status ≠ .fresh) : s.proposal = none := by
  rw [State.proposal, if_neg present, quiet]
  dsimp only
  split
  · exact absurd ‹_› stale
  · rfl

theorem State.proposal_fresh {theta phiB : Nat} (hinge : s.pae.hinge = ⟨.fresh, some theta, some phiB⟩) :
    s.proposal = s.proposeByAngle theta phiB := by
  rw [State.proposal, if_neg present, quiet, hinge]

end

section
variable {s : State} {theta phiB : Nat}

theorem State.inZone_iff : s.inZone theta = true ↔ theta ≤ s.post.amb ∨ 360 - s.post.amb ≤ theta := by
  simp [State.inZone]

theorem State.proposeByAngle_zone (zone : s.inZone theta = true) :
    s.proposeByAngle theta phiB =
      if s.posture = .closed ∨ s.posture = .tablet ∨ s.posture = .unknown then none else some (.unknown, none, .zone) := by
  rw [State.proposeByAngle, if_pos zone]
  cases s.posture <;> rfl

variable (clear : s.inZone theta = false)
include clear

theorem State.proposeByAngle_keeps (holds : s.currentRowHolds theta phiB = true) : s.proposeByAngle theta phiB = none := by
  rw [State.proposeByAngle, if_neg (by simp [clear]), if_pos holds]

variable (left : s.currentRowHolds theta phiB = false)
include left

theorem State.proposeByAngle_scans :
    s.proposeByAngle theta phiB = (s.scanRows theta phiB).map fun r => ((s.postRow r).posture, some r, .angle) := by
  rw [State.proposeByAngle, if_neg (by simp [clear]), if_neg (by simp [left])]

theorem State.proposeByAngle_first {r : Nat} (low : 1 ≤ r) (high : r ≤ s.post.rowCount) (fits : (s.postRow r).holds theta phiB = true)
    (first : ∀ q, 1 ≤ q → q < r → (s.postRow q).holds theta phiB = false) :
    s.proposeByAngle theta phiB = some ((s.postRow r).posture, some r, .angle) := by
  rw [State.proposeByAngle_scans clear left, State.scanRows, find_rows_eq_some.mpr ⟨low, high, fits, first⟩]
  rfl

theorem State.proposeByAngle_none (all : ∀ r, 1 ≤ r → r ≤ s.post.rowCount → (s.postRow r).holds theta phiB = false) :
    s.proposeByAngle theta phiB = none := by
  rw [State.proposeByAngle_scans clear left, State.scanRows, find_rows_eq_none.mpr all]
  rfl

end

theorem State.currentRowHolds_iff (s : State) (theta phiB : Nat) :
    s.currentRowHolds theta phiB = true ↔
      ∃ i, s.pae.record.row = some i ∧
        (let r := s.postRow i
         inWidened r.hingeLo r.hingeHi r.hysteresis theta = true ∧ inWidened r.baseLo r.baseHi r.hysteresis phiB = true) := by
  unfold State.currentRowHolds
  cases s.pae.record.row <;> simp [PostureRow.holdsWidened]

section
variable (s : State) (p : Posture) (row : Option Nat) (permission : Bool) (cause : PostureCause)

theorem State.propose_waits (short : s.since (s.firstProposed p row) < s.dwellOf row) :
    s.propose p row cause = { s with pae.candidate := some ⟨p, row, s.firstProposed p row⟩ } := by
  unfold State.propose
  exact if_neg (by omega)

theorem State.propose_adopts (enough : s.dwellOf row ≤ s.since (s.firstProposed p row)) :
    s.propose p row cause = s.adopt p row cause := by
  unfold State.propose
  exact if_pos enough

theorem State.adopt_same (same : p = s.posture) :
    s.adopt p row cause =
      { s with pae.candidate := none, pae.record := { s.pae.record with row := row, permission := s.permissionOf p row } } := by
  unfold State.adopt
  exact if_pos same

theorem State.adopt_other (other : p ≠ s.posture) :
    s.adopt p row cause = ({ s with pae.candidate := none } : State).changePosture p row (s.permissionOf p row) cause := by
  unfold State.adopt
  exact if_neg other

theorem State.permissionOf_eq : s.permissionOf p row = (row.map fun r => (s.postRow r).detach).getD (decide (p = .tablet)) := by
  cases row
  · exact Bool.beq_eq_decide_eq p .tablet
  · rfl

theorem State.changePosture_onlyIn :
    s.OnlyIn [.tables, .cnv, .pae, .pch, .bcd, .dlu, .spm, .upq] (s.changePosture p row permission cause) := by
  intro q other
  cases q <;> simp_all [Part.Same]

end

/-- Settles O16: the checks of step 5 one after the other, then the candidate's dwell, the adoption and the ranges. -/
theorem classificationProposesAndAdopts : Obligations.ClassificationProposesAndAdopts := by
  refine ⟨fun s => ⟨fun absent => if_pos absent, fun present p hall => State.proposal_hall present hall, fun present quiet =>
      ⟨State.proposal_stale present quiet, fun theta phiB hinge => ?_⟩⟩,
    ⟨rfl, rfl, rfl, rfl⟩, fun s => ⟨fun none => ?_, fun p row cause some => ?_⟩, fun s p row cause => ?_,
    fun s p row permission cause => ?_, fun s => rfl,
    inAngles_iff, fun r theta phiB => Bool.and_eq_true_iff, State.currentRowHolds_iff, fun lo hi h x hlo hhi hh hx => ?_⟩
  · rw [State.proposal_fresh present quiet hinge]
    refine ⟨fun zone => State.proposeByAngle_zone (State.inZone_iff.mpr zone), fun low high => ?_, fun low high left => ?_⟩
    all_goals
      have clear : s.inZone theta = false := by
        rw [← Bool.not_eq_true, State.inZone_iff]
        omega
    · exact State.proposeByAngle_keeps clear
    · exact ⟨fun r => State.proposeByAngle_first clear left, State.proposeByAngle_none clear left⟩
  · rw [State.classify, none]
  · rw [State.classify, some]
  · refine ⟨s.propose_waits p row cause, fun enough same => ?_, fun enough other => ?_⟩
    · refine (s.propose_adopts p row cause enough).trans ((s.adopt_same p row cause same).trans ?_)
      rw [State.permissionOf_eq]
      cases row <;> rfl
    · refine (s.propose_adopts p row cause enough).trans ((s.adopt_other p row cause other).trans ?_)
      rw [State.permissionOf_eq]
      cases row <;> rfl
  · exact ⟨rfl, s.changePosture_pae p row permission cause, (s.changePosture_handsOver p row permission cause).swaps.tables,
      s.changePosture_onlyIn p row permission cause⟩
  · exact ⟨inWidened_whole hlo hhi, inWidened_iff hlo hhi hh hx⟩

/-! ### The rotation -/

theorem angularDistance_cases (a b : Nat) :
    (a ≤ b ∧ angularDistance a b = min (b - a) (360 - (b - a))) ∨ (b ≤ a ∧ angularDistance a b = min (a - b) (360 - (a - b))) := by
  rcases Nat.le_total a b with le | le <;> simp [angularDistance, le]

/-- R34: no rotation is nearer than the nearest, and of the equally near ones it is the smallest. -/
theorem nearestRotation_spec {psi : Nat} (hpsi : psi < 360) (q : Rotation) :
    angularDistance psi (nearestRotation psi).degrees ≤ angularDistance psi q.degrees ∧
    (angularDistance psi q.degrees = angularDistance psi (nearestRotation psi).degrees → (nearestRotation psi).degrees ≤ q.degrees) := by
  have other := angularDistance_cases psi q.degrees
  have own := angularDistance_cases psi (nearestRotation psi).degrees
  revert own other
  generalize angularDistance psi q.degrees = d
  generalize angularDistance psi (nearestRotation psi).degrees = e
  unfold nearestRotation
  cases q <;> (repeat' split) <;> simp only [Rotation.degrees] <;> omega

theorem Rotation.eq_of_degrees_eq {q r : Rotation} (same : q.degrees = r.degrees) : q = r := by
  cases q <;> cases r <;> first | rfl | exact absurd same (by decide)

theorem eq_nearestRotation_iff {psi : Nat} (hpsi : psi < 360) (r : Rotation) :
    r = nearestRotation psi ↔
      (∀ q : Rotation, angularDistance psi r.degrees ≤ angularDistance psi q.degrees) ∧
      (∀ q : Rotation, angularDistance psi q.degrees = angularDistance psi r.degrees → r.degrees ≤ q.degrees) := by
  constructor
  · rintro rfl
    exact ⟨fun q => (nearestRotation_spec hpsi q).1, fun q => (nearestRotation_spec hpsi q).2⟩
  · rintro ⟨near, least⟩
    obtain ⟨nearer, smaller⟩ := nearestRotation_spec hpsi r
    have equal := Nat.le_antisymm nearer (near _)
    exact Rotation.eq_of_degrees_eq (Nat.le_antisymm (least _ equal) (smaller equal.symm))

section
variable {s : State}

theorem State.rotate_held (holds : s.posture = .detached ∨ s.posture = .unknown ∨ s.posture = .closed) :
    s.rotate = { s with pae.rotCandidate := none } := by
  have none : s.rotationTreatment = none := by
    rcases holds with p | p | p <;> simp [State.rotationTreatment, p]
  rw [State.rotate, none]

variable (detached : s.posture ≠ .detached) (unknown : s.posture ≠ .unknown) (closed : s.posture ≠ .closed)
include detached unknown closed

theorem State.rotationTreatment_row :
    s.rotationTreatment = some ((s.pae.record.row.map fun r => (s.postRow r).rotation).getD .free) := by
  unfold State.rotationTreatment
  cases p : s.posture <;> cases s.pae.record.row <;> simp_all

theorem State.rotate_locked {r : Nat} (row : s.pae.record.row = some r) (locks : (s.postRow r).rotation ≠ .free) :
    s.rotate = s.lockRotation (if (s.postRow r).rotation = .lock0 then .r0 else .r180) := by
  rw [State.rotate, State.rotationTreatment_row detached unknown closed, row]
  cases mode : (s.postRow r).rotation <;> simp_all

theorem State.rotate_free (free : ∀ r, s.pae.record.row = some r → (s.postRow r).rotation = .free) : s.rotate = s.freeRotation := by
  rw [State.rotate, State.rotationTreatment_row detached unknown closed]
  cases row : s.pae.record.row with
  | none => rfl
  | some r => simp [free r row]

end

section
variable (s : State)

theorem State.freeRotation_none (none : s.rotationProposal = none) : s.freeRotation = { s with pae.rotCandidate := Option.none } := by
  rw [State.freeRotation, none]

theorem State.freeRotation_some {r : Rotation} (some : s.rotationProposal = some r) :
    s.freeRotation =
      if s.post.rotDwell ≤ s.since (s.rotationSince r) then ({ s with pae.rotCandidate := none } : State).turn r .free
      else { s with pae.rotCandidate := Option.some ⟨r, s.rotationSince r⟩ } := by
  rw [State.freeRotation, some]

theorem State.rotationProposal_iff (r : Rotation) :
    s.rotationProposal = some r ↔
      ∃ psi age, s.pae.psi = some psi ∧ s.pae.lidAge = some age ∧ age < s.post.staleLimit ∧
        s.post.tiltMin ≤ lidTilt s.pae.lidFilter ∧
        45 + s.post.rotHysteresis < angularDistance psi s.pae.rotation.degrees ∧ r = nearestRotation psi := by
  unfold State.rotationProposal
  cases s.pae.psi with
  | none => simp
  | some psi =>
    dsimp only
    split
    · rename_i h
      rw [young_iff] at h
      obtain ⟨⟨age, aged, below⟩, tilt, far⟩ := h
      simp [aged, below, tilt, far, eq_comm]
    · rename_i h
      rw [young_iff] at h
      simp only [reduceCtorEq, false_iff]
      rintro ⟨_, age, e, aged, below, tilt, far, _⟩
      obtain rfl := Option.some.inj e
      exact h ⟨⟨age, aged, below⟩, tilt, far⟩

end

/-- Settles O17: the treatment by posture and row, then the free rotation by its proposal. -/
theorem rotationIsHeldLockedOrFree : Obligations.RotationIsHeldLockedOrFree := by
  refine ⟨fun s => ⟨State.rotate_held, fun r detached unknown closed row locks => ?_, State.rotate_free, s.freeRotation_none,
    fun r proposed => s.freeRotation_some proposed, fun r => s.rotationProposal_iff r⟩, fun a b => rfl,
    fun psi hpsi r => eq_nearestRotation_iff hpsi r, rfl, rfl, rfl, rfl⟩
  exact State.rotate_locked detached unknown closed row locks

/-! ### The system tick -/

/-- R70: the state once the pins are sampled and every timer has counted. -/
def State.ticked (s : State) (pres lsns bdq : Bool) : State :=
  ({ s with pins := { s.pins with pres := pres, lsns := lsns, bdq := bdq } } : State).tickTimers

theorem exec_systemTick (s : State) (pres lsns bdq : Bool) :
    exec (.systemTick pres lsns bdq) s = .next ((s.ticked pres lsns bdq).samplePresence pres) := rfl

theorem State.dueRuns_eq (s : State) (i : Nat) :
    s.dueRuns i = (s.blk.link == .running && decide (i < s.sched.slotCount) &&
      s.blk.record.any (fun r => r.capability.getLsbD (s.slot i).fn) &&
      (s.spm.hub == .run || (s.spm.hub == .doze && (s.slot i).periodDoze != 0))) := by
  unfold State.dueRuns State.capable State.polledIn
  cases s.blk.record <;> cases s.spm.hub <;> simp [bne]
  rfl

theorem Blk.tick_low (b : Blk) (deep high : Bool) :
    (b.tick deep high).low = if high then none else b.low.map fun l => { l with elapsed := l.elapsed + 1 } := by
  cases h : b.low <;> cases high <;> simp [Blk.tick, LineLow.tick, h]

section
variable {s : State} {pres : Bool}

theorem State.samplePresence_arrives (absent : s.blk.link = .absent) :
    s.samplePresence true =
      ({ s with blk.link := .attaching, blk.presentCount := 0, blk.absentCount := 0 } : State).changePosture .unknown none false
        .link := by
  rw [State.samplePresence, absent]
  rfl

theorem State.samplePresence_none (absent : s.blk.link = .absent) : s.samplePresence false = s := by
  rw [State.samplePresence, absent]
  rfl

theorem State.samplePresence_attaching (attaching : s.blk.link = .attaching) :
    s.samplePresence pres =
      if pres then { s with blk.presentCount := min (s.blk.presentCount + 1) 20, blk.absentCount := 0 }
      else { s with blk.presentCount := 0, blk.absentCount := min (s.blk.absentCount + 1) 2 } := by
  rw [State.samplePresence, attaching]
  rfl

theorem State.samplePresence_beyond (here : s.blk.link ≠ .absent) (confirmed : s.blk.link ≠ .attaching) :
    s.samplePresence pres =
      { s with blk.absentCount := if pres then 0 else min (s.blk.absentCount + 1) 2 } := by
  unfold State.samplePresence
  split
  · exact absurd ‹_› here
  · exact absurd ‹_› confirmed
  · rfl

/-- R70 to R72: with a base that has shown itself, or none still, presence moves its own counts alone. -/
theorem State.samplePresence_counts (quiet : s.blk.link ≠ .absent ∨ pres = false) :
    ∃ present absent, s.samplePresence pres = { s with blk.presentCount := present, blk.absentCount := absent } := by
  by_cases absent : s.blk.link = .absent
  · obtain rfl := quiet.resolve_left (not_not.mpr absent)
    exact ⟨_, _, State.samplePresence_none absent⟩
  · by_cases attaching : s.blk.link = .attaching
    · rw [State.samplePresence_attaching attaching]
      split <;> exact ⟨_, _, rfl⟩
    · exact ⟨_, _, State.samplePresence_beyond absent attaching⟩

end

theorem State.samplePresence_swapsAtMost (s : State) (pres : Bool) : s.SwapsAtMost (s.samplePresence pres) := by
  by_cases quiet : s.blk.link ≠ .absent ∨ pres = false
  · obtain ⟨_, _, e⟩ := State.samplePresence_counts quiet
    rw [e]
    exact .of_eq rfl rfl
  · simp only [not_or, not_not, Bool.not_eq_false] at quiet
    obtain ⟨absent, rfl⟩ := quiet
    rw [State.samplePresence_arrives absent]
    exact (State.changePosture_handsOver _ _ _ _ _).swaps.left rfl rfl

/-- Settles O18: the timers first, and then presence by the state of the link. -/
theorem tickCountsAndSamples : Obligations.TickCountsAndSamples := by
  intro s pres lsns bdq up pins runs low retry
  let u := s.ticked pres lsns bdq
  have lows : (s.blk.tick (s.spm.hub == .deep) bdq).low = low := Blk.tick_low _ _ _
  have retries : (s.blk.tick (s.spm.hub == .deep) bdq).retryTimer = retry := by
    show (if (s.spm.hub == .deep) = true then _ else _) = _
    simp only [beq_iff_eq]
    rfl
  have blk : u.blk = { s.blk with retryTimer := retry, low := low } := by
    rw [← lows, ← retries]
    rfl
  have runs_eq : (fun i => s.dueRuns i) = runs := funext s.dueRuns_eq
  have stand : s.TablesStand (u.samplePresence pres) :=
    .trans (.inl (by simp [u, State.ticked])) (State.samplePresence_swapsAtMost u pres).tables
  refine ⟨_, exec_systemTick s pres lsns bdq, ?_, ?_, ?_, ?_, ?_, ?_, fun quiet => ?_, ?_, ?_, ?_, ?_, ?_⟩
  · simp [State.ticked, State.tickTimers]
  · simp [State.ticked, pins]
  · simp [State.ticked]
  · simp [State.ticked]
  · have told : u.SwapsAtMost (u.samplePresence pres) := State.samplePresence_swapsAtMost u pres
    rcases told.cnv with e | ⟨_, e⟩ <;> rw [e] <;> rfl
  · rw [← runs_eq]
    exact (u.samplePresence_frame pres).2.2.2.2.1
  · obtain ⟨present, absent, e⟩ := State.samplePresence_counts (s := u) quiet
    rw [e]
    refine ⟨rfl, rfl, rfl, rfl, ?_, rfl, rfl, rfl⟩
    show s.pae.tick (s.spm.hub == .deep) s.post.anglePeriod = _
    simp only [Pae.tick, beq_iff_eq]
  · rintro absent rfl
    rw [State.samplePresence_none (s := u) absent, blk]
  · rintro absent rfl
    refine ⟨?_, ?_, stand⟩ <;> rw [State.samplePresence_arrives (s := u) absent]
    · simp [blk]
    · rw [State.changePosture_pae]
      rfl
  · rintro attaching rfl
    rw [State.samplePresence_attaching (s := u) attaching, if_pos rfl, blk]
  · rintro attaching rfl
    rw [State.samplePresence_attaching (s := u) attaching, if_neg (by simp), blk]
  · intro here confirmed
    rw [State.samplePresence_beyond (s := u) here confirmed, blk]

end Sys2Proof.Machine
end

section
/-!
PROOFS. O54 does not hold. Its clause of the duty (R129) starts from the invariants of images, driver and charger alone, and these do
not tie the pen record to the GARAGE_P window: a scan that finds GARAGE_P active while a pen is charging makes a fresh record without
a stage (R137), so the range of stage 0 is in force although the duty is still one of the old stage.
-/

namespace Sys2Proof.Machine

/-- A pen is charged at stage 1 with duty 180, while the converter has not yet told of GARAGE_P; the scan's last channel is GARAGE_P. -/
def State.untoldPen : State :=
  { State.reset with
    cnv.slotS := .scanning, cnv.todo := [5]
    pch.state := .charge, pch.pen := some ⟨some 7, some 20, some 0, some 1, 0, 0⟩, pch.packetTimer := some ⟨0, 150⟩
    pch.driver := { Driver.initial with running := true, periodNo := 1, duty := 180, dutyB := 180 }
    bcd.mode := .edge
    pending := [.channelConversionEnd 0] }

/-- The state after the scan. -/
def State.toldPen : State := { State.untoldPen with pending := [] }.convert 5 [] 0

theorem step_untoldPen : step State.untoldPen = .next State.toldPen := rfl

theorem untoldPen_imagesOk : State.untoldPen.ImagesOk := ⟨State.reset_imagesOk.1, State.reset_imagesOk.2, State.reset_imagesOk.3⟩

theorem untoldPen_driverOk : State.untoldPen.DriverOk := by constructor <;> decide +kernel

theorem untoldPen_chargerOk : State.untoldPen.ChargerOk where
  on := by decide +kernel
  active := by decide +kernel
  paused := by decide +kernel
  waitTimer := by decide +kernel
  burstTimer := by decide +kernel
  packetTimer := by decide +kernel
  recheckTimer := by decide +kernel
  faultReason := by decide +kernel
  waiting := fun _ waits => nomatch waits
  capture := by decide +kernel
  resonance := by decide +kernel
  stage := by decide +kernel

theorem untoldPen_dutyOk : State.untoldPen.DutyOk where
  period := by decide +kernel
  dead := by decide +kernel
  duty := by decide +kernel
  dutyB := by decide +kernel
  buffered := by decide +kernel
  charging i _ stage := by
    obtain rfl : 1 = i := Option.some.inj stage
    decide +kernel
  waits := fun _ waits => nomatch waits

/-- The charger still drives, but its buffered duty lies above the range of the stage in force. -/
theorem toldPen_duty_outside : State.toldPen.pch.state.drives = true ∧
    (State.toldPen.stage State.toldPen.stageInForce).dutyMax < State.toldPen.pch.driver.dutyB := by decide +kernel

/-- Refutes O54: from `State.untoldPen`, which meets the invariants of images, driver, charger and duty, the conversion of GARAGE_P makes
a fresh pen record, and the buffered duty 180 lies outside the range of stage 0, which is then in force. -/
theorem not_everyStepKeepsDriverAndLatch : ¬ Obligations.EveryStepKeepsDriverAndLatch := by
  unfold Obligations.EveryStepKeepsDriverAndLatch
  rintro ⟨keeps, -⟩
  obtain ⟨-, -, -, duty⟩ := keeps _ _ step_untoldPen
  obtain ⟨drives, above⟩ := toldPen_duty_outside
  have range := (duty untoldPen_imagesOk untoldPen_driverOk untoldPen_chargerOk untoldPen_dutyOk).buffered drives
  exact absurd range.2 (Nat.not_le.2 above)

end Sys2Proof.Machine
end

section
/-!
PROOFS. The bounds of the upward queue (R105 to R107, R109, R182) under each of its operations, on the queue alone.
-/

namespace Sys2Proof.Machine

/-! ### The bounds as a predicate of the queue -/

/-- What the bounds of `State.QueueOk` say of the queue alone: `awaited` reply places are taken for replies that are still to come, and
`sends` says whether the transmitter is sending. -/
structure Upq.Ok (u : Upq) (awaited : Nat) (sends : Bool) : Prop where
  reports : u.reports ≤ Config.maxReports
  notices : ∀ k, u.notices k ≤ 1
  places : u.placesTaken = u.replies + awaited
  room : u.placesTaken ≤ Config.replyPlaces
  started : ∀ e ∈ u.entries.tail, e.started = false
  sending : sends = u.headStarted
  followOn : u.followOn.Pairwise fun m n => m.kind ≠ n.kind
  behind : ∀ m ∈ u.followOn, ∃ e ∈ u.entries, e.isNotice m.kind = true ∧ e.started = true

theorem State.queueOk_iff (s : State) : s.QueueOk ↔ s.upq.Ok s.awaitingTables s.slk.tx.isSome :=
  ⟨fun ⟨a, b, c, d, e, f, g, h⟩ => ⟨a, b, c, d, e, f, g, h⟩, fun ⟨a, b, c, d, e, f, g, h⟩ => ⟨a, b, c, d, e, f, g, h⟩⟩

/-! ### What the bounds see of an entry -/

/-- The kind of notice an entry is. -/
def Entry.noticeKind (e : Entry) : Option NoticeKind :=
  match e.content with
  | .notice n => some n.kind
  | _ => none

/-- What the bounds see of an entry. -/
def Entry.mark (e : Entry) : Option NoticeKind × Bool × Bool × Bool := (e.noticeKind, e.isReport, e.isReply, e.started)

theorem Entry.isNotice_eq (e : Entry) (k : NoticeKind) : e.isNotice k = (e.noticeKind == some k) := by
  unfold Entry.isNotice Entry.noticeKind
  cases e.content <;> simp

/-- The bounds hold of a queue whose entries carry the same marks. -/
theorem Upq.Ok.of_marks {u : Upq} {w : Nat} {b : Bool} (h : u.Ok w b) {es : List Entry}
    (same : es.map Entry.mark = u.entries.map Entry.mark) : ({ u with entries := es } : Upq).Ok w b := by
  have counted : ∀ p : Option NoticeKind × Bool × Bool × Bool → Bool, ∀ q : Entry → Bool, (∀ e, q e = p e.mark) →
      es.countP q = u.entries.countP q := by
    intro p q hq
    have via : q = p ∘ Entry.mark := funext hq
    rw [via, ← List.countP_map, ← List.countP_map, same]
  have reports : es.countP Entry.isReport = u.reports := counted (·.2.1) _ fun _ => rfl
  have replies : es.countP Entry.isReply = u.replies := counted (·.2.2.1) _ fun _ => rfl
  have notices : ∀ k, es.countP (Entry.isNotice k) = u.notices k := fun k => counted (·.1 == some k) _ fun e => e.isNotice_eq k
  have member : ∀ e ∈ u.entries, ∃ e' ∈ es, e'.mark = e.mark := by
    intro e he
    have : e.mark ∈ es.map Entry.mark := same ▸ List.mem_map_of_mem he
    exact List.mem_map.1 this
  have tails : es.tail.map Entry.mark = u.entries.tail.map Entry.mark := by rw [List.map_tail, List.map_tail, same]
  have heads : es.head?.map Entry.mark = u.entries.head?.map Entry.mark := by rw [← List.head?_map, ← List.head?_map, same]
  constructor
  · exact reports.le.trans h.reports
  · exact fun k => (notices k).le.trans (h.notices k)
  · rw [h.places]
    exact congrArg (· + w) replies.symm
  · exact h.room
  · intro e he
    obtain ⟨e', he', mark⟩ := List.mem_map.1 (tails ▸ List.mem_map_of_mem (f := Entry.mark) he)
    have : e'.started = e.started := congrArg (·.2.2.2) mark
    rw [← this]
    exact h.started e' he'
  · rw [h.sending]
    have : u.entries.head?.map Entry.started = es.head?.map Entry.started := by
      have project := congrArg (Option.map (·.2.2.2)) heads
      simpa [Option.map_map, Function.comp_def, Entry.mark] using project.symm
    exact congrArg (·.getD false) this
  · exact h.followOn
  · intro m hm
    obtain ⟨e, he, kind, started⟩ := h.behind m hm
    obtain ⟨e', he', mark⟩ := member e he
    refine ⟨e', he', ?_, ?_⟩
    · rw [Entry.isNotice_eq] at kind ⊢
      rw [← kind, show e'.noticeKind = e.noticeKind from congrArg (·.1) mark]
    · rw [← started]
      exact congrArg (·.2.2.2) mark

theorem headStarted_append (es : List Entry) (e : Entry) (waits : e.started = false) :
    ((es ++ [e]).head?.map Entry.started).getD false = (es.head?.map Entry.started).getD false := by
  cases es <;> simp [waits]

/-- An entry joins the tail: a reply to come takes its place among the replies. -/
theorem Upq.Ok.append {u : Upq} {w w' : Nat} {b : Bool} (h : u.Ok w b) {e : Entry} (waits : e.started = false)
    (reports : e.isReport = true → u.reports < Config.maxReports) (notices : ∀ k, e.isNotice k = true → u.notices k = 0)
    (reply : w = w' + if e.isReply then 1 else 0) : ({ u with entries := u.entries ++ [e] } : Upq).Ok w' b where
  reports := by
    have := h.reports
    simp only [Upq.reports, List.countP_append, List.countP_singleton] at this reports ⊢
    split
    · exact reports (by assumption)
    · omega
  notices k := by
    have := h.notices k
    simp only [Upq.notices, List.countP_append, List.countP_singleton] at this notices ⊢
    split
    · have := notices k (by assumption)
      omega
    · omega
  places := by
    have := h.places
    simp only [Upq.replies, List.countP_append, List.countP_singleton] at this ⊢
    omega
  room := h.room
  started e' he' := by
    rw [List.tail_append] at he'
    split at he'
    · simp at he'
    · rcases List.mem_append.1 he' with old | new
      · exact h.started e' old
      · obtain rfl := List.mem_singleton.1 new
        exact waits
  sending := h.sending.trans (headStarted_append u.entries e waits).symm
  followOn := h.followOn
  behind m hm := by
    obtain ⟨e', he', rest⟩ := h.behind m hm
    exact ⟨e', List.mem_append_left _ he', rest⟩

/-! ### Notices and replies -/

theorem Notice.renew_mark (n : Notice) (e : Entry) : (n.renew e).mark = e.mark := by
  unfold Notice.renew
  split
  · rename_i waits
    obtain ⟨content, started⟩ := e
    cases content with
    | notice m =>
      have kind : m.kind = n.kind := by
        simp only [Entry.waits, Entry.isNotice, Bool.and_eq_true, beq_iff_eq] at waits
        exact waits.1
      simp [Entry.mark, Entry.noticeKind, Entry.isReport, Entry.isReply, kind]
    | report r => simp [Entry.waits, Entry.isNotice] at waits
    | reply r => simp [Entry.waits, Entry.isNotice] at waits
  · rfl

/-- R107: a notice keeps the bounds. -/
theorem Upq.Ok.issue {u : Upq} {w : Nat} {b : Bool} (h : u.Ok w b) (n : Notice) : (u.issue n).Ok w b := by
  rcases u.issue_cases n with ⟨_, e⟩ | ⟨none, held, e⟩ | ⟨_, none, e⟩ <;> rw [e]
  · refine h.of_marks ?_
    rw [List.map_map]
    exact List.map_congr_left fun x _ => n.renew_mark x
  · obtain ⟨x, hx, kind⟩ := List.any_eq_true.1 held
    have started : x.started = true := by
      have := List.any_eq_false.1 none x hx
      simpa [Entry.waits, kind] using this
    refine { h with followOn := ?_, behind := ?_ }
    · refine List.pairwise_append.2 ⟨h.followOn.filter _, List.pairwise_singleton _ _, ?_⟩
      intro m hm m' hm'
      obtain rfl := List.mem_singleton.1 hm'
      simpa using (List.mem_filter.1 hm).2
    · intro m hm
      rcases List.mem_append.1 hm with old | new
      · exact h.behind m (List.mem_filter.1 old).1
      · obtain rfl := List.mem_singleton.1 new
        exact ⟨x, hx, kind, started⟩
  · refine h.append rfl (fun report => by cases report) (fun k kind => ?_) rfl
    have same : n.kind = k := by simpa [Entry.isNotice] using kind
    refine List.countP_eq_zero.2 fun x hx => ?_
    rw [← same]
    simpa using List.any_eq_false.1 none x hx

/-- R182: a reply takes the place that was claimed for it. -/
theorem Upq.Ok.reply {u : Upq} {w : Nat} {b : Bool} (h : u.Ok (w + 1) b) (r : Reply) : (u.append (.reply r)).Ok w b :=
  h.append rfl (fun report => by cases report) (fun _ kind => by cases kind) rfl

/-- R182: a request claims a free place. -/
theorem Upq.Ok.claim {u : Upq} {w : Nat} {b : Bool} (h : u.Ok w b) (room : u.placesTaken < Config.replyPlaces) :
    ({ u with placesTaken := u.placesTaken + 1 } : Upq).Ok (w + 1) b :=
  { h with
    places := by
      have := h.places
      simp only [Upq.replies] at this ⊢
      omega
    room := room }

/-! ### Base reports -/

theorem Upq.Ok.forward {u v : Upq} {w : Nat} {b : Bool} (h : u.Ok w b) {r : Report} (joined : u.forward r = some v) : v.Ok w b := by
  unfold Upq.forward at joined
  split at joined
  · obtain rfl := Option.some.inj joined
    exact h.append rfl (fun _ => by assumption) (fun _ kind => by cases kind) rfl
  · cases joined

theorem mergeNewest_marks (r : Report) : ∀ {es merged : List Entry}, mergeNewest r es = some merged →
    merged.map Entry.mark = es.map Entry.mark
  | [], _, eq => by cases eq
  | ⟨content, started⟩ :: rest, merged, eq => by
    have later : ∀ {m}, (mergeNewest r rest).map (⟨content, started⟩ :: ·) = some m →
        m.map Entry.mark = (⟨content, started⟩ :: rest : List Entry).map Entry.mark := by
      intro m hm
      obtain ⟨m', hm', rfl⟩ := Option.map_eq_some_iff.1 hm
      rw [List.map_cons, List.map_cons, mergeNewest_marks r hm']
    unfold mergeNewest at eq
    cases content with
    | notice n => exact later eq
    | reply a => exact later eq
    | report old =>
      dsimp only at eq
      split at eq
      · split at eq
        · cases eq
        · obtain ⟨m, _, rfl⟩ := Option.map_eq_some_iff.1 eq
          rfl
      · exact later eq

theorem Upq.Ok.coalesce {u v : Upq} {w : Nat} {b : Bool} (h : u.Ok w b) {r : Report} (joined : u.coalesce r = some v) : v.Ok w b := by
  unfold Upq.coalesce at joined
  split at joined
  · rename_i merged eq
    obtain rfl := Option.some.inj joined
    refine h.of_marks ?_
    rw [List.map_reverse, mergeNewest_marks r eq, List.map_reverse, List.reverse_reverse]
  · exact h.forward joined

theorem countP_filter_le {α : Type} (p q : α → Bool) (es : List α) : (es.filter q).countP p ≤ es.countP p :=
  List.filter_sublist.countP_le

/-- R189: HUB_RESET LINKS removes the base reports that wait. -/
theorem Upq.Ok.dropReports {u : Upq} {w : Nat} {b : Bool} (h : u.Ok w b) : u.dropReports.Ok w b where
  reports := (countP_filter_le _ _ _).trans h.reports
  notices k := (countP_filter_le _ _ _).trans (h.notices k)
  places := by
    have kept : (u.entries.filter fun e => !e.isReport || e.started).countP Entry.isReply = u.replies := by
      rw [List.countP_filter, Upq.replies]
      refine List.countP_congr fun e _ => ?_
      cases c : e.content <;> simp [Entry.isReply, Entry.isReport, c]
    exact h.places.trans (congrArg (· + w) kept.symm)
  room := h.room
  started e he := by
    have waits := h.started
    unfold Upq.dropReports at he
    cases eq : u.entries with
    | nil => simp [eq] at he
    | cons first rest =>
      rw [eq, List.filter_cons] at he
      rw [eq, List.tail_cons] at waits
      split at he
      · exact waits e (List.mem_filter.1 he).1
      · exact waits e (List.mem_filter.1 (List.mem_of_mem_tail he)).1
  sending := by
    have waits := h.started
    rw [h.sending]
    unfold Upq.headStarted Upq.dropReports
    cases eq : u.entries with
    | nil => rfl
    | cons first rest =>
      rw [eq, List.tail_cons] at waits
      dsimp only
      rw [List.filter_cons]
      split
      · rfl
      · rename_i dropped
        have firstWaits : first.started = false := by
          simp only [Bool.or_eq_true, not_or, Bool.not_eq_true] at dropped
          exact dropped.2
        cases kept : rest.filter fun e => !e.isReport || e.started with
        | nil => simp [firstWaits]
        | cons next _ =>
          have inRest : next ∈ rest := (List.mem_filter.1 (kept ▸ List.mem_cons_self)).1
          simp [firstWaits, waits next inRest]
  followOn := h.followOn
  behind m hm := by
    obtain ⟨e, he, kind, started⟩ := h.behind m hm
    exact ⟨e, List.mem_filter.2 ⟨he, by simp [started]⟩, kind, started⟩

/-! ### Frames -/

/-- R109: the head entry starts. -/
theorem Upq.Ok.startHead {u : Upq} {w : Nat} (h : u.Ok w false) {e : Entry} {rest : List Entry} (entries : u.entries = e :: rest) :
    u.startHead.Ok w true := by
  have eq : u.startHead = { u with entries := { e with started := true } :: rest } := by
    unfold Upq.startHead
    rw [entries]
  have waits : e.started = false := by simpa [Upq.headStarted, entries] using h.sending.symm
  rw [eq]
  constructor
  · have := h.reports
    rw [Upq.reports, entries, List.countP_cons] at this
    rw [Upq.reports, List.countP_cons]
    exact this
  · intro k
    have := h.notices k
    rw [Upq.notices, entries, List.countP_cons] at this
    rw [Upq.notices, List.countP_cons]
    exact this
  · have := h.places
    rw [Upq.replies, entries, List.countP_cons] at this
    rw [Upq.replies, List.countP_cons]
    exact this
  · exact h.room
  · have := h.started
    rwa [entries] at this
  · rfl
  · exact h.followOn
  · intro m hm
    obtain ⟨x, hx, kind, started⟩ := h.behind m hm
    rw [entries] at hx
    rcases List.mem_cons.1 hx with rfl | hx
    · rw [waits] at started
      cases started
    · exact ⟨x, List.mem_cons_of_mem _ hx, kind, started⟩

/-- While the head is in transmission a follow-on notice is of the head's kind. -/
theorem Upq.Ok.followOn_kind {u : Upq} {w : Nat} {b : Bool} (h : u.Ok w b) {e : Entry} {rest : List Entry}
    (entries : u.entries = e :: rest) {m : Notice} (follows : m ∈ u.followOn) : e.isNotice m.kind = true := by
  obtain ⟨x, hx, kind, started⟩ := h.behind m follows
  rw [entries] at hx
  rcases List.mem_cons.1 hx with rfl | hx
  · exact kind
  · have := h.started x (by rwa [entries])
    rw [started] at this
    cases this

/-- The queue without its head, which waited for nothing else. -/
theorem Upq.Ok.rest {u : Upq} {w : Nat} {b : Bool} (h : u.Ok w b) {e : Entry} {rest : List Entry} (entries : u.entries = e :: rest) :
    (⟨rest, [], u.placesTaken - if e.isReply then 1 else 0⟩ : Upq).Ok w false := by
  have waits : ∀ x ∈ rest, x.started = false := by
    have := h.started
    rwa [entries] at this
  constructor
  · have := h.reports
    rw [Upq.reports, entries, List.countP_cons] at this
    exact (Nat.le_add_right _ _).trans this
  · intro k
    have := h.notices k
    rw [Upq.notices, entries, List.countP_cons] at this
    exact (Nat.le_add_right _ _).trans this
  · have := h.places
    rw [Upq.replies, entries, List.countP_cons] at this
    dsimp only [Upq.replies]
    omega
  · exact (Nat.sub_le _ _).trans h.room
  · exact fun x hx => waits x (List.mem_of_mem_tail hx)
  · unfold Upq.headStarted
    cases rest with
    | nil => rfl
    | cons x _ => exact (waits x List.mem_cons_self).symm
  · exact List.Pairwise.nil
  · exact fun m hm => absurd hm List.not_mem_nil

theorem Upq.finishHead_none {u : Upq} {e : Entry} {rest : List Entry} (entries : u.entries = e :: rest)
    (follows : u.followOn = []) : u.finishHead = ⟨rest, [], u.placesTaken - if e.isReply then 1 else 0⟩ := by
  obtain ⟨es, fs, places⟩ := u
  obtain ⟨content, started⟩ := e
  subst entries follows
  cases content <;> rfl

theorem Notice.filter_kind_eq_nil {fs : List Notice} {k : NoticeKind} (same : ∀ m ∈ fs, m.kind = k) :
    fs.filter (fun f => f.kind != k) = [] :=
  List.filter_eq_nil_iff.2 fun m hm => by simp [same m hm]

/-- R110, R107: the head leaves, and the follow-on of its kind joins the tail. -/
theorem Upq.Ok.finishHead {u : Upq} {w : Nat} (h : u.Ok w true) : u.finishHead.Ok w false := by
  cases entries : u.entries with
  | nil =>
    have := h.sending
    rw [Upq.headStarted, entries] at this
    cases this
  | cons e rest =>
    cases follows : u.followOn with
    | nil =>
      rw [Upq.finishHead_none entries follows]
      exact h.rest entries
    | cons m more =>
      have ofKind : ∀ f ∈ u.followOn, e.isNotice f.kind = true := fun f hf => h.followOn_kind entries hf
      have rests := h.rest entries
      obtain ⟨content, started⟩ := e
      cases content with
      | report r => exact absurd (ofKind m (follows ▸ List.mem_cons_self)) (by rintro ⟨⟩)
      | reply r => exact absurd (ofKind m (follows ▸ List.mem_cons_self)) (by rintro ⟨⟩)
      | notice n =>
        have kinds : ∀ f ∈ u.followOn, f.kind = n.kind := fun f hf =>
          (beq_iff_eq.1 (show (n.kind == f.kind) = true from ofKind f hf)).symm
        have first : m.kind = n.kind := kinds m (follows ▸ List.mem_cons_self)
        have found : u.followOn.find? (fun f => f.kind == n.kind) = some m := by
          rw [follows, List.find?_cons_of_pos (by simp [first])]
        have eq : u.finishHead = ⟨rest ++ [⟨.notice m, false⟩], [], u.placesTaken⟩ := by
          unfold Upq.finishHead
          rw [entries]
          dsimp only
          rw [found]
          dsimp only
          rw [Notice.filter_kind_eq_nil kinds]
        have single := h.notices n.kind
        rw [Upq.notices, entries, List.countP_cons_of_pos (by simp [Entry.isNotice])] at single
        rw [eq]
        refine rests.append rfl (fun report => by cases report) (fun k kind => ?_) rfl
        have same : k = n.kind := by
          rw [← first]
          exact (beq_iff_eq.1 (show (m.kind == k) = true from kind)).symm
        subst same
        exact Nat.eq_zero_of_le_zero (Nat.le_of_succ_le_succ single)

end Sys2Proof.Machine
end

section
/-!
PROOFS. What it means that one state follows another with every invariant of the whole state kept, and the elementary changes that do:
notices, replies, counters, images and the parts that no invariant reads.
-/

namespace Sys2Proof.Machine

/-! ### The relation -/

/-- R69: in ABSENT no transaction is in flight; what `State.LinkOk` says of it. -/
def State.QuietAbsence (s : State) : Prop := s.blk.link = .absent → s.blk.txn = none

/-- `t` follows `s` with the invariants kept that hold between any two operations, also while a request is carried out: before the
operation `d` reply places are claimed beyond those that the queue and the tables account for, and after it `e`. -/
structure State.Kept (d e : Nat) (s t : State) : Prop where
  queue : ∀ n, s.upq.Ok (s.awaitingTables + (d + n)) s.slk.tx.isSome → t.upq.Ok (t.awaitingTables + (e + n)) t.slk.tx.isSome
  images : s.ImagesOk → t.ImagesOk
  counters : s.CountersOk → t.CountersOk
  angles : s.AnglesOk → t.AnglesOk
  polls : s.ImagesOk → s.PollsOk → t.PollsOk
  link : s.ImagesOk → s.PollsOk → s.LinkOk → t.LinkOk
  power : s.PowerOk → t.PowerOk
  quiet : s.QuietAbsence → t.QuietAbsence
  posture : s.ImagesOk → s.QuietAbsence → s.PostureOk → t.PostureOk

/-- `t` follows `s` with every invariant of the whole state kept. -/
abbrev State.Keeps (s t : State) : Prop := s.Kept 0 0 t

/-! ### What the invariants read -/

/-- What the invariants read of the latch-free parts of a state, in the groups in which operations change it. -/
structure Seen where
  queue : Upq × Option (List Byte)
  tables : Tables
  counters : Counters × Option PenRecord
  posture : Posture
  angles : Hinge × (Option Nat × Option Nat) × (Option Axes × Option Axes × Option Axes) × (Option Nat × Option Nat) × Option Nat × Option Nat
  link : LinkState × LinkRate × Option BaseRecord × Option Txn × Option LineLow
  retry : Option Nat × Bool
  polls : List Nat × List Nat × List WriteEntry
  power : HubPower × SystemState × Option Depth × Option Depth
  timers : Option ClockStart × Option Timer × Bool

def State.seen (s : State) : Seen where
  queue := (s.upq, s.slk.tx)
  tables := s.tables
  counters := (s.counters, s.pch.pen)
  posture := s.pae.record.posture
  angles := (s.pae.hinge, (s.pae.phiL, s.pae.psi), (s.pae.lidFilter, s.pae.baseFilter, s.pae.lastLid), (s.pae.lidAge, s.pae.baseAge),
    s.pae.evaluatedLidAge, s.pae.evaluatedBaseAge)
  link := (s.blk.link, s.blk.rate, s.blk.record, s.blk.txn, s.blk.low)
  retry := (s.blk.retryTimer, s.blk.retryDue)
  polls := (s.psc.owed, s.psc.due, s.psc.writes)
  power := (s.spm.hub, s.spm.system, s.spm.requested, s.spm.target)
  timers := (s.spm.clock, s.spm.wakeTimer, s.spm.wakeLow)

section
variable {s t : State}

theorem State.queue_congr (queue : t.seen.queue = s.seen.queue) (tables : t.seen.tables = s.seen.tables) (n : Nat)
    (ok : s.upq.Ok (s.awaitingTables + n) s.slk.tx.isSome) : t.upq.Ok (t.awaitingTables + n) t.slk.tx.isSome := by
  obtain ⟨upq, tx⟩ := Prod.mk.inj queue
  have tables : t.tables = s.tables := tables
  unfold State.awaitingTables at ok ⊢
  rwa [upq, tx, tables]

theorem State.ImagesOk.congr (ok : s.ImagesOk) (tables : t.seen.tables = s.seen.tables) : t.ImagesOk := by
  have tables : t.tables = s.tables := tables
  obtain ⟨active, awaiting, atOnce⟩ := ok
  rw [← tables] at active awaiting atOnce
  exact ⟨active, awaiting, atOnce⟩

theorem State.CountersOk.congr (ok : s.CountersOk) (counters : t.seen.counters = s.seen.counters) : t.CountersOk := by
  obtain ⟨counters, pen⟩ := Prod.mk.inj counters
  obtain ⟨all, check, violation⟩ := ok
  rw [← counters] at all
  rw [← pen] at check violation
  exact ⟨all, check, violation⟩

theorem State.AnglesOk.congr (ok : s.AnglesOk) (angles : t.seen.angles = s.seen.angles) : t.AnglesOk := by
  simp only [State.seen, Prod.mk.injEq] at angles
  obtain ⟨hinge, ⟨phiL, psi⟩, ⟨lid, base, last⟩, ⟨lidAge, baseAge⟩, evaluatedLid, evaluatedBase⟩ := angles
  constructor
  · exact hinge ▸ ok.theta
  · exact hinge ▸ ok.phiB
  · exact phiL ▸ ok.phiL
  · exact psi ▸ ok.psi
  · exact hinge ▸ ok.thetaHeld
  · exact hinge ▸ ok.phiBHeld
  · exact lid ▸ ok.lid
  · exact base ▸ ok.base
  · exact last ▸ ok.lastLid
  · exact lidAge ▸ ok.lidAge
  · exact baseAge ▸ ok.baseAge
  · exact evaluatedLid ▸ ok.evaluatedLidAge
  · exact evaluatedBase ▸ ok.evaluatedBaseAge

theorem State.PollsOk.congr (ok : s.PollsOk) (schedule : t.tables.schedule.active = s.tables.schedule.active)
    (polls : t.seen.polls = s.seen.polls) : t.PollsOk := by
  simp only [State.seen, Prod.mk.injEq] at polls
  obtain ⟨owed, due, writes⟩ := polls
  have bound := ok.owed
  unfold State.owed State.sched State.slot at bound
  constructor
  · exact owed ▸ ok.owedSlots
  · exact due ▸ ok.dueSlots
  · unfold State.owed State.sched State.slot
    rwa [owed, schedule]
  · exact writes ▸ ok.writes
  · exact writes ▸ ok.data

theorem State.LinkOk.congr (ok : s.LinkOk) (link : t.seen.link = s.seen.link) (retry : t.seen.retry = s.seen.retry)
    (polls : t.seen.polls = s.seen.polls) : t.LinkOk := by
  simp only [State.seen, Prod.mk.injEq] at link retry polls
  obtain ⟨link, rate, record, txn, low⟩ := link
  obtain ⟨retryTimer, retryDue⟩ := retry
  obtain ⟨owed, _, writes⟩ := polls
  constructor
  · rw [link, record]
    exact ok.record
  · rw [link, record]
    exact ok.noRecord
  · rw [link, rate]
    exact ok.rate
  · rw [link, retryTimer, retryDue]
    exact ok.retry
  · rw [link, owed, writes]
    exact ok.owed
  · rw [link, txn, low]
    exact ok.txn

theorem State.PowerOk.congr (ok : s.PowerOk) (link : t.seen.link = s.seen.link) (polls : t.seen.polls = s.seen.polls)
    (power : t.seen.power = s.seen.power) (timers : t.seen.timers = s.seen.timers) : t.PowerOk := by
  simp only [State.seen, Prod.mk.injEq] at link polls power timers
  obtain ⟨link, _, _, txn, _⟩ := link
  obtain ⟨_, _, writes⟩ := polls
  obtain ⟨hub, system, requested, target⟩ := power
  obtain ⟨clock, wakeTimer, wakeLow⟩ := timers
  constructor
  · rw [hub, system]
    exact ok.run
  · rw [requested, system]
    exact ok.requested
  · rw [target, system]
    exact ok.target
  · rw [clock, hub]
    exact ok.clock
  · rw [link, hub]
    exact ok.listen
  · rw [link, hub]
    exact ok.running
  · rw [hub, txn, writes]
    exact ok.quiet
  · rw [wakeLow, wakeTimer]
    exact ok.wakeLow

theorem State.QuietAbsence.congr (ok : s.QuietAbsence) (link : t.seen.link = s.seen.link) : t.QuietAbsence := by
  simp only [State.seen, Prod.mk.injEq] at link
  obtain ⟨link, _, _, txn, _⟩ := link
  unfold State.QuietAbsence
  rw [link, txn]
  exact ok

theorem State.PostureOk.congr (ok : s.PostureOk) (posture : t.seen.posture = s.seen.posture) (link : t.seen.link = s.seen.link) :
    t.PostureOk := by
  have link : t.blk.link = s.blk.link := congrArg Prod.fst link
  have posture : t.posture = s.posture := posture
  constructor
  rw [posture, link]
  exact ok.detached

end

/-! ### Changes of one group -/

section
variable {d : Nat} {s t : State}

/-- Everything but the engine, the base link and the power manager is as it was, as far as the invariants read it. -/
theorem State.Kept.ofMain (same : t.seen.queue = s.seen.queue ∧ t.seen.tables = s.seen.tables ∧ t.seen.counters = s.seen.counters)
    (angles : s.AnglesOk → t.AnglesOk) (polls : s.ImagesOk → s.PollsOk → t.PollsOk)
    (link : s.ImagesOk → s.PollsOk → s.LinkOk → t.LinkOk) (power : s.PowerOk → t.PowerOk) (quiet : s.QuietAbsence → t.QuietAbsence)
    (posture : s.ImagesOk → s.QuietAbsence → s.PostureOk → t.PostureOk) : s.Kept d d t where
  queue n := State.queue_congr same.1 same.2.1 (d + n)
  images ok := ok.congr same.2.1
  counters ok := ok.congr same.2.2
  angles := angles
  polls := polls
  link := link
  power := power
  quiet := quiet
  posture := posture

/-- Only the base link, the polls and the power manager change. -/
theorem State.Kept.ofBase
    (same : { t.seen with
      link := s.seen.link, retry := s.seen.retry, polls := s.seen.polls, power := s.seen.power, timers := s.seen.timers } = s.seen)
    (polls : s.ImagesOk → s.PollsOk → t.PollsOk) (link : s.ImagesOk → s.PollsOk → s.LinkOk → t.LinkOk) (power : s.PowerOk → t.PowerOk)
    (quiet : s.QuietAbsence → t.QuietAbsence) (absence : s.QuietAbsence → (t.blk.link = .absent ↔ s.blk.link = .absent)) :
    s.Kept d d t :=
  .ofMain ⟨(congrArg Seen.queue same :), (congrArg Seen.tables same :), (congrArg Seen.counters same :)⟩
    (fun ok => ok.congr (congrArg Seen.angles same :)) polls link power quiet fun _ h ok =>
      ⟨Eq.subst (motive := fun p => p = Posture.detached ↔ _) (congrArg Seen.posture same :).symm (ok.detached.trans (absence h).symm)⟩

/-- Nothing changes that an invariant reads. -/
theorem State.Kept.same (same : t.seen = s.seen) : s.Kept d d t :=
  .ofMain ⟨(congrArg Seen.queue same :), (congrArg Seen.tables same :), (congrArg Seen.counters same :)⟩
    (fun ok => ok.congr (congrArg Seen.angles same :))
    (fun _ ok => ok.congr (congrArg (fun v => v.tables.schedule.active) same :) (congrArg Seen.polls same :))
    (fun _ _ ok => ok.congr (congrArg Seen.link same :) (congrArg Seen.retry same :) (congrArg Seen.polls same :))
    (fun ok => ok.congr (congrArg Seen.link same :) (congrArg Seen.polls same :) (congrArg Seen.power same :) (congrArg Seen.timers same :))
    (fun ok => ok.congr (congrArg Seen.link same :))
    (fun _ _ ok => ok.congr (congrArg Seen.posture same :) (congrArg Seen.link same :))

/-- Only the counters and the pen's counts change. -/
theorem State.Kept.ofCounters (same : { t.seen with counters := s.seen.counters } = s.seen) (counters : s.CountersOk → t.CountersOk) :
    s.Kept d d t where
  queue n := State.queue_congr (congrArg Seen.queue same :) (congrArg Seen.tables same :) (d + n)
  images ok := ok.congr (congrArg Seen.tables same :)
  counters := counters
  angles ok := ok.congr (congrArg Seen.angles same :)
  polls _ ok := ok.congr (congrArg (fun v => v.tables.schedule.active) same :) (congrArg Seen.polls same :)
  link _ _ ok := ok.congr (congrArg Seen.link same :) (congrArg Seen.retry same :) (congrArg Seen.polls same :)
  power ok := ok.congr (congrArg Seen.link same :) (congrArg Seen.polls same :) (congrArg Seen.power same :) (congrArg Seen.timers same :)
  quiet ok := ok.congr (congrArg Seen.link same :)
  posture _ _ ok := ok.congr (congrArg Seen.posture same :) (congrArg Seen.link same :)

/-- Only the queue and the tables change. -/
theorem State.Kept.ofQueue {e : Nat} (same : { t.seen with queue := s.seen.queue, tables := s.seen.tables } = s.seen)
    (queue : ∀ n, s.upq.Ok (s.awaitingTables + (d + n)) s.slk.tx.isSome → t.upq.Ok (t.awaitingTables + (e + n)) t.slk.tx.isSome)
    (images : s.ImagesOk → t.ImagesOk) (schedule : t.tables.schedule.active = s.tables.schedule.active) : s.Kept d e t where
  queue := queue
  images := images
  counters ok := ok.congr (congrArg Seen.counters same :)
  angles ok := ok.congr (congrArg Seen.angles same :)
  polls _ ok := ok.congr schedule (congrArg Seen.polls same :)
  link _ _ ok := ok.congr (congrArg Seen.link same :) (congrArg Seen.retry same :) (congrArg Seen.polls same :)
  power ok := ok.congr (congrArg Seen.link same :) (congrArg Seen.polls same :) (congrArg Seen.power same :) (congrArg Seen.timers same :)
  quiet ok := ok.congr (congrArg Seen.link same :)
  posture _ _ ok := ok.congr (congrArg Seen.posture same :) (congrArg Seen.link same :)

/-- Only the queue changes. -/
theorem State.Kept.ofUpq {e : Nat} (same : { t.seen with queue := s.seen.queue } = s.seen)
    (queue : ∀ n, s.upq.Ok (s.awaitingTables + (d + n)) s.slk.tx.isSome → t.upq.Ok (s.awaitingTables + (e + n)) t.slk.tx.isSome) :
    s.Kept d e t := by
  have tables : t.tables = s.tables := (congrArg Seen.tables same :)
  refine .ofQueue (by rw [← same]) (fun n ok => ?_) (fun ok => ok.congr tables) (congrArg (fun v => v.schedule.active) tables)
  have := queue n ok
  unfold State.awaitingTables at this ⊢
  rwa [tables]

/-- Only the engine's angles, samples and ages change. -/
theorem State.Kept.ofAngles (same : { t.seen with angles := s.seen.angles } = s.seen) (angles : s.AnglesOk → t.AnglesOk) :
    s.Kept d d t :=
  .ofMain ⟨(congrArg Seen.queue same :), (congrArg Seen.tables same :), (congrArg Seen.counters same :)⟩ angles
    (fun _ ok => ok.congr (congrArg (fun v => v.tables.schedule.active) same :) (congrArg Seen.polls same :))
    (fun _ _ ok => ok.congr (congrArg Seen.link same :) (congrArg Seen.retry same :) (congrArg Seen.polls same :))
    (fun ok => ok.congr (congrArg Seen.link same :) (congrArg Seen.polls same :) (congrArg Seen.power same :) (congrArg Seen.timers same :))
    (fun ok => ok.congr (congrArg Seen.link same :))
    (fun _ _ ok => ok.congr (congrArg Seen.posture same :) (congrArg Seen.link same :))

/-- Only the power manager changes. -/
theorem State.Kept.ofPower (same : { t.seen with power := s.seen.power, timers := s.seen.timers } = s.seen)
    (power : s.PowerOk → t.PowerOk) : s.Kept d d t :=
  .ofMain ⟨(congrArg Seen.queue same :), (congrArg Seen.tables same :), (congrArg Seen.counters same :)⟩
    (fun ok => ok.congr (congrArg Seen.angles same :))
    (fun _ ok => ok.congr (congrArg (fun v => v.tables.schedule.active) same :) (congrArg Seen.polls same :))
    (fun _ _ ok => ok.congr (congrArg Seen.link same :) (congrArg Seen.retry same :) (congrArg Seen.polls same :))
    power (fun ok => ok.congr (congrArg Seen.link same :))
    (fun _ _ ok => ok.congr (congrArg Seen.posture same :) (congrArg Seen.link same :))

end

section
variable {d e f : Nat} {s t u : State}

theorem State.Keeps.refl (s : State) : s.Keeps s :=
  ⟨fun _ ok => ok, id, id, id, fun _ => id, fun _ _ => id, id, id, fun _ _ => id⟩

theorem State.Kept.trans (h : s.Kept d e t) (h' : t.Kept e f u) : s.Kept d f u where
  queue n ok := h'.queue n (h.queue n ok)
  images ok := h'.images (h.images ok)
  counters ok := h'.counters (h.counters ok)
  angles ok := h'.angles (h.angles ok)
  polls images ok := h'.polls (h.images images) (h.polls images ok)
  link images polls ok := h'.link (h.images images) (h.polls images polls) (h.link images polls ok)
  quiet ok := h'.quiet (h.quiet ok)
  power ok := h'.power (h.power ok)
  posture images quiet ok := h'.posture (h.images images) (h.quiet quiet) (h.posture images quiet ok)

theorem State.Kept.after (h' : t.Kept e f u) (h : s.Kept d e t) : s.Kept d f u := h.trans h'

/-- What keeps the invariants with no place claimed keeps them with some. -/
theorem State.Keeps.claimed (h : s.Keeps t) (d : Nat) : s.Kept d d t :=
  { h with
    queue := fun n ok => by
      have := h.queue (d + n)
      rw [Nat.zero_add] at this
      exact this ok }

/-! ### Notices and replies -/

theorem State.notice_keeps (s : State) (n : Notice) : s.Keeps (s.notice n) := .ofUpq rfl fun _ ok => ok.issue n

theorem State.event_keeps (s : State) (c : EventCode) : s.Keeps (s.event c) := s.notice_keeps _

theorem State.penNotice_keeps (s : State) : s.Keeps s.penNotice := s.notice_keeps _

theorem State.append_reply_kept (s : State) (r : Reply) (d : Nat) :
    s.Kept (d + 1) d { s with upq := s.upq.append (.reply r) } :=
  .ofUpq rfl fun n ok => by
    refine Upq.Ok.reply (w := s.awaitingTables + (d + n)) ?_ r
    rwa [show s.awaitingTables + (d + n) + 1 = s.awaitingTables + (d + 1 + n) by omega]

theorem State.answer_kept (s : State) (f : DownFrame) (c : ReplyCode) (data : List Byte) : s.Kept 1 0 (s.answer f c data) :=
  s.append_reply_kept _ 0

theorem State.claim_kept (s : State) (room : s.upq.placesTaken < Config.replyPlaces) : s.Kept 0 1 s.claim :=
  .ofUpq rfl fun n ok => by
    have := ok.claim room
    rwa [show s.awaitingTables + (0 + n) + 1 = s.awaitingTables + (1 + n) by omega] at this

/-! ### Counters -/

theorem State.counters_keeps {c : Counters} (small : ∀ k, c.get k ≤ max (s.counters.get k) Config.counterMax) :
    s.Keeps { s with counters := c } :=
  .ofCounters rfl fun ok => ⟨fun k => (small k).trans (max_le (ok.counters k) le_rfl), ok.check, ok.violation⟩

theorem State.bumpBy_keeps (s : State) (k : Counter) (n : Nat) : s.Keeps (s.bumpBy k n) := by
  have counted : ∀ m, m ≤ 255 → s.Keeps { s with counters := s.counters.set k m } := by
    intro m small
    refine State.counters_keeps fun j => ?_
    by_cases same : j = k
    · subst same
      rw [Counters.get_set_self]
      exact small.trans (le_max_right _ _)
    · rw [Counters.get_set_of_ne _ _ _ _ same]
      exact le_max_left _ _
  rcases s.bumpBy_cases k n with ⟨_, _, e⟩ | ⟨_, e⟩ <;> rw [e]
  · exact (counted 255 le_rfl).trans (State.event_keeps _ _)
  · exact counted _ (min_le_right _ _)

theorem State.bump_keeps (s : State) (k : Counter) : s.Keeps (s.bump k) := s.bumpBy_keeps k 1

/-! ### Images -/

/-- The number of tables that await swap, where only one table's mark can have changed. -/
theorem State.awaitingTables_set (s t : State) (k : TableId) (others : ∀ j, j ≠ k → (t.tables.get j).awaiting = (s.tables.get j).awaiting) :
    t.awaitingTables + (s.tables.get k).awaiting.toNat = s.awaitingTables + (t.tables.get k).awaiting.toNat := by
  have all : ∀ u : State, u.awaitingTables =
      (u.tables.get .route).awaiting.toNat + (u.tables.get .posture).awaiting.toNat + (u.tables.get .schedule).awaiting.toNat +
      (u.tables.get .channel).awaiting.toNat + (u.tables.get .charge).awaiting.toNat + (u.tables.get .policy).awaiting.toNat := by
    intro u
    unfold State.awaitingTables TableId.all
    simp only [List.countP_cons, List.countP_nil, Bool.toNat, Bool.cond_eq_ite]
    omega
  rw [all, all]
  cases k <;> (simp_all; try omega)

/-- Only validated images are in a table that is set to one whose images are valid. -/
theorem State.ImagesOk.set (ok : s.ImagesOk) {k : TableId} {v : Table} (tables : t.tables = s.tables.set k v)
    (active : validImage k v.active = true) (pending : v.awaiting = true → validImage k v.pending = true)
    (waits : v.awaiting = true → k ≠ .route ∧ k ≠ .policy) : t.ImagesOk where
  active j := by
    rw [tables]
    by_cases same : j = k
    · subst same
      rwa [Tables.get_set_self]
    · rw [Tables.get_set_of_ne _ _ _ _ same]
      exact ok.active j
  awaiting j := by
    rw [tables]
    by_cases same : j = k
    · subst same
      rwa [Tables.get_set_self]
    · rw [Tables.get_set_of_ne _ _ _ _ same]
      exact ok.awaiting j
  atOnce := by
    rw [tables]
    obtain ⟨route, policy⟩ := ok.atOnce
    constructor
    · by_cases same : TableId.route = k
      · subst same
        rw [Tables.get_set_self]
        exact Bool.eq_false_iff.2 fun h => (waits h).1 rfl
      · rwa [Tables.get_set_of_ne _ _ _ _ same]
    · by_cases same : TableId.policy = k
      · subst same
        rw [Tables.get_set_self]
        exact Bool.eq_false_iff.2 fun h => (waits h).2 rfl
      · rwa [Tables.get_set_of_ne _ _ _ _ same]

theorem Tables.set_schedule (t : Tables) {k : TableId} (v : Table) (other : k ≠ .schedule) : (t.set k v).schedule = t.schedule := by
  cases k with
  | schedule => exact absurd rfl other
  | _ => rfl

theorem State.awaitingTables_swapTable (s : State) (k : TableId) :
    (s.swapTable k).awaitingTables + (s.tables.get k).awaiting.toNat = s.awaitingTables := by
  have := s.awaitingTables_set (s.swapTable k) k fun j other => by
    simp [State.swapTable, State.reply, Tables.get_set_of_ne _ _ _ _ other]
  simpa [State.swapTable, State.reply, Table.swap] using this

/-- The images under a swap (R2): the pending image was validated at its commit. -/
theorem State.ImagesOk.swapTable (ok : s.ImagesOk) (k : TableId) (valid : validImage k (s.tables.get k).pending = true) :
    (s.swapTable k).ImagesOk :=
  ok.set (k := k) (v := (s.tables.get k).swap) rfl valid (fun h => by cases h) (fun h => by cases h)

/-- R2, R182: a swap answers with the place that its commit has held, or that the request has claimed. -/
theorem State.swapTable_kept (s : State) {k : TableId} (other : k ≠ .schedule)
    (valid : s.ImagesOk → validImage k (s.tables.get k).pending = true) :
    s.Kept (!(s.tables.get k).awaiting).toNat 0 (s.swapTable k) := by
  refine .ofQueue rfl (fun n ok => ?_) (fun ok => ok.swapTable k (valid ok)) (congrArg Table.active (Tables.set_schedule _ _ other))
  · refine Upq.Ok.reply (w := (s.swapTable k).awaitingTables + (0 + n)) ?_ _
    have := s.awaitingTables_swapTable k
    have one : (!(s.tables.get k).awaiting).toNat + (s.tables.get k).awaiting.toNat = 1 := by
      cases (s.tables.get k).awaiting <;> rfl
    rwa [show (s.swapTable k).awaitingTables + (0 + n) + 1 =
      s.awaitingTables + ((!(s.tables.get k).awaiting).toNat + n) by omega]

theorem State.swapTable_keeps (s : State) {k : TableId} (other : k ≠ .schedule) (waits : (s.tables.get k).awaiting = true) :
    s.Keeps (s.swapTable k) := by
  have := s.swapTable_kept other fun ok => ok.awaiting k waits
  rwa [waits] at this

/-- R2, R182: the swap that a commit makes at once. -/
theorem State.swapTable_now (s : State) {k : TableId} (other : k ≠ .schedule) (free : (s.tables.get k).awaiting = false)
    (valid : validImage k (s.tables.get k).pending = true) : s.Kept 1 0 (s.swapTable k) := by
  have := s.swapTable_kept other fun _ => valid
  rwa [free] at this

/-- R184: a table that does not await swap may be written. -/
theorem State.writePending_keeps (s : State) {k : TableId} (img : Image) (free : (s.tables.get k).awaiting = false) :
    s.Keeps { s with tables := s.tables.set k { s.tables.get k with pending := img } } := by
  refine .ofQueue rfl (fun n ok => ?_) (fun ok => ?_) (by cases k <;> rfl)
  · have := s.awaitingTables_set { s with tables := s.tables.set k { s.tables.get k with pending := img } } k
      fun j other => by simp [Tables.get_set_of_ne _ _ _ _ other]
    simp only [Tables.get_set_self, Nat.add_right_cancel_iff] at this
    rw [this]
    exact ok
  · refine ok.set (k := k) rfl (ok.active k) (fun waits => ?_) (fun waits => ?_) <;>
      exact absurd (free.symm.trans waits) Bool.false_ne_true

/-- R185: a commit holds the place of its reply until the swap. -/
theorem State.await_kept (s : State) {k : TableId} (free : (s.tables.get k).awaiting = false)
    (valid : validImage k (s.tables.get k).pending = true) (waits : k ≠ .route ∧ k ≠ .policy) :
    s.Kept 1 0 { s with tables := s.tables.set k { s.tables.get k with awaiting := true } } := by
  refine .ofQueue rfl (fun n ok => ?_) (fun ok => ok.set (k := k) rfl (ok.active k) (fun _ => valid) (fun _ => waits))
    (by cases k <;> rfl)
  · have := s.awaitingTables_set { s with tables := s.tables.set k { s.tables.get k with awaiting := true } } k
      fun j other => by simp [Tables.get_set_of_ne _ _ _ _ other]
    simp only [Tables.get_set_self, free, Bool.toNat_false, Bool.toNat_true, Nat.add_zero] at this
    rw [this]
    rwa [show s.awaitingTables + 1 + (0 + n) = s.awaitingTables + (1 + n) by omega]

/-! ### The pen's counts -/

/-- The pen's counts stay within their bound where the record is taken over or changed by such an operation. -/
theorem State.CountersOk.mapPen (ok : s.CountersOk) (counters : t.counters = s.counters) {f : PenRecord → PenRecord}
    (pen : t.pch.pen = s.pch.pen.map f) (check : ∀ p, (f p).check = p.check) (violation : ∀ p, (f p).violation = p.violation) :
    t.CountersOk where
  counters k := counters ▸ ok.counters k
  check p hp := by
    obtain ⟨q, hq, rfl⟩ := Option.map_eq_some_iff.1 (pen ▸ hp)
    rw [check]
    exact ok.check q hq
  violation p hp := by
    obtain ⟨q, hq, rfl⟩ := Option.map_eq_some_iff.1 (pen ▸ hp)
    rw [violation]
    exact ok.violation q hq

end

end Sys2Proof.Machine
end

section
/-!
PROOFS. The charger, the coil driver, the capture unit and the budget keep every invariant of the whole state (`State.Keeps`).
-/

namespace Sys2Proof.Machine

/-! ### Blanking and the capture unit -/

section
variable (s : State)

theorem State.requestBlanking_keeps : s.Keeps s.requestBlanking := .same rfl

theorem State.dataLeft_keeps : s.Keeps s.dataLeft := by
  unfold State.dataLeft
  split
  · exact s.requestBlanking_keeps
  · exact .refl s

theorem State.capture_keeps (m : CaptureMode) : s.Keeps (s.capture m) := by
  unfold State.capture
  dsimp only
  split
  · exact (State.dataLeft_keeps _).after (.same rfl)
  · exact .same rfl

/-! ### The charger's state and the pause reasons -/

theorem Pch.settle_pen (p : Pch) : p.settle.pen = p.pen := by
  unfold Pch.settle
  repeat' split
  all_goals rfl

/-- The driver follows the charger's state and the blanking; no invariant of the whole state reads it. -/
theorem State.settled_keeps (p : Pch) (pen : p.pen = s.pch.pen) : s.Keeps { s with pch := p.settle } :=
  .ofCounters rfl fun ok => ok.congr (congrArg (Prod.mk s.counters) (p.settle_pen.trans pen))

theorem State.enterCharger_keeps (c : ChargerState) : s.Keeps (s.enterCharger c) := by
  unfold State.enterCharger
  have settled := s.settled_keeps { s.pch with state := c } rfl
  dsimp only
  split
  · exact (State.capture_keeps _ _).after (settled.trans (.same rfl))
  · exact settled

section
variable {go : State → ChargerState → State} (change : ∀ s c, State.Keeps s (go s c))
include change

theorem State.toPausedBy_keeps : s.Keeps (s.toPausedBy go) := (change _ .paused).after (.same rfl)

theorem State.toWaitBy_keeps : s.Keeps (s.toWaitBy go) :=
  (State.penNotice_keeps _).after ((change s .wait).trans (.same rfl))

theorem State.setPausesBy_keeps (q : Pauses) : s.Keeps (s.setPausesBy go q) := by
  rcases s.setPausesBy_cases go q with ⟨_, e⟩ | ⟨_, _, _, e⟩ | ⟨_, _, _, e⟩ | ⟨_, _, _, e⟩ <;> rw [e]
  · exact .refl s
  · exact (State.penNotice_keeps _).after ((State.toPausedBy_keeps _ change).after (.same rfl))
  · exact (State.toWaitBy_keeps _ change).after (.same rfl)
  · exact (State.penNotice_keeps _).after (.same rfl)

end

/-- What `State.PowerOk` reads of the power manager's state. -/
def Spm.core (p : Spm) : (HubPower × SystemState × Option Depth × Option Depth) × Option ClockStart × Option Timer × Bool :=
  ((p.hub, p.system, p.requested, p.target), p.clock, p.wakeTimer, p.wakeLow)

theorem State.spm_keeps {p : Spm} (same : p.core = s.spm.core) : s.Keeps { s with spm := p } :=
  .ofPower rfl fun ok => ok.congr rfl rfl (congrArg Prod.fst same) (congrArg Prod.snd same)

section
variable {go : State → ChargerState → State} (change : ∀ s c, State.Keeps s (go s c))
include change

theorem State.rebudgetBy_keeps {p : Spm} (same : p.core = s.spm.core) : s.Keeps (s.rebudgetBy go p) := by
  have claimed : s.Keeps { s with spm := { p with penClaim := p.claim } } := s.spm_keeps same
  rcases s.rebudgetBy_cases go p with ⟨_, _, e⟩ | ⟨_, e⟩ <;> rw [e]
  · exact claimed
  · exact (State.setPausesBy_keeps _ change _).after claimed

theorem State.handLimitBy_keeps : s.Keeps (s.handLimitBy go) := s.rebudgetBy_keeps change rfl

end

/-- R135: a stop of the driver swaps a CHARGE table that awaits swap. -/
theorem State.swapStopped_keeps (waits : s.tables.charge.awaiting = true) : s.Keeps s.swapStopped :=
  (State.handLimitBy_keeps _ State.enterCharger_keeps).after ((s.swapTable_keeps (k := .charge) (by decide) waits).trans (.same rfl))

theorem State.toCharger_keeps (c : ChargerState) : s.Keeps (s.toCharger c) := by
  unfold State.toCharger
  dsimp only
  split
  · rename_i stops
    simp only [Bool.and_eq_true] at stops
    exact (State.swapStopped_keeps _ stops.2).after (s.enterCharger_keeps c)
  · exact s.enterCharger_keeps c

theorem State.toPaused_keeps : s.Keeps s.toPaused := s.toPausedBy_keeps State.toCharger_keeps

theorem State.toWait_keeps : s.Keeps s.toWait := s.toWaitBy_keeps State.toCharger_keeps

theorem State.setPauses_keeps (q : Pauses) : s.Keeps (s.setPauses q) := s.setPausesBy_keeps State.toCharger_keeps q

theorem State.rebudget_keeps {p : Spm} (same : p.core = s.spm.core) : s.Keeps (s.rebudget p) :=
  s.rebudgetBy_keeps State.toCharger_keeps same

theorem State.handLimit_keeps : s.Keeps s.handLimit := s.handLimitBy_keeps State.toCharger_keeps

theorem State.waitFromOff_keeps : s.Keeps s.waitFromOff := by
  unfold State.waitFromOff
  dsimp only
  split
  · exact (State.toWait_keeps _).after (.same rfl)
  · exact (State.toPaused_keeps _).after (.same rfl)

theorem State.setPower_keeps (r : Option PowerReport) : s.Keeps (s.setPower r) := s.rebudget_keeps rfl

theorem State.setLatchClaim_keeps (mA : Nat) : s.Keeps (s.setLatchClaim mA) := s.rebudget_keeps rfl

theorem State.judgeSleep_kept : s.Keeps s.judgeSleep := s.setPauses_keeps _

/-! ### The charger's states -/

/-- The pen record taken over, or changed but for its counts. -/
theorem State.mapPen_keeps {p : Pch} (f : PenRecord → PenRecord) (pen : p.pen = s.pch.pen.map f)
    (check : ∀ p, (f p).check = p.check) (violation : ∀ p, (f p).violation = p.violation) : s.Keeps { s with pch := p } :=
  .ofCounters rfl fun ok => ok.mapPen rfl pen check violation

theorem State.setStage_keeps {p : Pch} (stage : Option Nat)
    (pen : p.pen = s.pch.pen.map fun (p : PenRecord) => { p with stage := stage }) : s.Keeps { s with pch := p } :=
  s.mapPen_keeps _ pen (fun _ => rfl) fun _ => rfl

theorem State.toIdent_keeps (kind : BurstKind) : s.Keeps (s.toIdent kind) :=
  (State.penNotice_keeps _).after ((State.capture_keeps _ _).after (s.settled_keeps _ rfl))

theorem State.toCharge_keeps (stage : Nat) : s.Keeps (s.toCharge stage) :=
  (State.penNotice_keeps _).after ((State.handLimit_keeps _).after
    ((State.setStage_keeps _ (some stage) rfl).after (s.toCharger_keeps .charge)))

theorem State.toStage_keeps (stage : Nat) : s.Keeps (s.toStage stage) :=
  (State.penNotice_keeps _).after ((State.handLimit_keeps _).after
    (State.setStage_keeps s (some stage) rfl))

theorem State.makeWaiting_keeps : s.Keeps s.makeWaiting := by
  unfold State.makeWaiting
  split
  · split
    · exact s.toCharge_keeps _
    · exact s.toStage_keeps _
  · exact .refl s

theorem State.toDone_keeps : s.Keeps s.toDone :=
  (State.penNotice_keeps _).after ((s.toCharger_keeps .done).trans (.same rfl))

theorem State.toFault_keeps (r : FaultReason) (code : Option Byte := none) : s.Keeps (s.toFault r code) :=
  (State.penNotice_keeps _).after ((s.toCharger_keeps .fault).trans (.same rfl))

theorem State.disable_keeps : s.Keeps s.disable := by
  unfold State.disable
  dsimp only
  split
  · exact (State.penNotice_keeps _).after (.same rfl)
  · refine (State.penNotice_keeps _).after ((State.handLimit_keeps _).after
      ((State.setStage_keeps _ none rfl).after ((State.toCharger_keeps _ .off).after (.same rfl))))

theorem State.enableCharging_keeps : s.Keeps s.enableCharging := by
  unfold State.enableCharging
  dsimp only
  split
  · exact (State.waitFromOff_keeps _).after (.same rfl)
  · exact .same rfl

theorem State.chargeControl_keeps (enable : Bool) (cap : Nat) : s.Keeps (s.chargeControl enable cap) := by
  have capped : s.Keeps (s.rebudget { s.spm with cap := min cap 1000 }) := s.rebudget_keeps rfl
  unfold State.chargeControl
  dsimp only
  split
  · exact (State.disable_keeps _).after capped
  · exact (State.enableCharging_keeps _).after capped
  · exact capped

/-! ### Regulation and packets -/

theorem State.regulate_keeps (coilI : Nat) : s.Keeps (s.regulate coilI) := by
  unfold State.regulate State.writeStep
  dsimp only
  repeat' split
  · exact (State.toFault_keeps _ _).after (.same rfl)
  all_goals exact .same rfl

theorem State.setPen_keeps {p : PenRecord} (pen : ∃ f : PenRecord → PenRecord, some p = s.pch.pen.map f ∧
    (∀ q, (f q).check = q.check) ∧ ∀ q, (f q).violation = q.violation) : s.Keeps (s.setPen p) := by
  obtain ⟨f, pen, check, violation⟩ := pen
  have set : s.Keeps { s with pch.pen := some p } := s.mapPen_keeps f pen check violation
  unfold State.setPen
  dsimp only
  split
  · split
    · exact set
    · exact (State.penNotice_keeps _).after set
  · exact set

theorem State.batteryInIdent_keeps (b : Nat) : s.Keeps (s.batteryInIdent b) := by
  unfold State.batteryInIdent State.awaitCharge
  dsimp only
  repeat' split
  · exact .same rfl
  · exact .same rfl
  · exact .same rfl
  · exact (State.toDone_keeps _).after (.same rfl)

theorem State.batteryInCharge_keeps (b : Nat) : s.Keeps (s.batteryInCharge b) := by
  unfold State.batteryInCharge
  dsimp only
  repeat' split
  · exact .same rfl
  · exact .same rfl
  · exact s.toDone_keeps

/-- R161: the packet as it is recorded, before it acts. -/
def State.packetRecorded (s : State) (kind value : Byte) : State :=
  let t : State :=
    { s with
      bcd.last := some ⟨kind, value, s.ticks⟩
      pch.pen := s.pch.pen.map fun (p : PenRecord) => { p with age := some 0 } }
  if t.pch.state = .charge then
    { t with pch.packetTimer := some (.start t.chg.packetTimeout), pch.timeouts := 0 }
  else t

theorem State.packetRecorded_keeps (kind value : Byte) : s.Keeps (s.packetRecorded kind value) := by
  have recorded : s.Keeps { s with
      bcd.last := some ⟨kind, value, s.ticks⟩
      pch.pen := s.pch.pen.map fun (p : PenRecord) => { p with age := some 0 } } :=
    .ofCounters rfl fun ok => ok.mapPen (f := fun p => { p with age := some 0 }) rfl rfl (fun _ => rfl) fun _ => rfl
  unfold State.packetRecorded
  dsimp only
  split
  · exact recorded.trans (.same rfl)
  · exact recorded

/-- R141, R143, R144, R146, R149, R150: what a packet of this kind and value brings, once it is recorded. -/
def State.packetActs (s : State) (kind value : Byte) : State :=
  match s.pch.pen, s.pch.state.drives with
  | some p, true =>
    if kind = 1 then
      let u : State := s.setPen { p with identity := some value }
      if u.pch.state = .ident ∧ u.pch.burstKind = .full then { u with pch.penIdMark := true } else u
    else if kind = 2 then
      let b := min value.toNat 100
      let u : State := s.setPen { p with battery := some b }
      if u.pch.state = .ident then u.batteryInIdent b else u.batteryInCharge b
    else if kind = 3 then
      if s.pch.state = .charge then s.adjust (signedOf [value]) else s
    else if kind = 4 then s.toDone
    else if kind = 5 then s.toFault .penFault (some value)
    else s
  | _, _ => s

theorem State.deliver_eq (kind value : Byte) : s.deliver kind value = (s.packetRecorded kind value).packetActs kind value := by
  unfold State.deliver State.packetActs State.packetRecorded
  rfl

theorem State.packetActs_keeps (kind value : Byte) : s.Keeps (s.packetActs kind value) := by
  unfold State.packetActs
  split
  · rename_i p pen drives
    have identified : s.Keeps (s.setPen { p with identity := some value }) :=
      s.setPen_keeps ⟨fun q => { q with identity := some value }, by rw [pen]; rfl, fun _ => rfl, fun _ => rfl⟩
    have told : s.Keeps (s.setPen { p with battery := some (min value.toNat 100) }) :=
      s.setPen_keeps ⟨fun q => { q with battery := some (min value.toNat 100) }, by rw [pen]; rfl, fun _ => rfl, fun _ => rfl⟩
    dsimp only
    repeat' split
    · exact identified.trans (.same rfl)
    · exact identified
    · exact (State.batteryInIdent_keeps _ _).after told
    · exact (State.batteryInCharge_keeps _ _).after told
    · exact .same rfl
    · exact .refl s
    · exact s.toDone_keeps
    · exact s.toFault_keeps _ _
    · exact .refl s
  · exact .refl s

theorem State.deliver_keeps (kind value : Byte) : s.Keeps (s.deliver kind value) := by
  rw [s.deliver_eq]
  exact (State.packetActs_keeps _ _ _).after (s.packetRecorded_keeps kind value)

/-! ### The CHARGE swap, the driver's boundaries and the charger's timers -/

theorem State.rechoose_keeps : s.Keeps s.rechoose := by
  rcases s.rechoose_cases with ⟨_, _, _, _, _, e⟩ | ⟨_, e⟩ <;> rw [e]
  · exact State.setStage_keeps s (some s.chosen) rfl
  · exact .refl s

theorem State.swapLoaded_kept {d e : Nat} (swapped : s.Kept d e (s.swapTable .charge)) : s.Kept d e s.swapLoaded := by
  have imaged : s.Kept d e s.swapImaged := swapped.trans (.same rfl)
  have chosen : s.Kept d e s.swapImaged.rechoose := imaged.trans (s.swapImaged.rechoose_keeps.claimed e)
  exact chosen.trans (.same rfl)

/-- R135: the CHARGE swap keeps what its table's swap keeps. -/
theorem State.swapCharge_kept {d e : Nat} (swapped : s.Kept d e (s.swapTable .charge)) : s.Kept d e s.swapCharge := by
  rw [s.swapCharge_eq]
  exact (s.swapLoaded_kept swapped).trans
    ((State.Keeps.claimed ((State.handLimit_keeps _).after (State.makeWaiting_keeps _)) e))

/-- R135: the CHARGE swap that a commit waits for. -/
theorem State.swapCharge_waited (waits : s.tables.charge.awaiting = true) : s.Keeps s.swapCharge :=
  s.swapCharge_kept (s.swapTable_keeps (by decide) waits)

theorem State.grantBlanking_keeps : s.Keeps s.grantBlanking := by
  unfold State.grantBlanking
  have granted := s.settled_keeps { s.pch with blanking := .inForce } rfl
  dsimp only
  split
  · rename_i stops
    simp only [Bool.and_eq_true] at stops
    refine (State.swapCharge_waited _ ?_).after (granted.trans (.same rfl))
    exact stops.2
  · exact granted.trans (.same rfl)

theorem State.boundary_keeps : s.Keeps s.boundary := by
  unfold State.boundary
  split
  · rename_i swaps
    exact s.swapCharge_waited swaps.1
  · exact (State.makeWaiting_keeps _).after (.same rfl)

theorem State.periodBoundary_keeps : s.Keeps s.periodBoundary := by
  unfold State.periodBoundary
  dsimp only
  split
  · exact (State.grantBlanking_keeps _).after s.boundary_keeps
  · exact s.boundary_keeps

theorem State.burstFailed_keeps : s.Keeps s.burstFailed := by
  have stopped : s.Keeps (({ s with
      pch.burstTimer := none, pch.checkTicks := none, pch.burstKind := .full } : State).toCharger .wait) :=
    (State.toCharger_keeps _ .wait).after (.same rfl)
  unfold State.burstFailed
  dsimp only
  generalize State.toCharger _ ChargerState.wait = t at stopped ⊢
  split
  · exact (State.toFault_keeps _ _).after (stopped.trans (.same rfl))
  · split
    · exact (State.toWait_keeps _).after (stopped.trans (.same rfl))
    · exact (State.toPaused_keeps _).after (stopped.trans (.same rfl))

theorem State.packetTimedOut_keeps : s.Keeps s.packetTimedOut := by
  unfold State.packetTimedOut
  dsimp only
  split
  · exact (State.toIdent_keeps _ _).after (.same rfl)
  · exact .same rfl

/-! ### The decoder -/

theorem State.judgeInterval_keeps (ticks : Nat) : s.Keeps (s.judgeInterval ticks) := by
  unfold State.judgeInterval
  split
  · exact (State.capture_keeps _ _).after (.same rfl)
  · exact s.toFault_keeps _ _

theorem State.risingEdge_keeps (stamp : Stamp) : s.Keeps (s.risingEdge stamp) := by
  unfold State.risingEdge
  split
  · exact .same rfl
  · dsimp only
    split
    · exact (State.judgeInterval_keeps _ _).after (.same rfl)
    · exact .same rfl

/-- R160: a count of the pen's goes up by one to at most 255. -/
theorem State.penCount_keeps (old : Nat) {set : PenRecord → Nat → PenRecord}
    (check : ∀ p n, n ≤ 255 → (set p n).check ≤ max p.check 255)
    (violation : ∀ p n, n ≤ 255 → (set p n).violation ≤ max p.violation 255) : s.Keeps (s.penCount old set) := by
  have small : min (old + 1) Config.counterMax ≤ 255 := min_le_right _ _
  have counted : s.Keeps { s with
      pch.pen := s.pch.pen.map fun (p : PenRecord) => set p (min (old + 1) Config.counterMax) } :=
    .ofCounters rfl fun ok =>
        { counters := ok.counters
          check := fun p hp => by
            obtain ⟨q, hq, rfl⟩ := Option.map_eq_some_iff.1 hp
            exact (check q _ small).trans (max_le (ok.check q hq) le_rfl)
          violation := fun p hp => by
            obtain ⟨q, hq, rfl⟩ := Option.map_eq_some_iff.1 hp
            exact (violation q _ small).trans (max_le (ok.violation q hq) le_rfl) }
  unfold State.penCount
  dsimp only
  split
  · exact (State.event_keeps _ _).after counted
  · exact counted

theorem State.checkFailed_keeps : s.Keeps s.checkFailed := by
  unfold State.checkFailed
  split
  · exact s.penCount_keeps _ (fun _ _ small => small.trans (le_max_right _ _)) fun _ _ _ => le_max_left _ _
  · exact .refl s

theorem State.packetBroken_keeps : s.Keeps s.packetBroken := by
  unfold State.packetBroken
  split
  · exact s.penCount_keeps _ (fun _ _ _ => le_max_left _ _) fun _ _ small => small.trans (le_max_right _ _)
  · exact .refl s

theorem State.violation_keeps : s.Keeps s.violation := by
  unfold State.violation
  dsimp only
  split
  · exact (State.packetBroken_keeps _).after ((State.dataLeft_keeps _).after (.same rfl))
  · exact .same rfl

theorem State.complete_keeps (acc : BitVec 24) : s.Keeps (s.complete acc) := by
  have hunts : s.Keeps ({ s with bcd := s.bcd.toHunt } : State).dataLeft := (State.dataLeft_keeps _).after (.same rfl)
  unfold State.complete
  dsimp only
  split
  · exact (State.deliver_keeps _ _ _).after hunts
  · exact (State.checkFailed_keeps _).after hunts

theorem State.takeBit_keeps (one : Bool) : s.Keeps (s.takeBit one) := by
  unfold State.takeBit
  dsimp only
  repeat' split
  case h_3.isTrue => exact s.complete_keeps _
  all_goals exact .same rfl

theorem State.takeSymbol_keeps (y : Symbol) : s.Keeps (s.takeSymbol y) := by
  unfold State.takeSymbol
  split
  · exact .same rfl
  · exact (State.takeBit_keeps _ _).after (.same rfl)
  · exact s.violation_keeps

theorem State.silence_keeps : s.Keeps s.silence := (State.violation_keeps _).after (.same rfl)

theorem State.edge_keeps (stamp : Stamp) : s.Keeps (s.edge stamp) := by
  unfold State.edge
  split
  · exact .same rfl
  · split
    · exact s.silence_keeps.trans (.same rfl)
    · exact (State.takeSymbol_keeps _ _).after (.same rfl)

end
end Sys2Proof.Machine
end

section
/-!
PROOFS. The power manager, the latch unit and a change of posture keep every invariant of the whole state (`State.Keeps`).
-/

namespace Sys2Proof.Machine

section
variable (s : State)

/-! ### The power manager -/

theorem State.startClock_keeps : s.Keeps s.startClock := by
  rcases s.startClock_cases with ⟨deep, _, e⟩ | ⟨_, e⟩ <;> rw [e]
  · exact .ofPower rfl fun h => ⟨h.1, h.2, h.3, fun _ => deep, h.5, h.6, h.7, h.8⟩
  · exact .refl s

theorem State.leaveDeep_keeps : s.Keeps s.leaveDeep := by
  unfold State.leaveDeep
  split
  · exact s.startClock_keeps
  · exact .refl s

/-- A system state other than ASLEEP gives way to another one. -/
theorem State.awakeState_keeps {p : Spm} (before : s.spm.system ≠ .asleep) (after : p.system ≠ .asleep)
    (same : { p with system := s.spm.system }.core = s.spm.core) : s.Keeps { s with spm := p } := by
  refine .ofPower rfl fun ok => ?_
  simp only [Spm.core, Prod.mk.injEq] at same
  obtain ⟨⟨hub, _, requested, target⟩, clock, wakeTimer, wakeLow⟩ := same
  obtain ⟨run, isRequested, isTarget, isClock, listen, running, quiet, low⟩ := ok
  simp only [before, decide_false, ne_eq, not_false_eq_true, iff_true] at run isRequested isTarget
  refine ⟨?_, ?_, ?_, ?_, ?_, ?_, ?_, ?_⟩
  · simp [hub, run, after]
  · simp [requested, isRequested, after]
  · simp [target, isTarget, after]
  · rwa [clock, hub]
  · rwa [hub]
  · rwa [hub]
  · rwa [hub]
  · rwa [wakeLow, wakeTimer]

theorem State.activity_keeps (change : Bool) : s.Keeps (s.activity change) := by
  have idle : s.Keeps { s with spm.activityTimer := 0 } := s.spm_keeps rfl
  unfold State.activity State.sleepNotice
  dsimp only
  split
  · rename_i system
    split
    · exact (State.notice_keeps _ _).after (s.awakeState_keeps (by simp [system]) (by simp) rfl)
    · exact idle
  · rename_i system
    split
    · exact (State.notice_keeps _ _).after idle
    · exact (State.notice_keeps _ _).after (s.awakeState_keeps (by simp [system]) (by simp) rfl)
  · exact idle

theorem State.wakeNotice_keeps : s.Keeps s.wakeNotice := s.notice_keeps _

/-- The hub goes to RUN, out of ASLEEP: with no clock start left and the link not in LISTEN. -/
theorem State.intoRun_keeps {p : Spm} (awake : p.system ≠ .asleep) (clockEnds : s.PowerOk → s.spm.clock = none)
    (heard : s.PowerOk → s.blk.link ≠ .listen) (wakes : s.PowerOk → p.wakeLow = p.wakeTimer.isSome)
    (arrived : (p.hub, p.requested, p.target, p.clock) = (.run, none, none, s.spm.clock)) : s.Keeps { s with spm := p } := by
  refine .ofPower rfl fun ok => ?_
  simp only [Prod.mk.injEq] at arrived
  obtain ⟨hub, requested, target, clock⟩ := arrived
  refine ⟨?_, ?_, ?_, ?_, ?_, ?_, ?_, wakes ok⟩
  · simp [hub, awake]
  · simp [requested, awake]
  · simp [target, awake]
  · simp [clock, clockEnds ok]
  · exact fun listens => absurd listens (heard ok)
  · simp [hub]
  · simp [hub]

theorem State.intoWaking_keeps (clockEnds : s.PowerOk → s.spm.clock = none) (heard : s.PowerOk → s.blk.link ≠ .listen) :
    s.Keeps s.intoWaking :=
  s.intoRun_keeps (by simp) clockEnds heard (fun _ => rfl) rfl

theorem State.intoAwake_keeps (clockEnds : s.PowerOk → s.spm.clock = none) (heard : s.PowerOk → s.blk.link ≠ .listen) :
    s.Keeps s.intoAwake :=
  s.intoRun_keeps (by simp) clockEnds heard (fun ok => ok.wakeLow) rfl

theorem State.PowerOk.clock_none {s : State} (ok : s.PowerOk) (hub : s.spm.hub ≠ .deep) : s.spm.clock = none := by
  cases clock : s.spm.clock with
  | none => rfl
  | some c => exact absurd (ok.clock (by simp [clock])) hub

theorem State.PowerOk.not_listen {s : State} (ok : s.PowerOk) (hub : s.spm.hub ≠ .deep) : s.blk.link ≠ .listen :=
  fun listens => hub (ok.listen listens)

theorem State.toWaking_keeps (hub : s.PowerOk → s.spm.hub ≠ .deep) : s.Keeps s.toWaking :=
  (State.judgeSleep_kept _).after ((State.wakeNotice_keeps _).after
    (s.intoWaking_keeps (fun ok => ok.clock_none (hub ok)) fun ok => ok.not_listen (hub ok)))

theorem State.toAwake_keeps (hub : s.PowerOk → s.spm.hub ≠ .deep) : s.Keeps s.toAwake :=
  (State.judgeSleep_kept _).after
    (s.intoAwake_keeps (fun ok => ok.clock_none (hub ok)) fun ok => ok.not_listen (hub ok))

theorem State.wakeSource_keeps (w : WakeSource) : s.Keeps (s.wakeSource w) := by
  have joined : s.Keeps { s with spm := s.spm.join w } := s.spm_keeps rfl
  unfold State.wakeSource
  dsimp only
  split
  · exact .refl s
  · exact .refl s
  · split
    · split
      · exact (State.startClock_keeps _).after joined
      · exact s.startClock_keeps
    · rename_i awakes
      split
      · refine (State.toWaking_keeps _ fun _ => ?_).after joined
        exact awakes
      · exact .refl s
  · split
    · exact (State.wakeNotice_keeps _).after joined
    · exact .refl s

theorem State.formTarget_keeps : s.Keeps s.formTarget := by
  unfold State.formTarget
  split
  · rename_i asleep
    refine .ofPower rfl fun ok => ⟨ok.1, ok.2, ?_, ok.4, ok.5, ok.6, ok.7, ok.8⟩
    dsimp only
    split <;> simp [asleep]
  · exact .refl s

theorem State.spmPosture_keeps : s.Keeps s.spmPosture :=
  (State.leaveDeep_keeps _).after ((State.judgeSleep_kept _).after ((State.formTarget_keeps _).after (s.activity_keeps true)))

theorem State.policySwapped_keeps : s.Keeps s.policySwapped :=
  (State.leaveDeep_keeps _).after ((State.judgeSleep_kept _).after ((State.formTarget_keeps _).after
    ((State.setPower_keeps _ _).after (s.spm_keeps rfl))))

/-! ### The latch unit -/

theorem State.detachNotice_keeps (o : DetachOutcome) (src : Option ReleaseSource) (before : DetachState) :
    s.Keeps (s.detachNotice o src before) :=
  (State.activity_keeps _ false).after (s.notice_keeps _)

theorem State.toReleasing_keeps (src : ReleaseSource) : s.Keeps (s.toReleasing src) := by
  have told := (State.detachNotice_keeps _ .releasing (some src) s.dlu.state).after
    (.same rfl : s.Keeps { s with dlu.state := .releasing, dlu.timedOut := false, dlu.source := some src, dlu.requestTimer := none })
  exact (State.leaveDeep_keeps _).after ((told.trans (State.setLatchClaim_keeps _ s.policy.latchCurrent)).trans (.same rfl))

theorem State.endPulse_keeps : s.Keeps s.endPulse := (State.setLatchClaim_keeps _ 0).after (.same rfl)

theorem State.abortRequest_keeps : s.Keeps s.abortRequest := (State.detachNotice_keeps _ _ _ _).after (.same rfl)

theorem State.dluPosture_keeps : s.Keeps s.dluPosture := by
  unfold State.dluPosture
  split
  · split
    · exact s.abortRequest_keeps
    · exact (State.detachNotice_keeps _ _ _ _).after (s.endPulse_keeps.trans (.same rfl))
    · exact .refl s
  · exact .refl s

theorem State.buttonPressed_keeps : s.Keeps s.buttonPressed := by
  unfold State.buttonPressed
  dsimp only
  repeat' split
  · exact .refl s
  · exact (State.detachNotice_keeps _ _ _ _).after (.same rfl)
  · exact (State.detachNotice_keeps _ _ _ _).after (.same rfl)
  · exact .same rfl

theorem State.attach_keeps (identified : Bool) : s.Keeps (s.attach identified) := by
  unfold State.attach
  dsimp only
  refine (State.wakeSource_keeps _ .baseAttach).after ?_
  have latched : s.Keeps { s with dlu.state := .latched } := .same rfl
  have sensed : s.Keeps (if s.pins.lsns then { s with dlu.state := .latched }
      else ({ s with dlu.state := .latched } : State).event .latchSense) := by
    split
    · exact latched
    · exact (State.event_keeps _ _).after latched
  split
  · exact (State.detachNotice_keeps _ _ _ _).after sensed
  · exact sensed

theorem State.detached_keeps : s.Keeps s.detached :=
  (State.wakeSource_keeps _ _).after ((State.detachNotice_keeps _ _ _ _).after ((State.setLatchClaim_keeps _ 0).after (.same rfl)))

/-! ### A change of posture -/

/-- R51: what a change of posture brings once the record is set. -/
theorem State.changePosture_after {u : State} {p : Posture} {row : Option Nat} {permission : Bool} (cause : PostureCause)
    (recorded : u.Keeps { s with pae.record := ⟨p, row, permission, s.ticks⟩ }) : u.Keeps (s.changePosture p row permission cause) :=
  (State.dluPosture_keeps _).after ((State.spmPosture_keeps _).after ((State.notice_keeps _ _).after recorded))

/-- The posture record alone changes. -/
theorem State.record_keeps {r : PostureRecord}
    (posture : s.ImagesOk → s.QuietAbsence → s.PostureOk → ({ s with pae.record := r } : State).PostureOk) :
    s.Keeps { s with pae.record := r } :=
  .ofMain ⟨rfl, rfl, rfl⟩ (fun ok => ok.congr rfl) (fun _ ok => ok.congr rfl rfl) (fun _ _ ok => ok.congr rfl rfl rfl)
    (fun ok => ok.congr rfl rfl rfl rfl) (fun ok => ok.congr rfl) posture

/-- A base is present before and after, and the posture is not DETACHED. -/
theorem State.changePosture_keeps {p : Posture} (row : Option Nat) (permission : Bool) (cause : PostureCause)
    (present : s.blk.link ≠ .absent) (other : s.ImagesOk → p ≠ .detached) : s.Keeps (s.changePosture p row permission cause) :=
  s.changePosture_after cause
    (s.record_keeps fun images _ _ => ⟨iff_of_false (other images) present⟩)

end

/-! ### What a validated image says -/

theorem forall₂_getD {row : Row} {fields : List FieldSpec} (admitted : List.Forall₂ (fun n (f : FieldSpec) => f.admits n = true) row fields)
    {i : Nat} {f : FieldSpec} (field : fields[i]? = some f) : f.admits (row.getD i 0) = true := by
  induction admitted generalizing i with
  | nil => simp at field
  | cons first _ ih =>
    cases i with
    | zero =>
      obtain rfl := Option.some.inj field
      exact first
    | succ i => exact ih field

/-- A row that passes the check has each of its fields in its range. -/
theorem rowOk_field {k : TableId} {img : Image} {r : Nat} (ok : rowOk k img r = true) {i w lo hi : Nat}
    (at' : (fieldsOf k r)[i]? = some (field w lo hi)) : lo ≤ img.cell r i ∧ img.cell r i ≤ hi := by
  rw [rowOk, Bool.and_eq_true, fieldsOk_iff] at ok
  exact (field_admits_iff w lo hi _).1 (forall₂_getD ok.1 at')

theorem validImage_rowOk {k : TableId} {img : Image} (valid : validImage k img = true) {r : Nat} (first : k.firstRow ≤ r)
    (last : r ≤ lastChecked k img) : rowOk k img r = true :=
  firstBadRow_eq_none (beq_iff_eq.1 valid) r (mem_checkedRows.2 ⟨first, last⟩)

theorem validImage_rowCount {img : Image} (valid : validImage .posture img = true) : img.cell 0 0 ≤ 12 :=
  (rowOk_field (i := 0) (validImage_rowOk valid (r := 0) (Nat.zero_le _) (Nat.zero_le _)) rfl).2

/-- R39: no posture row names DETACHED. -/
theorem State.ImagesOk.postRow_posture {s : State} (ok : s.ImagesOk) {r : Nat} (first : 1 ≤ r) (last : r ≤ s.post.rowCount) :
    (s.postRow r).posture ≠ .detached := by
  have valid : validImage .posture s.tables.posture.active = true := ok.active .posture
  have checked : r ≤ lastChecked .posture s.tables.posture.active := le_min last (last.trans (validImage_rowCount valid))
  obtain ⟨low, high⟩ := rowOk_field (i := 0) (w := 1) (lo := 2) (hi := 7) (validImage_rowOk valid (Nat.zero_le r) checked)
    (by rw [fieldsOf_row _ first]; rfl)
  change Posture.ofCode (s.tables.posture.active.cell r 0) ≠ .detached
  generalize s.tables.posture.active.cell r 0 = code at low high
  interval_cases code <;> simp [Posture.ofCode]

/-- R81: the slot count. -/
theorem State.ImagesOk.slotCount_le {s : State} (ok : s.ImagesOk) : s.sched.slotCount ≤ 12 :=
  (rowOk_field (i := 0) (validImage_rowOk (ok.active .schedule) (r := 0) (Nat.zero_le _) (Nat.zero_le _)) rfl).2

/-- R82: the function and the max owed of a slot within the slot count. -/
theorem State.ImagesOk.slot {s : State} (ok : s.ImagesOk) {i : Nat} (within : i < s.sched.slotCount) :
    1 ≤ (s.slot i).fn ∧ (s.slot i).fn ≤ 5 ∧ 1 ≤ (s.slot i).maxOwed := by
  have checked : i + 1 ≤ lastChecked .schedule s.tables.schedule.active := le_min within (Nat.le_trans within ok.slotCount_le)
  have row := validImage_rowOk (ok.active .schedule) (Nat.zero_le _) checked
  have fields := fieldsOf_row .schedule (Nat.le_add_left 1 i)
  have fn := rowOk_field (i := 0) (w := 1) (lo := 1) (hi := 5) row (by rw [fields]; rfl)
  have owed := rowOk_field (i := 4) (w := 1) (lo := 1) (hi := 8) row (by rw [fields]; rfl)
  exact ⟨fn.1, fn.2, owed.1⟩

end Sys2Proof.Machine
end

section
/-!
PROOFS. The posture and angle engine, the converter and the router keep every invariant of the whole state (`State.Keeps`).
-/

namespace Sys2Proof.Machine

/-! ### Ranges of samples and angles -/

theorem clampAxes_ok (a : Axes) : axesOk (clampAxes a) := by
  unfold axesOk axisOk clampAxes clampInt
  simp only
  omega

theorem filterAxis_ok {k : Nat} {f x : Int} (state : axisOk f) (sample : axisOk x) : axisOk (filterAxis k f x) := by
  obtain ⟨stateLow, stateHigh⟩ := state
  obtain ⟨sampleLow, sampleHigh⟩ := sample
  rcases le_or_gt f x with above | below
  · obtain ⟨low, high, _⟩ := filterAxis_rises (k := k) above
    exact ⟨stateLow.trans low, high.trans sampleHigh⟩
  · obtain ⟨low, high⟩ := filterAxis_falls (k := k) below
    exact ⟨sampleLow.trans low, high.le.trans stateHigh⟩

theorem filterStep_ok {k : Nat} {isYoung : Bool} {f : Option Axes} {sample : Axes} (state : ∀ a, f = some a → axesOk a)
    (ok : axesOk sample) : axesOk (filterStep k isYoung f sample) := by
  obtain ⟨x, y, z⟩ := ok
  unfold filterStep
  split
  · rename_i g
    obtain ⟨gx, gy, gz⟩ := state g rfl
    split
    · exact ⟨filterAxis_ok gx x, filterAxis_ok gy y, filterAxis_ok gz z⟩
    · exact ⟨x, y, z⟩
  · exact ⟨x, y, z⟩

theorem arctangent_lt {u v : Int} {a : Nat} (angle : arctangent u v = some a) : a < 360 := by
  have small := octant_le u v
  rcases lt_trichotomy u 0 with neg | zero | pos
  · rcases lt_or_ge v 0 with below | above
    · rw [arctangent_third neg.le below] at angle
      obtain rfl := Option.some.inj angle
      split <;> omega
    · rw [arctangent_fourth neg above] at angle
      obtain rfl := Option.some.inj angle
      split
      · omega
      · split <;> omega
  · rcases lt_trichotomy v 0 with below | none | above
    · rw [arctangent_third zero.le below] at angle
      obtain rfl := Option.some.inj angle
      split <;> omega
    · rw [arctangent_degenerate zero none] at angle
      cases angle
    · rw [arctangent_first zero.ge above] at angle
      obtain rfl := Option.some.inj angle
      split <;> omega
  · rcases lt_or_ge 0 v with above | below
    · rw [arctangent_first pos.le above] at angle
      obtain rfl := Option.some.inj angle
      split <;> omega
    · rw [arctangent_second pos below] at angle
      obtain rfl := Option.some.inj angle
      split <;> omega

theorem bind_arctangent_lt {f : Option Axes} {u v : Axes → Int} {x : Nat} (angle : (f.bind fun a => arctangent (u a) (v a)) = some x) :
    x < 360 := by
  cases f with
  | none => cases angle
  | some a => exact arctangent_lt angle

theorem olderAge_le {age : Option Nat} {n : Nat} (older : olderAge age = some n) : n ≤ 255 := by
  obtain ⟨m, _, rfl⟩ := Option.map_eq_some_iff.1 older
  exact min_le_right _ _

/-! ### An evaluation -/

section
variable (s : State)

theorem State.baseSample_keeps (axes : Axes) : s.Keeps (s.baseSample axes) :=
  .ofAngles rfl fun ok => { ok with
    base := fun a ha => by
      obtain rfl := Option.some.inj ha
      exact filterStep_ok ok.base (clampAxes_ok axes)
    baseAge := fun n hn => by
      obtain rfl := Option.some.inj hn
      exact Nat.zero_le _ }

theorem State.lidSample_keeps {axes : Axes} (limit : Nat) (range : axesOk axes) : s.Keeps (s.lidSample axes limit) :=
  .ofAngles rfl fun ok => { ok with
    lid := fun a ha => by
      obtain rfl := Option.some.inj ha
      exact filterStep_ok ok.lid range
    lidAge := fun n hn => by
      obtain rfl := Option.some.inj hn
      exact Nat.zero_le _ }

theorem State.directions_keeps : s.Keeps s.directions :=
  .ofAngles rfl fun ok => { ok with
    phiL := fun _ hx => bind_arctangent_lt hx
    psi := fun _ hx => bind_arctangent_lt hx }

/-- What `State.AnglesOk` says of the hinge record alone (R29 to R31). -/
structure Hinge.Ok (h : Hinge) : Prop where
  theta : ∀ x, h.theta = some x → x < 360
  phiB : ∀ x, h.phiB = some x → x < 360
  thetaHeld : h.theta = none ↔ h.status = .noAngle
  phiBHeld : h.phiB = none ↔ h.status = .noAngle

theorem State.AnglesOk.hinge {s : State} (ok : s.AnglesOk) : s.pae.hinge.Ok := ⟨ok.theta, ok.phiB, ok.thetaHeld, ok.phiBHeld⟩

theorem Hinge.Ok.empty : Hinge.empty.Ok := by
  constructor <;> simp [Hinge.empty]

theorem Hinge.Ok.hold {h : Hinge} (ok : h.Ok) : h.hold.Ok := by
  unfold Hinge.hold
  split
  · rename_i fresh
    have thetaHeld := ok.thetaHeld
    have phiBHeld := ok.phiBHeld
    rw [fresh] at thetaHeld phiBHeld
    exact ⟨ok.theta, ok.phiB, by simpa using thetaHeld, by simpa using phiBHeld⟩
  · exact ok

theorem State.hingeStep_keeps : s.Keeps s.hingeStep := by
  have record : ∀ h : Hinge, (s.AnglesOk → h.Ok) → s.Keeps { s with pae.hinge := h } := fun h ok =>
    .ofAngles rfl fun angles =>
      have k := ok angles
      { angles with theta := k.theta, phiB := k.phiB, thetaHeld := k.thetaHeld, phiBHeld := k.phiBHeld }
  unfold State.hingeStep
  dsimp only
  refine record _ fun ok => ?_
  split
  · rename_i b l phiB phiL
    refine ⟨fun x hx => ?_, fun x hx => ?_, by simp, by simp⟩
    · obtain rfl := Option.some.inj hx
      exact Nat.mod_lt _ (by decide)
    · obtain rfl := Option.some.inj hx
      exact bind_arctangent_lt phiB
  · split
    · exact .empty
    · exact ok.hinge.hold

theorem State.ageStep_keeps : s.Keeps s.ageStep :=
  .ofAngles rfl fun ok => { ok with
    lidAge := fun _ hn => olderAge_le hn
    baseAge := fun _ hn => olderAge_le hn
    evaluatedLidAge := ok.lidAge
    evaluatedBaseAge := ok.baseAge }

theorem State.adopt_keeps {p : Posture} (row : Option Nat) (cause : PostureCause) (present : s.blk.link ≠ .absent)
    (other : s.ImagesOk → p ≠ .detached) : s.Keeps (s.adopt p row cause) := by
  unfold State.adopt
  dsimp only
  split
  · exact .same rfl
  · refine (State.changePosture_keeps _ row _ cause ?_ ?_).after (.same rfl)
    · exact present
    · exact fun images => other ⟨images.1, images.2, images.3⟩

theorem State.propose_keeps {p : Posture} (row : Option Nat) (cause : PostureCause) (present : s.blk.link ≠ .absent)
    (other : s.ImagesOk → p ≠ .detached) : s.Keeps (s.propose p row cause) := by
  unfold State.propose
  dsimp only
  split
  · exact s.adopt_keeps row cause present other
  · exact .same rfl

/-- R44 to R48: no proposal is made in ABSENT, and none is DETACHED. -/
theorem State.proposal_spec {p : Posture} {row : Option Nat} {cause : PostureCause} (proposed : s.proposal = some (p, row, cause)) :
    s.blk.link ≠ .absent ∧ (s.ImagesOk → p ≠ .detached) := by
  unfold State.proposal at proposed
  split at proposed
  · cases proposed
  · rename_i present
    refine ⟨present, fun images => ?_⟩
    split at proposed
    · rename_i q hall
      split at proposed
      · cases proposed
      · obtain ⟨rfl, -, -⟩ := proposed
        unfold hallProposal at hall
        split at hall <;> cases hall <;> decide
    · split at proposed
      · rename_i theta phiB _ _ _
        unfold State.proposeByAngle at proposed
        split at proposed
        · split at proposed
          · cases proposed
          · cases proposed
          · cases proposed
          · cases proposed
            decide
        · split at proposed
          · cases proposed
          · obtain ⟨r, found, same⟩ := Option.map_eq_some_iff.1 proposed
            cases same
            have member := List.mem_of_find?_eq_some found
            rw [List.range_eq_range', List.drop_range', List.mem_range'_1] at member
            exact images.postRow_posture (by omega) (by omega)
      · cases proposed

theorem State.classify_keeps : s.Keeps s.classify := by
  unfold State.classify
  split
  · rename_i p row cause proposed
    obtain ⟨present, other⟩ := s.proposal_spec proposed
    exact s.propose_keeps row cause present other
  · exact .same rfl

theorem State.turn_keeps (r : Rotation) (cause : RotationCause) : s.Keeps (s.turn r cause) := (State.notice_keeps _ _).after (.same rfl)

theorem State.lockRotation_keeps (r : Rotation) : s.Keeps (s.lockRotation r) := by
  unfold State.lockRotation
  dsimp only
  split
  · exact .same rfl
  · exact (State.turn_keeps _ _ _).after (.same rfl)

theorem State.freeRotation_keeps : s.Keeps s.freeRotation := by
  unfold State.freeRotation
  dsimp only
  split
  · exact .same rfl
  · split
    · exact (State.turn_keeps _ _ _).after (.same rfl)
    · exact .same rfl

theorem State.rotate_keeps : s.Keeps s.rotate := by
  unfold State.rotate
  split
  · exact .same rfl
  · exact s.lockRotation_keeps _
  · exact s.lockRotation_keeps _
  · exact s.freeRotation_keeps

theorem State.angleStep_keeps : s.Keeps s.angleStep := by
  unfold State.angleStep
  split
  · exact (State.notice_keeps _ _).after (.same rfl)
  · exact .refl s

theorem State.swapPosture_keeps (waits : s.tables.posture.awaiting = true) : s.Keeps s.swapPosture :=
  (s.swapTable_keeps (k := .posture) (by decide) waits).trans (.same rfl)

theorem State.swappedIn_keeps : s.Keeps s.swappedIn := by
  unfold State.swappedIn
  split
  · exact s.swapPosture_keeps (by assumption)
  · exact .refl s

theorem State.lidTaken_keeps {sample : Option Axes} (range : ∀ a, sample = some a → axesOk a) : s.Keeps (s.lidTaken sample) := by
  cases sample with
  | none => exact s.swappedIn_keeps
  | some a => exact (State.lidSample_keeps _ _ (range a rfl)).after s.swappedIn_keeps

theorem State.judged_keeps : s.Keeps s.judged :=
  (State.angleStep_keeps _).after ((State.rotate_keeps _).after ((State.classify_keeps _).after
    ((State.hingeStep_keeps _).after s.directions_keeps)))

theorem State.evaluate_keeps {sample : Option Axes} (range : ∀ a, sample = some a → axesOk a) : s.Keeps (s.evaluate sample) := by
  rw [s.evaluate_eq]
  exact (State.ageStep_keeps _).after ((State.judged_keeps _).after (s.lidTaken_keeps range))

theorem State.lidCompleted_keeps (axes : Axes) : s.Keeps (s.lidCompleted axes) := by
  have clamped : ∀ a, some (clampAxes axes) = some a → axesOk a := by
    intro a same
    cases same
    exact clampAxes_ok axes
  have taken : s.Keeps { s with pae.lidRead := none, pae.lidFailing := false, pae.lastLid := some (clampAxes axes) } :=
    .ofAngles rfl fun ok => { ok with lastLid := clamped }
  exact (State.evaluate_keeps _ clamped).after taken

theorem State.lidFailed_keeps : s.Keeps s.lidFailed := by
  rw [s.lidFailed_eq]
  refine (State.evaluate_keeps _ fun _ h => by cases h).after ?_
  unfold State.lidCounted
  refine (State.bump_keeps _ _).after ?_
  split
  · exact .same rfl
  · exact (State.event_keeps _ _).after (.same rfl)

theorem State.lidEnds_keeps (ending : LidEnding) : s.Keeps (s.lidEnds ending) := by
  cases ending with
  | sample axes => exact s.lidCompleted_keeps axes
  | noAcknowledge => exact s.lidFailed_keeps
  | notReady => exact s.lidFailed_keeps

theorem State.takeLidEnding_keeps (ending : LidEnding) : s.Keeps (s.takeLidEnding ending) := by
  unfold State.takeLidEnding
  split
  · split
    · exact s.lidEnds_keeps ending
    · exact .refl s
  · exact .refl s

theorem State.takeLidLimit_keeps : s.Keeps s.takeLidLimit := by
  unfold State.takeLidLimit
  split
  · split
    · exact s.lidFailed_keeps
    · exact .refl s
  · exact .refl s

/-! ### The converter -/

theorem State.CountersOk.penless {s t : State} (ok : s.CountersOk) (counters : t.counters = s.counters) (pen : t.pch.pen = none) :
    t.CountersOk where
  counters k := counters ▸ ok.counters k
  check p hp := by
    rw [pen] at hp
    cases hp
  violation p hp := by
    rw [pen] at hp
    cases hp

theorem State.penInserted_keeps : s.Keeps s.penInserted := by
  have fresh : s.Keeps { s with pch.pen := some .fresh } :=
    .ofCounters rfl fun ok =>
        { counters := ok.counters
          check := fun p hp => by
            obtain rfl := Option.some.inj hp
            exact Nat.zero_le _
          violation := fun p hp => by
            obtain rfl := Option.some.inj hp
            exact Nat.zero_le _ }
  have told := (State.leaveDeep_keeps _).after ((State.judgeSleep_kept _).after ((State.activity_keeps _ false).after
    ((State.wakeSource_keeps _ .penInsert).after ((State.penNotice_keeps _).after ((State.handLimit_keeps _).after fresh)))))
  unfold State.penInserted
  dsimp only
  split
  · exact (State.waitFromOff_keeps _).after told
  · exact told

theorem State.penRemoved_keeps : s.Keeps s.penRemoved := by
  have off := s.toCharger_keeps .off
  have removed : s.Keeps { s.toCharger .off with
      pch := { (s.toCharger .off).pch.stopTimers with
        faultReason := none, faultCode := none, attempts := 0, overcurrent := 0, timeouts := 0, pen := none }
      bcd.last := none } :=
    off.trans (.ofCounters rfl fun ok => ok.penless rfl rfl)
  exact (State.leaveDeep_keeps _).after ((State.judgeSleep_kept _).after ((State.activity_keeps _ false).after
    ((State.wakeSource_keeps _ .penRemove).after ((State.penNotice_keeps _).after ((State.handLimit_keeps _).after removed)))))

theorem State.inform_keeps (ch : Nat) : s.Keeps (s.inform ch) := by
  unfold State.inform
  dsimp only
  split
  · exact s.setPauses_keeps _
  · exact s.setPauses_keeps _
  · unfold State.hallToSpm
    dsimp only
    split
    · exact (State.wakeSource_keeps _ _).after (.same rfl)
    · exact .same rfl
  · exact .same rfl
  · split
    · exact s.penInserted_keeps
    · exact s.penRemoved_keeps
  · exact .refl s

end

theorem State.informAll_keeps : ∀ (chs : List Nat) (s : State), s.Keeps (s.informAll chs)
  | [], s => State.Keeps.refl s
  | ch :: chs, s => (State.informAll_keeps chs (s.inform ch)).after (s.inform_keeps ch)

theorem State.updateWindows_fold_keeps : ∀ (readings : List (Nat × Nat)) (s : State),
    s.Keeps (readings.foldl (fun u p => u.updateWindow p.1 p.2) s)
  | [], s => State.Keeps.refl s
  | (ch, reading) :: rest, s => by
    refine (State.updateWindows_fold_keeps rest (s.updateWindow ch reading)).after ?_
    unfold State.updateWindow
    dsimp only
    split
    · exact State.Keeps.refl s
    · exact .same rfl

section
variable (s : State)

theorem State.updateWindows_keeps (readings : List (Nat × Nat)) : s.Keeps (s.updateWindows readings) :=
  (State.informAll_keeps _ _).after (State.updateWindows_fold_keeps readings s)

theorem State.judgeVref_keeps (reading : Option Nat) : s.Keeps (s.judgeVref reading) := by
  unfold State.judgeVref
  dsimp only
  repeat' split
  · exact .refl s
  · exact .refl s
  · exact .refl s
  · exact (State.event_keeps _ _).after (.same rfl)
  · exact .same rfl
  · exact .refl s

theorem State.startScan_keeps : s.Keeps s.startScan := by
  unfold State.startScan
  dsimp only
  repeat' split
  · exact .refl s
  · exact .same rfl
  · exact (State.requestBlanking_keeps _).after (.same rfl)
  · exact .same rfl
  · exact .same rfl

theorem State.takeS_keeps : s.Keeps s.takeS := by
  unfold State.takeS
  repeat' split
  · exact .same rfl
  · exact s.startScan_keeps
  · exact s.bump_keeps _

theorem State.serveHeld_keeps : s.Keeps s.serveHeld := by
  unfold State.serveHeld
  dsimp only
  split
  · exact .same rfl
  · exact (State.bump_keeps _ _).after (.same rfl)

theorem State.completeScan_keeps (readings : List (Nat × Nat)) : s.Keeps (s.completeScan readings) := by
  have judged := (State.judgeVref_keeps _ ((readings.find? fun p => p.1 == vref).map (·.2))).after
    (.same rfl : s.Keeps (({ s with cnv.slotS := .idle, cnv.todo := [], cnv.readings := [] } : State).storeReadings readings))
  unfold State.completeScan
  dsimp only
  generalize State.judgeVref _ _ = t at judged ⊢
  have updated : s.Keeps (if t.cnv.fault then t else t.updateWindows readings) := by
    split
    · exact judged
    · exact (t.updateWindows_keeps readings).after judged
  generalize (if t.cnv.fault then t else t.updateWindows readings) = u at updated ⊢
  split
  · exact (State.serveHeld_keeps _).after updated
  · exact updated

theorem State.releaseBlanking_keeps : s.Keeps s.releaseBlanking := s.settled_keeps _ rfl

theorem State.takeC_keeps : s.Keeps s.takeC := by
  unfold State.takeC
  repeat' split
  · exact s.bump_keeps _
  · exact s.bump_keeps _
  · exact .same rfl
  · exact s.bump_keeps _
  · exact .same rfl
  · exact .same rfl

theorem State.convert_keeps (ch : Nat) (rest : List Nat) (code : Nat) : s.Keeps (s.convert ch rest code) := by
  unfold State.convert
  dsimp only
  have released : s.Keeps (if ((s.chanRow ch).blankCoil && !s.needsBlanking rest) = true then
      ({ s with cnv.todo := rest, cnv.readings := s.cnv.readings ++ [(ch, code)] } : State).releaseBlanking
    else { s with cnv.todo := rest, cnv.readings := s.cnv.readings ++ [(ch, code)] }) := by
    split
    · exact (State.releaseBlanking_keeps _).after (.same rfl)
    · exact .same rfl
  split
  · exact (State.completeScan_keeps _ _).after released
  · exact released

theorem State.swapChannel_keeps (waits : s.tables.channel.awaiting = true) : s.Keeps s.swapChannel := by
  have swapped := s.swapTable_keeps (k := .channel) (by decide) waits
  unfold State.swapChannel
  dsimp only
  have told : s.Keeps (({ (s.swapTable .channel).settleOff with
      cnv.debounce := List.replicate Config.channels 0
      cnv.fault := (s.swapTable .channel).settleOff.cnv.fault &&
        (((s.swapTable .channel).settleOff.chanRow vref).mode != WindowMode.off) &&
        ((s.swapTable .channel).settleOff.chanRow vref).inScan } : State).informAll
        ((List.range Config.channels).filter (swapInforms s { (s.swapTable .channel).settleOff with
      cnv.debounce := List.replicate Config.channels 0
      cnv.fault := (s.swapTable .channel).settleOff.cnv.fault &&
        (((s.swapTable .channel).settleOff.chanRow vref).mode != WindowMode.off) &&
        ((s.swapTable .channel).settleOff.chanRow vref).inScan }))) :=
    (State.informAll_keeps _ _).after (swapped.trans (.same rfl))
  generalize State.informAll _ _ = t at told ⊢
  have served : s.Keeps (if t.cnv.held = some HeldTrigger.forSwap then t.serveHeld else t) := by
    split
    · exact t.serveHeld_keeps.after told
    · exact told
  generalize (if t.cnv.held = some HeldTrigger.forSwap then t.serveHeld else t) = u at served ⊢
  split
  · exact (State.takeS_keeps _).after (served.trans (.same rfl))
  · exact served

/-! ### The router -/

theorem State.deliverReport_keeps (r : Report) : s.Keeps (s.deliverReport r) := by
  unfold State.deliverReport
  split
  · exact s.baseSample_keeps _
  · exact s.setPower_keeps _
  · split
    · exact s.buttonPressed_keeps
    · exact .same rfl
  · exact .refl s

theorem State.applyAction_keeps (a : RouteAction) (r : Report) : s.Keeps (s.applyAction a r) := by
  cases a with
  | drop => exact .refl s
  | forward =>
    change s.Keeps (s.forward r)
    unfold State.forward
    split
    · exact .ofUpq rfl fun _ ok => ok.forward (by assumption)
    · exact s.bump_keeps _
  | coalesce =>
    change s.Keeps (s.coalesce r)
    unfold State.coalesce
    split
    · exact .ofUpq rfl fun _ ok => ok.coalesce (by assumption)
    · exact s.bump_keeps _

theorem State.handOn_keeps (a : RouteAction) (r : Report) : s.Keeps (s.handOn a r) := by
  have active : s.Keeps (if a = .drop then s else s.activity false) := by
    split
    · exact .refl s
    · exact s.activity_keeps false
  unfold State.handOn
  split
  · exact (State.wakeSource_keeps _ _).after active
  · exact (State.wakeSource_keeps _ _).after active
  · exact s.wakeSource_keeps _
  · exact .refl s

theorem State.route_keeps (fn : BaseFn) (data : List Byte) : s.Keeps (s.route fn data) := by
  unfold State.route
  dsimp only
  repeat' split
  · exact .refl s
  · exact s.bump_keeps _
  · exact (State.handOn_keeps _ _ _).after ((State.applyAction_keeps _ _ _).after (s.deliverReport_keeps _))

end
end Sys2Proof.Machine
end

section
/-!
PROOFS. The scheduler and the base link keep every invariant of the whole state (`State.Keeps`).
-/

namespace Sys2Proof.Machine

/-! ### The scheduler's counts -/

theorem getD_map_range (f : Nat → Nat) (n i : Nat) : ((List.range n).map f).getD i 0 = if i < n then f i else 0 := by
  by_cases within : i < n <;> simp [within]

theorem getD_replicate_zero (n i : Nat) : (List.replicate n 0).getD i 0 = 0 := by
  by_cases within : i < n <;> simp [within]

theorem getD_set (l : List Nat) (i j n : Nat) : (l.set i n).getD j 0 = if i = j ∧ i < l.length then n else l.getD j 0 := by
  rw [List.getD_eq_getElem?_getD, List.getD_eq_getElem?_getD, List.getElem?_set]
  by_cases same : i = j
  · subst same
    by_cases within : i < l.length
    · simp [within]
    · simp [within]
  · simp [same]

section
variable {s t : State}

/-- The polls' part is new, and every invariant that reads it holds. -/
theorem State.psc_keeps {q : Psc} (polls : s.ImagesOk → s.PollsOk → ({ s with psc := q } : State).PollsOk)
    (idle : s.LinkOk → s.blk.link ≠ .running → q.writes = [] ∧ q.owed = List.replicate Config.slots 0)
    (quiet : s.PowerOk → s.spm.hub = .deep → q.writes = []) : s.Keeps { s with psc := q } :=
  .ofBase rfl polls (fun _ _ ok => { ok with owed := idle ok })
    (fun ok => { ok with quiet := fun deep => ⟨(ok.quiet deep).1, quiet ok deep⟩ }) (fun ok => ok.congr rfl) fun _ => Iff.rfl

/-- Owed counts that are new, the rest as it was. -/
theorem State.PollsOk.setOwed (ok : s.PollsOk) {q : Psc} (length : q.owed.length = s.psc.owed.length)
    (bound : ∀ i, q.owed.getD i 0 ≤ if i < s.sched.slotCount then (s.slot i).maxOwed else 0)
    (due : q.due.length = s.psc.due.length) (writes : q.writes = s.psc.writes) :
    ({ s with psc := q } : State).PollsOk where
  owedSlots := length.trans ok.owedSlots
  dueSlots := due.trans ok.dueSlots
  owed := bound
  writes := writes ▸ ok.writes
  data := writes ▸ ok.data

theorem State.capable_within {i : Nat} (capable : s.capable i = true) : s.blk.link = .running ∧ i < s.sched.slotCount := by
  unfold State.capable at capable
  simp only [Bool.and_eq_true, beq_iff_eq, decide_eq_true_eq] at capable
  exact capable.1

variable (s)

/-- One owed count of a capable slot is raised, within its bound. -/
theorem State.setOwed_keeps {i n : Nat} (capable : s.capable i = true) (bound : s.ImagesOk → n ≤ (s.slot i).maxOwed) {q : Psc}
    (owed : q.owed = s.psc.owed.set i n) (due : q.due.length = s.psc.due.length)
    (writes : q.writes = s.psc.writes) : s.Keeps { s with psc := q } := by
  obtain ⟨running, within⟩ := State.capable_within capable
  refine State.psc_keeps (fun images ok => ok.setOwed (by rw [owed, List.length_set]) (fun j => ?_) due writes)
    (fun _ other => absurd running other) (fun ok deep => writes.trans (ok.quiet deep).2)
  rw [owed, getD_set]
  split
  · rename_i same
    obtain ⟨rfl, -⟩ := same
    rw [if_pos within]
    exact bound images
  · exact ok.owed j

theorem State.attentionPoll_keeps : s.Keeps s.attentionPoll := by
  unfold State.attentionPoll
  split
  · rename_i i slot
    split
    · rename_i capable
      by_cases rises : s.owed i = 0
      · refine s.setOwed_keeps (n := max 1 (s.owed i)) capable (fun images => ?_) rfl rfl rfl
        rw [rises]
        exact (images.slot (State.capable_within capable).2).2.2
      · obtain ⟨running, within⟩ := State.capable_within capable
        refine State.psc_keeps (fun _ ok => ok.setOwed (List.length_set ..) (fun j => ?_) rfl rfl) (fun _ other => absurd running other)
          fun ok deep => (ok.quiet deep).2
        change (s.psc.owed.set i (max 1 (s.owed i))).getD j 0 ≤ _
        rw [getD_set, max_eq_right (by omega)]
        split
        · rename_i same
          rw [← same.1]
          exact ok.owed i
        · exact ok.owed j
    · exact .refl s
  · exact .refl s

theorem State.dueTime_keeps {i : Nat} (runs : s.dueRuns i = true) : s.Keeps (s.dueTime i) := by
  have capable : s.capable i = true := by
    unfold State.dueRuns at runs
    rw [Bool.and_eq_true] at runs
    exact runs.1
  unfold State.dueTime
  dsimp only
  split
  · rename_i room
    exact s.setOwed_keeps capable (fun _ => room) rfl (List.length_set ..) rfl
  · refine (State.bump_keeps _ _).after (State.psc_keeps (fun _ ok => ok.setOwed rfl ok.owed (List.length_set ..) rfl) ?_ ?_)
    · exact fun ok => ok.owed
    · exact fun ok deep => (ok.quiet deep).2

theorem State.owedInDoze_le (i : Nat) : s.owedInDoze.getD i 0 ≤ s.owed i := by
  unfold State.owedInDoze State.owed
  rw [getD_map_range]
  split
  · split
    · exact le_rfl
    · exact Nat.zero_le _
  · exact Nat.zero_le _

theorem State.owedInDoze_none (none : s.psc.owed = List.replicate Config.slots 0) : s.owedInDoze = List.replicate Config.slots 0 := by
  have zero : ∀ i ∈ List.range s.psc.owed.length, (if s.polledIn .doze i then s.psc.owed.getD i 0 else 0) = 0 := by
    intro i hi
    rw [none, List.getD_replicate _ (by simpa [none] using hi), ite_self]
  unfold State.owedInDoze
  rw [List.map_congr_left zero, List.map_const', List.length_range, none, List.length_replicate]

theorem State.owedInDoze_pollsOk {s : State} (ok : s.PollsOk) {q : Psc} (owed : q.owed = s.owedInDoze)
    (due : q.due.length = s.psc.due.length) (writes : q.writes = s.psc.writes) : ({ s with psc := q } : State).PollsOk := by
  refine ok.setOwed ?_ (fun i => ?_) due writes
  · rw [owed, State.owedInDoze, List.length_map, List.length_range]
  · rw [owed]
    exact (s.owedInDoze_le i).trans (ok.owed i)

theorem State.settlePoll_keeps (t : Txn) : s.Keeps (s.settlePoll t) := by
  unfold State.settlePoll
  split
  · refine State.psc_keeps (fun _ ok => ⟨ok.owedSlots, ok.dueSlots, ok.owed, ?_, fun w hw => ok.data w (List.mem_of_mem_tail hw)⟩) ?_ ?_
    · exact (List.length_tail ▸ Nat.sub_le _ _).trans ok.writes
    · intro ok other
      exact ⟨by rw [(ok.owed other).1]; rfl, (ok.owed other).2⟩
    · intro ok deep
      rw [(ok.quiet deep).2]
      rfl
  · split
    · rename_i i _
      refine State.psc_keeps (fun _ ok => ok.setOwed (List.length_set ..) (fun j => ?_) rfl rfl) ?_ fun ok deep => (ok.quiet deep).2
      · change (s.psc.owed.set i (s.owed i - 1)).getD j 0 ≤ _
        rw [getD_set]
        split
        · rename_i same
          rw [← same.1]
          exact (Nat.sub_le _ _).trans (ok.owed i)
        · exact ok.owed j
      · intro ok other
        obtain ⟨writes, owed⟩ := ok.owed other
        refine ⟨writes, ?_⟩
        have zero : s.owed i = 0 := by
          unfold State.owed
          rw [owed]
          exact getD_replicate_zero _ i
        change s.psc.owed.set i (s.owed i - 1) = _
        rw [zero, owed]
        exact List.set_replicate_self ..
    · exact .refl s

theorem State.swapSchedule_keeps (waits : s.tables.schedule.awaiting = true) : s.Keeps (s.swapTable .schedule).stopPolls where
  queue n ok := by
    refine Upq.Ok.reply (w := (s.swapTable .schedule).awaitingTables + (0 + n)) ?_ _
    have := s.awaitingTables_swapTable .schedule
    rw [show (s.tables.get .schedule).awaiting = true from waits, Bool.toNat_true] at this
    rwa [show (s.swapTable .schedule).awaitingTables + (0 + n) + 1 = s.awaitingTables + (0 + n) by omega]
  images ok := (ok.swapTable .schedule (ok.awaiting .schedule waits)).congr rfl
  counters ok := ok.congr rfl
  angles ok := ok.congr rfl
  polls _ ok := ⟨rfl, rfl, fun i => by
    change (List.replicate Config.slots 0).getD i 0 ≤ _
    rw [getD_replicate_zero]
    exact Nat.zero_le _, ok.writes, ok.data⟩
  link _ _ ok := { ok with owed := fun other => ⟨(ok.owed other).1, rfl⟩ }
  power ok := { ok with }
  quiet ok := ok
  posture _ _ ok := ok.congr rfl rfl

end
end Sys2Proof.Machine
end

section
/-!
PROOFS. The base link keeps every invariant of the whole state (`State.Keeps`).
-/

namespace Sys2Proof.Machine

section
variable {u s : State}

/-- The link, the polls and the latch are new after an operation, and every invariant that reads them holds. -/
theorem State.Kept.withBase (h : u.Keeps s) {b : Blk} {q : Psc} {d : Dlu}
    (present : u.QuietAbsence → (b.link = .absent ↔ s.blk.link = .absent))
    (quiet : u.QuietAbsence → b.link = .absent → b.txn = none)
    (polls : s.ImagesOk → s.PollsOk → ({ s with blk := b, psc := q, dlu := d } : State).PollsOk)
    (link : u.ImagesOk → u.PollsOk → u.LinkOk → ({ s with blk := b, psc := q, dlu := d } : State).LinkOk)
    (power : u.PowerOk → ({ s with blk := b, psc := q, dlu := d } : State).PowerOk) :
    u.Keeps { s with blk := b, psc := q, dlu := d } where
  queue := h.queue
  images ok := (h.images ok).congr rfl
  counters ok := (h.counters ok).congr rfl
  angles ok := (h.angles ok).congr rfl
  polls images ok := polls (h.images images) (h.polls images ok)
  link := link
  power := power
  quiet := quiet
  posture images absence ok := ⟨(h.posture images absence ok).detached.trans (present absence).symm⟩

/-- The link's own record changes, but neither its state nor, unless it ends, its transaction. -/
theorem State.line_keeps (s : State) {b : Blk} (link : b.link = s.blk.link) (txn : b.txn = s.blk.txn ∨ b.txn = none)
    (ok : s.ImagesOk → s.PollsOk → s.LinkOk → ({ s with blk := b } : State).LinkOk) : s.Keeps { s with blk := b } := by
  refine .ofBase rfl (fun _ h => h.congr rfl rfl) ok (fun h => ?_) (fun h absent => ?_) (fun _ => link ▸ Iff.rfl)
  · exact { h with
      listen := fun listens => h.listen (link ▸ listens)
      running := fun deep => link ▸ h.running deep
      quiet := fun deep => ⟨txn.elim (fun same => same.trans (h.quiet deep).1) id, (h.quiet deep).2⟩ }
  · exact txn.elim (fun same => same.trans (h (link ▸ absent))) id

/-! ### The entry to RUNNING -/

theorem State.startPolls_pollsOk (s : State) (images : s.ImagesOk) (ok : s.PollsOk) : s.startPolls.PollsOk where
  owedSlots := by simp [State.startPolls]
  dueSlots := by simp [State.startPolls]
  owed i := by
    change ((List.range Config.slots).map fun i => if s.capable i && s.polledIn s.spm.hub i then 1 else 0).getD i 0 ≤
      if i < s.sched.slotCount then (s.slot i).maxOwed else 0
    rw [getD_map_range]
    split
    · split
      · rename_i polled
        rw [Bool.and_eq_true] at polled
        have within := (State.capable_within polled.1).2
        rw [if_pos within]
        exact (images.slot within).2.2
      · exact Nat.zero_le _
    · exact Nat.zero_le _
  writes := ok.writes
  data := ok.data

/-- R75, R85: the link in RUNNING with the polls it owes, before a pending attention and an absent latch unit are seen to. -/
def State.intoRunning (s : State) : State :=
  ({ s with
    blk.link := .running, blk.consecutive := 0, blk.retryTimer := none, blk.retryDue := false
    blk.attention := false } : State).startPolls

theorem State.enterRunning_after (identified : Bool) (entered : u.Keeps s.intoRunning) : u.Keeps (s.enterRunning identified) := by
  have asked : u.Keeps (if s.blk.attention then s.intoRunning.attentionPoll else s.intoRunning) := by
    split
    · exact (State.attentionPoll_keeps _).after entered
    · exact entered
  change u.Keeps (if s.dlu.state = .absent then
    (if s.blk.attention then s.intoRunning.attentionPoll else s.intoRunning).attach identified
    else if s.blk.attention then s.intoRunning.attentionPoll else s.intoRunning)
  generalize (if s.blk.attention then s.intoRunning.attentionPoll else s.intoRunning) = t at asked ⊢
  split
  · exact (State.attach_keeps _ _).after asked
  · exact asked

theorem State.intoRunning_pollsOk (images : s.ImagesOk) (ok : s.PollsOk) : s.intoRunning.PollsOk :=
  State.startPolls_pollsOk _ ⟨images.1, images.2, images.3⟩ ⟨ok.1, ok.2, ok.3, ok.4, ok.5⟩

theorem State.intoRunning_linkOk (record : s.blk.record.isSome = true) (txn : s.blk.txn = none) : s.intoRunning.LinkOk where
  record _ := record
  noRecord h := by rcases h with h | h | h <;> cases h
  rate h := absurd rfl h
  retry h := by rcases h with h | h <;> cases h
  owed h := absurd rfl h
  txn t h := by
    have := txn.symm.trans h
    cases this

/-- R75: an ID read that succeeds. -/
theorem State.identified_keeps {t : Txn} (flight : s.blk.txn = some t) (data : List Byte) :
    s.Keeps (({ s with blk.txn := none } : State).identified data) := by
  refine State.enterRunning_after _ ?_
  refine (State.Keeps.refl s).withBase (d := s.dlu) (fun quiet => ?_) (fun _ absent => by cases absent) ?_ ?_ ?_
  · refine iff_of_false (fun h => by cases h) fun absent => ?_
    have := flight.symm.trans (quiet absent)
    cases this
  · intro images ok
    exact State.intoRunning_pollsOk (s := { s with blk := { s.blk with
      txn := none, record := some (readRecord data), rate := (readRecord data).maxRate } })
      ⟨images.1, images.2, images.3⟩ ⟨ok.1, ok.2, ok.3, ok.4, ok.5⟩
  · intro _ _ _
    exact State.intoRunning_linkOk (s := { s with blk := { s.blk with
      txn := none, record := some (readRecord data), rate := (readRecord data).maxRate } }) rfl rfl
  · intro ok
    have awake : s.spm.hub ≠ .deep := fun deep => by
      have := flight.symm.trans (ok.quiet deep).1
      cases this
    exact { ok with
      listen := fun h => by cases h
      running := fun deep => absurd deep awake
      quiet := fun deep => absurd deep awake }

/-! ### The entry to FAULT -/

/-- R75, R92: the link in FAULT, and nothing owed or waiting, before it is told. -/
def State.intoFault (s : State) : State :=
  { s with
    blk := { s.blk with link := .fault, rate := .k250, consecutive := 0, retryTimer := some 0, retryDue := false }
    psc := ⟨List.replicate Config.slots 0, List.replicate Config.slots 0, []⟩
    dlu := { s.dlu with button := .unknown, holdTimer := none } }

theorem State.faulted_eq (s : State) :
    s.faulted = (s.intoFault.event .baseFault).bumpBy .writeDiscard s.psc.writes.length := by
  rw [State.bumpBy_eq]
  rfl

theorem State.PollsOk.none {t : State} (owed : t.psc.owed = List.replicate Config.slots 0)
    (due : t.psc.due = List.replicate Config.slots 0) (writes : t.psc.writes = []) : t.PollsOk where
  owedSlots := by rw [owed, List.length_replicate]
  dueSlots := by rw [due, List.length_replicate]
  owed i := by
    unfold State.owed
    rw [owed, getD_replicate_zero]
    exact Nat.zero_le _
  writes := by
    rw [writes]
    exact Nat.zero_le _
  data w hw := by
    rw [writes] at hw
    exact absurd hw List.not_mem_nil

/-- R75: an entry to FAULT after an operation that has left no transaction in flight and the base present. -/
theorem State.enterFault_after (h : u.Keeps s) (ends : u.LinkOk → s.blk.txn = none)
    (present : u.QuietAbsence → s.blk.link ≠ .absent) : u.Keeps s.enterFault := by
  have faulty : u.Keeps s.intoFault := by
    refine h.withBase (fun quiet => iff_of_false (fun h => by cases h) (present quiet)) (fun _ absent => by cases absent)
      (fun _ _ => .none rfl rfl rfl) (fun _ _ ok => ?_) fun ok => ?_
    · refine ⟨?_, ?_, fun _ _ => rfl, fun _ => rfl, fun _ => ⟨rfl, rfl⟩, fun t flight => ?_⟩
      · rintro (h | h) <;> cases h
      · rintro (h | h | h) <;> cases h
      · have := (ends ok).symm.trans flight
        cases this
    · have k := h.power ok
      exact { k with
        listen := fun h => by cases h
        running := fun _ h => by cases h
        quiet := fun deep => ⟨(k.quiet deep).1, rfl⟩ }
  have told := (State.bumpBy_keeps _ .writeDiscard s.psc.writes.length).after ((State.event_keeps _ .baseFault).after faulty)
  rw [← s.faulted_eq] at told
  rw [s.enterFault_eq]
  split
  · exact (State.abortRequest_keeps _).after told
  · exact told

/-! ### The entry to ABSENT -/

/-- R72, R92, R42: the link in ABSENT and the posture DETACHED by this record, and nothing owed or waiting, before either is told. -/
def State.intoAbsent (s : State) (r : PostureRecord) : State :=
  { s with
    blk := .initial
    psc := ⟨List.replicate Config.slots 0, List.replicate Config.slots 0, []⟩
    dlu := { s.dlu with button := .unknown, holdTimer := none }
    pae := { s.pae with hinge := .empty, baseFilter := none, baseAge := none, candidate := none, record := r } }

theorem State.intoAbsent_keeps (s : State) {r : PostureRecord} (detached : r.posture = .detached) : s.Keeps (s.intoAbsent r) where
  queue _ ok := ok
  images ok := ok.congr rfl
  counters ok := ok.congr rfl
  angles ok := { ok with
    theta := fun _ h => by cases h
    phiB := fun _ h => by cases h
    thetaHeld := by simp [State.intoAbsent, Hinge.empty]
    phiBHeld := by simp [State.intoAbsent, Hinge.empty]
    base := fun _ h => by cases h
    baseAge := fun _ h => by cases h }
  polls _ _ := .none rfl rfl rfl
  link _ _ _ := by
    refine ⟨?_, fun _ => rfl, fun _ _ => rfl, ?_, fun _ => ⟨rfl, rfl⟩, fun t flight => by cases flight⟩
    · rintro (h | h) <;> cases h
    · rintro (h | h) <;> cases h
  power ok := { ok with
    listen := fun h => by cases h
    running := fun _ h => by cases h
    quiet := fun _ => ⟨rfl, rfl⟩ }
  quiet _ _ := rfl
  posture _ _ _ := ⟨iff_of_true detached rfl⟩

/-- R72: the posture engine without a base, after a flush that is counted or not. -/
theorem State.paeAbsent_after {f : State}
    (flushed : ∀ r : PostureRecord, r.posture = .detached → s.Keeps { f with pae := { f.pae with
      hinge := .empty, baseFilter := none, baseAge := none, candidate := none, record := r } }) : s.Keeps f.paeAbsent := by
  rcases f.paeAbsent_cases with ⟨detached, e⟩ | ⟨_, e⟩ <;> rw [e]
  · exact flushed { f.pae.record with row := none, permission := false } detached
  · exact State.changePosture_after _ .link (flushed _ rfl)

theorem State.flushed_paeAbsent_keeps (s : State) (counted : Bool) :
    s.Keeps (({ s with blk := .initial } : State).leaveRunning.flushWrites counted).paeAbsent := by
  refine State.paeAbsent_after fun r detached => ?_
  cases counted with
  | false => exact s.intoAbsent_keeps detached
  | true =>
    have told := (State.bumpBy_keeps _ .writeDiscard s.psc.writes.length).after (s.intoAbsent_keeps detached)
    have eq : { s.linkLost with pae := (s.intoAbsent r).pae } = (s.intoAbsent r).bumpBy .writeDiscard s.psc.writes.length := by
      rw [State.linkLost_eq, State.bumpBy_eq, State.bumpBy_eq]
      rfl
    rw [← eq] at told
    refine cast (congrArg (fun p => s.Keeps { s.linkLost with pae := p }) ?_) told
    change _ = { s.linkLost.pae with hinge := .empty, baseFilter := none, baseAge := none, candidate := none, record := r }
    simp [State.intoAbsent]

theorem State.enterAbsent_keeps (s : State) (counted : Bool) : s.Keeps (s.enterAbsent counted) := by
  have without := s.flushed_paeAbsent_keeps counted
  unfold State.enterAbsent
  dsimp only
  refine (State.setPower_keeps _ none).after ?_
  split
  · exact without
  · exact (State.detached_keeps _).after without

/-! ### Transactions -/

theorem State.QuietAbsence.present {s : State} (quiet : s.QuietAbsence) {t : Txn} (flight : s.blk.txn = some t) :
    s.blk.link ≠ .absent := fun absent => by
  have := flight.symm.trans (quiet absent)
  cases this

/-- R63: the transaction in flight ends. -/
theorem State.txnEnds_linkOk {s t : State} (ok : s.LinkOk) (link : t.blk.link = s.blk.link) (record : t.blk.record = s.blk.record)
    (rate : t.blk.rate = s.blk.rate) (retry : t.blk.retryTimer = s.blk.retryTimer) (due : t.blk.retryDue = s.blk.retryDue)
    (psc : t.psc = s.psc) (txn : t.blk.txn = none) : t.LinkOk where
  record h := record ▸ ok.record (link ▸ h)
  noRecord h := record ▸ ok.noRecord (link ▸ h)
  rate h h' := rate ▸ ok.rate (link ▸ h) (link ▸ h')
  retry h := link ▸ ok.retry (retry ▸ due ▸ h)
  owed h := psc ▸ ok.owed (link ▸ h)
  txn t h := by
    have := txn.symm.trans h
    cases this

theorem State.succeed_keeps (s : State) {t : Txn} (flight : s.blk.txn = some t) (data : List Byte) : s.Keeps (s.succeed t data) := by
  unfold State.succeed
  dsimp only
  split
  · exact s.identified_keeps flight data
  · have ends : s.Keeps { s with blk.txn := none } :=
      s.line_keeps rfl (.inr rfl) fun _ _ ok => State.txnEnds_linkOk ok rfl rfl rfl rfl rfl rfl rfl
    have settled := (State.settlePoll_keeps _ t).after ends
    have counted : s.Keeps { ({ s with blk.txn := none } : State).settlePoll t with
        blk := { (({ s with blk.txn := none } : State).settlePoll t).blk with consecutive := 0 } } :=
      settled.trans (State.line_keeps _ rfl (.inl rfl) fun _ _ ok => ⟨ok.1, ok.2, ok.3, ok.4, ok.5, ok.6⟩)
    split
    · exact counted
    · exact (State.route_keeps _ _ _).after counted

theorem State.attemptFailed_after (h : u.Keeps s) (ends : u.LinkOk → s.blk.txn = none) (present : u.QuietAbsence → s.blk.link ≠ .absent) :
    u.Keeps s.attemptFailed := by
  have counted : u.Keeps { s with blk.attempts := min (s.blk.attempts + 1) Config.identifyAttempts } :=
    h.trans (State.line_keeps _ rfl (.inl rfl) fun _ _ ok => ⟨ok.1, ok.2, ok.3, ok.4, ok.5, ok.6⟩)
  unfold State.attemptFailed
  dsimp only
  split
  · exact State.enterFault_after counted ends present
  · exact counted

theorem State.pollFailed_after (h : u.Keeps s) (ends : u.LinkOk → s.blk.txn = none) (present : u.QuietAbsence → s.blk.link ≠ .absent) :
    u.Keeps s.pollFailed := by
  have counted : u.Keeps { s with blk.consecutive := min (s.blk.consecutive + 1) 15 } :=
    h.trans (State.line_keeps _ rfl (.inl rfl) fun _ _ ok => ⟨ok.1, ok.2, ok.3, ok.4, ok.5, ok.6⟩)
  unfold State.pollFailed
  dsimp only
  split
  · exact State.enterFault_after counted ends present
  · exact counted

/-- A retry timer that starts in FAULT, after an operation on the rest. -/
theorem State.retry_after (h : u.Keeps s) (fault : u.LinkOk → s.blk.link = .fault) :
    u.Keeps { s with blk := { s.blk with retryTimer := some 0, retryDue := false } } :=
  h.withBase (q := s.psc) (d := s.dlu) (fun _ => Iff.rfl) (fun quiet absent => h.quiet quiet absent)
    (fun _ ok => ⟨ok.1, ok.2, ok.3, ok.4, ok.5⟩)
    (fun images polls ok => by
      have k := h.link images polls ok
      exact ⟨k.1, k.2, k.3, fun _ => fault ok, k.5, k.6⟩)
    fun ok => by
      have k := h.power ok
      exact ⟨k.1, k.2, k.3, k.4, k.5, k.6, k.7, k.8⟩

theorem State.fail_keeps (s : State) {t : Txn} (flight : s.blk.txn = some t) (e : LineError) (low : Option LineLow) :
    s.Keeps (s.fail t e low) := by
  have ends : s.Keeps { s with blk.txn := none, blk.low := low } :=
    s.line_keeps rfl (.inr rfl) fun _ _ ok => State.txnEnds_linkOk ok rfl rfl rfl rfl rfl rfl rfl
  have counted := (State.bump_keeps _ e.counter).after ends
  have blk : (({ s with blk.txn := none, blk.low := low } : State).bump e.counter).blk = { s.blk with txn := none, low := low } := by
    simp
  unfold State.fail
  dsimp only
  generalize ({ s with blk.txn := none, blk.low := low } : State).bump e.counter = u at counted blk ⊢
  have none : u.blk.txn = none := by rw [blk]
  have link : u.blk.link = s.blk.link := by rw [blk]
  split
  · rename_i id
    split
    · exact State.attemptFailed_after counted (fun _ => none) fun quiet => link ▸ quiet.present flight
    · rename_i other
      refine State.retry_after counted fun ok => ?_
      have asks := (ok.txn t flight).2
      rw [if_pos id, ← link] at asks
      exact asks.resolve_left other
  · refine State.pollFailed_after ((State.settlePoll_keeps _ _).after counted) (fun _ => ?_) fun quiet => ?_
    · simp [none]
    · simpa [link] using quiet.present flight

/-- The transaction in flight goes on with the same function. -/
theorem State.sameTxn_keeps (s : State) {t t' : Txn} (flight : s.blk.txn = some t) (fn : t'.fn = t.fn) :
    s.Keeps { s with blk.txn := some t' } := by
  refine .ofBase rfl (fun _ ok => ok.congr rfl rfl) (fun _ _ ok => ?_) (fun ok => ?_) (fun quiet absent => ?_) (fun _ => Iff.rfl)
  · refine { ok with txn := fun u h => ?_ }
    obtain rfl := Option.some.inj h
    rw [fn]
    exact ok.txn t flight
  · refine { ok with quiet := fun deep => ?_ }
    have := flight.symm.trans (ok.quiet deep).1
    cases this
  · exact absurd absent (quiet.present flight)

theorem State.takeChar_keeps (s : State) {t : Txn} (flight : s.blk.txn = some t) (c : Byte) : s.Keeps (s.takeChar t c) := by
  unfold State.takeChar
  split
  · exact s.sameTxn_keeps flight rfl
  · exact s.succeed_keeps flight _
  · exact s.fail_keeps flight _ _

theorem State.failChar_keeps (s : State) {t : Txn} (flight : s.blk.txn = some t) (c : Byte) : s.Keeps (s.failChar t c) := by
  unfold State.failChar
  split
  · exact s.fail_keeps flight _ _
  · exact .refl s

theorem State.receiving_txn {s : State} {time : Nat} {t : Txn} (h : s.receiving time = some t) : s.blk.txn = some t := by
  unfold State.receiving at h
  split at h
  · split at h
    · split at h
      · cases h
        assumption
      · cases h
    · cases h
  · cases h

theorem State.sending_txn {s : State} {t : Txn} (h : s.sending = some t) : s.blk.txn = some t := by
  unfold State.sending at h
  split at h
  · split at h
    · cases h
      assumption
    · cases h
  · cases h

theorem State.overdue_txn {s : State} {time : Nat} {t : Txn} (h : s.overdue time = some t) : s.blk.txn = some t := by
  unfold State.overdue at h
  split at h
  · split at h
    · split at h
      · cases h
        assumption
      · cases h
    · cases h
  · cases h

/-! ### The choice of a transaction -/

/-- R82, R89, R93: a poll or a write is never of function ID. -/
theorem State.choice_fn {s : State} (images : s.ImagesOk) (polls : s.PollsOk) {t : Txn} (chosen : s.choice = some t) : t.fn ≠ .id := by
  obtain ⟨candidate, member, rfl⟩ := List.exists_of_findSome?_eq_some chosen
  have kinds : some t ∈ (List.range s.sched.slotCount).map s.pollOf ∨ some t = s.headWrite := by
    unfold State.candidates at member
    rcases List.mem_append.1 member with first | rest
    · exact .inl (List.mem_of_mem_take first)
    · rcases List.mem_cons.1 rest with head | later
      · exact .inr head
      · exact .inl (List.mem_of_mem_drop later)
  rcases kinds with poll | write
  · obtain ⟨i, hi, eq⟩ := List.mem_map.1 poll
    obtain ⟨low, high, _⟩ := images.slot (List.mem_range.1 hi)
    unfold State.pollOf at eq
    split at eq
    · obtain ⟨fn, hfn, rfl⟩ := Option.map_eq_some_iff.1 eq
      rintro rfl
      generalize (s.slot i).fn = n at low high hfn
      interval_cases n <;> cases hfn
    · cases eq
  · obtain ⟨e, he, rfl⟩ := Option.map_eq_some_iff.1 write.symm
    rcases (polls.data e (List.mem_of_mem_head? he)).1 with fn | fn <;> simp [writeTxn, fn]

theorem State.transactionStart_keeps (s : State) {t : Txn} (wanted : s.wanted = some t) :
    s.Keeps { s with blk.txn := some t, blk.low := none, blk.retryDue := false } := by
  refine .ofBase rfl (fun _ ok => ok.congr rfl rfl) (fun images polls ok => ?_) (fun ok => ?_) (fun _ absent => ?_) (fun _ => Iff.rfl)
  · refine { ok with retry := fun h => ok.retry (h.imp_right fun h => by cases h), txn := fun t' h => ?_ }
    obtain rfl := Option.some.inj h
    refine ⟨rfl, ?_⟩
    unfold State.wanted at wanted
    split at wanted
    · cases wanted
    · split at wanted
      · rename_i running
        rw [if_neg (State.choice_fn images polls wanted)]
        exact running
      · rename_i identify
        cases wanted
        exact .inl identify
      · rename_i fault
        split at wanted
        · cases wanted
          exact .inr fault
        · cases wanted
      · cases wanted
  · refine { ok with quiet := fun deep => ?_ }
    unfold State.wanted at wanted
    rw [if_pos deep] at wanted
    cases wanted
  · unfold State.wanted at wanted
    split at wanted
    · cases wanted
    · rw [show s.blk.link = .absent from absent] at wanted
      cases wanted

/-! ### Lows on the line -/

theorem State.attention_keeps (s : State) : s.Keeps s.attention := by
  unfold State.attention
  split
  · exact s.attentionPoll_keeps
  · exact (State.wakeSource_keeps _ _).after (.same rfl)
  · rename_i fault
    have asked : s.Keeps { s with blk.attention := true, blk.retryDue := true, blk.retryTimer := none } :=
      s.line_keeps rfl (.inl rfl) fun _ _ ok => { ok with retry := fun _ => fault }
    dsimp only
    refine (State.leaveDeep_keeps _).after ?_
    split
    · exact (State.wakeSource_keeps _ _).after asked
    · exact asked
  · exact .same rfl
  · exact .refl s

theorem State.stuck_after (h : u.Keeps s) (ends : u.LinkOk → s.blk.txn = none) : u.Keeps s.stuck := by
  unfold State.stuck
  split
  · rename_i link
    refine State.enterFault_after ((State.bump_keeps _ _).after h) (fun ok => by simpa using ends ok) fun _ => ?_
    simp [link]
  · rename_i link
    refine State.enterFault_after ((State.bump_keeps _ _).after h) (fun ok => by simpa using ends ok) fun _ => ?_
    simp [link]
  · rename_i link
    refine State.attemptFailed_after ((State.bump_keeps _ _).after h) (fun ok => by simpa using ends ok) fun _ => ?_
    simp [link]
  · exact h

/-- R77: a low that is timed stays timed; no transaction is in flight then. -/
theorem State.timedLow_keeps (s : State) {l : LineLow} (low : s.blk.low = some l) (l' : LineLow) :
    s.Keeps { s with blk.low := some l' } :=
  s.line_keeps rfl (.inl rfl) fun _ _ ok => { ok with
    txn := fun t flight => by
      have := low.symm.trans (ok.txn t flight).1
      cases this }

theorem State.LinkOk.txn_none {s : State} (ok : s.LinkOk) {l : LineLow} (low : s.blk.low = some l) : s.blk.txn = none := by
  cases flight : s.blk.txn with
  | none => rfl
  | some t =>
    have := low.symm.trans (ok.txn t flight).1
    cases this

end
end Sys2Proof.Machine
end

section
/-!
PROOFS. The power states, the requests, the system link and the system tick keep every invariant of the whole state
(`State.Keeps`).
-/

namespace Sys2Proof.Machine

section
variable (s : State)

/-! ### Awake and asleep -/

/-- R170: outside AWAKE and ADVISED an activity sets its timer back and does nothing more. -/
theorem State.activity_resting (change : Bool) (awake : s.spm.system ≠ .awake) (advised : s.spm.system ≠ .advised) :
    s.activity change = { s with spm.activityTimer := 0 } := by
  rcases s.activity_cases change with ⟨h, _⟩ | ⟨h, _⟩ | ⟨h, _⟩ | ⟨_, e⟩
  · exact absurd h awake
  · exact absurd h advised
  · exact absurd h advised
  · exact e

theorem State.systemAwake_keeps : s.Keeps s.systemAwake := by
  have active := s.activity_keeps false
  unfold State.systemAwake
  dsimp only
  split
  · exact active
  · exact active
  · rename_i asleep
    rw [s.activity_resting false (by simp [asleep]) (by simp [asleep])]
    split
    · rename_i deep
      exact .ofPower rfl fun ok => { ok with clock := fun _ => deep }
    · rename_i awake
      refine (State.toAwake_keeps _ fun _ => ?_).after (s.spm_keeps rfl)
      exact awake
  · rename_i waking
    rw [s.activity_resting false (by simp [waking]) (by simp [waking])]
    refine (State.toAwake_keeps _ fun ok => ?_).after (s.spm_keeps rfl)
    have run : s.spm.hub = .run := ok.run.2 (by simp [waking])
    simp [run]

/-- R86: the owed counts as they are, or without those of the slots that DOZE does not poll. -/
def State.OwedAtMost (s : State) (q : Psc) : Prop :=
  (q.owed = s.psc.owed ∨ q.owed = s.owedInDoze) ∧ q.due = s.psc.due ∧ q.writes = s.psc.writes

theorem State.OwedAtMost.pollsOk {s t : State} {q : Psc} (h : s.OwedAtMost q) (psc : t.psc = q)
    (schedule : t.tables.schedule.active = s.tables.schedule.active) (ok : s.PollsOk) : t.PollsOk := by
  obtain ⟨same | zeroed, due, writes⟩ := h
  · refine ok.congr schedule ?_
    simp only [State.seen, psc, same, due, writes]
  · exact (State.owedInDoze_pollsOk ok zeroed (congrArg List.length due) writes).congr schedule (by simp only [State.seen, psc])

theorem State.OwedAtMost.idle {s : State} {q : Psc} (h : s.OwedAtMost q) (ok : s.LinkOk) (other : s.blk.link ≠ .running) :
    q.writes = [] ∧ q.owed = List.replicate Config.slots 0 := by
  obtain ⟨noWrites, noOwed⟩ := ok.owed other
  obtain ⟨same | zeroed, _, writes⟩ := h
  · exact ⟨writes.trans noWrites, same.trans noOwed⟩
  · exact ⟨writes.trans noWrites, zeroed.trans (s.owedInDoze_none noOwed)⟩

theorem State.slept_keeps {p : Spm} {q : Psc} (asleep : p.system = .asleep) (hub : s.spm.system = .asleep → p.hub = s.spm.hub)
    (doze : s.spm.system ≠ .asleep → p.hub = .doze) (requested : p.requested.isSome = true) (target : p.target.isSome = true)
    (clock : p.clock.isSome = s.spm.clock.isSome) (wakeTimer : p.wakeTimer = s.spm.wakeTimer) (wakeLow : p.wakeLow = s.spm.wakeLow)
    (owed : s.OwedAtMost q) : s.Keeps { s with spm := p, psc := q } := by
  refine .ofBase rfl (fun _ ok => owed.pollsOk rfl rfl ok) (fun _ _ ok => { ok with owed := owed.idle ok }) (fun ok => ?_)
    (fun ok => ok) (fun _ => Iff.rfl)
  by_cases was : s.spm.system = .asleep
  · have same := hub was
    refine ⟨?_, by simp [asleep, requested], by simp [asleep, target], ?_, ?_, ?_, ?_, ?_⟩
    · have := ok.run
      rw [was] at this
      rw [asleep, same]
      exact this
    · rw [clock, same]
      exact ok.clock
    · rw [same]
      exact ok.listen
    · rw [same]
      exact ok.running
    · rw [same, owed.2.2]
      exact ok.quiet
    · rw [wakeLow, wakeTimer]
      exact ok.wakeLow
  · have run : s.spm.hub = .run := ok.run.2 was
    have awake : s.spm.hub ≠ .deep := by simp [run]
    have dozes := doze was
    refine ⟨by simp [asleep, dozes], by simp [asleep, requested], by simp [asleep, target], ?_, ?_, by simp [dozes], by simp [dozes], ?_⟩
    · simp [clock, ok.clock_none awake]
    · exact fun listens => absurd listens (ok.not_listen awake)
    · rw [wakeLow, wakeTimer]
      exact ok.wakeLow

theorem State.systemSleeping_keeps (d : Depth) : s.Keeps (s.systemSleeping d) := by
  unfold State.systemSleeping
  dsimp only
  refine (State.leaveDeep_keeps _).after ((State.judgeSleep_kept _).after ?_)
  have chosen : ∀ c : Prop, [Decidable c] → (if c then some Depth.deep else some Depth.doze).isSome = true := by
    intro c _
    split <;> rfl
  unfold State.formTarget
  split
  · rename_i asleep
    refine State.slept_keeps s (q := s.psc) asleep (fun _ => rfl) (absurd asleep) rfl ?_ ?_ rfl rfl ⟨.inl rfl, rfl, rfl⟩
    · exact chosen _
    · exact Option.isSome_map ..
  · rename_i awake
    rcases State.setHub_cases ({ s with spm.system := .asleep } : State) .doze with ⟨_, _, e⟩ | ⟨_, e⟩ <;> rw [e, if_pos rfl]
    · refine State.slept_keeps s rfl (fun h => absurd h awake) (fun _ => rfl) rfl ?_ ?_ rfl rfl ⟨.inr rfl, rfl, rfl⟩
      · exact chosen _
      · exact Option.isSome_map ..
    · refine State.slept_keeps s (q := s.psc) rfl (fun h => absurd h awake) (fun _ => rfl) rfl ?_ ?_ rfl rfl ⟨.inl rfl, rfl, rfl⟩
      · exact chosen _
      · exact Option.isSome_map ..

/-! ### The entry to DEEP -/

theorem deepAges_le {age : Option Nat} {n : Nat} (h : (age.map fun _ => 255) = some n) : n ≤ 255 := by
  obtain ⟨_, _, rfl⟩ := Option.map_eq_some_iff.1 h
  exact le_rfl

theorem State.AnglesOk.enterDeep {s t : State} (ok : s.AnglesOk) (pae : t.pae = s.pae.enterDeep) : t.AnglesOk := by
  have held := ok.hinge.hold
  constructor <;> rw [pae]
  · exact held.theta
  · exact held.phiB
  · exact ok.phiL
  · exact ok.psi
  · exact held.thetaHeld
  · exact held.phiBHeld
  · exact ok.lid
  · exact ok.base
  · exact ok.lastLid
  · exact fun _ h => deepAges_le h
  · exact fun _ h => deepAges_le h
  · exact ok.evaluatedLidAge
  · exact ok.evaluatedBaseAge

theorem State.enterDeep_keeps (ready : s.deepReady = true) : s.Keeps s.enterDeep := by
  unfold State.deepReady at ready
  simp only [Bool.and_eq_true, beq_iff_eq, Option.isNone_iff_eq_none, List.isEmpty_iff] at ready
  obtain ⟨⟨⟨⟨⟨⟨⟨⟨⟨⟨⟨⟨asleep, -⟩, -⟩, idle⟩, unwritten⟩, -⟩, -⟩, -⟩, -⟩, -⟩, -⟩, -⟩, -⟩ := ready
  unfold State.enterDeep
  dsimp only
  refine (State.judgeSleep_kept _).after ?_
  split
  · rename_i running
    refine .ofMain ⟨rfl, rfl, rfl⟩ (fun ok => ok.enterDeep rfl) (fun _ ok => ?_) (fun _ _ ok => ?_) (fun ok => ?_)
      (fun _ h => by cases h) (fun _ _ ok => ?_)
    · refine ⟨rfl, rfl, fun i => ?_, ok.writes, ok.data⟩
      change (List.replicate Config.slots 0).getD i 0 ≤ _
      rw [getD_replicate_zero]
      exact Nat.zero_le _
    · refine ⟨fun _ => ok.record (.inl running), fun h => ?_, fun _ h => absurd rfl h, fun h => ?_, fun _ => ⟨unwritten, rfl⟩,
        fun t flight => ?_⟩
      · rcases h with h | h | h <;> cases h
      · have fault := ok.retry h
        rw [running] at fault
        cases fault
      · have := idle.symm.trans flight
        cases this
    · exact { ok with
        run := iff_of_false (fun h => by cases h) fun h => h asleep
        clock := fun _ => rfl
        listen := fun _ => rfl
        running := fun _ h => by cases h
        quiet := fun _ => ⟨idle, unwritten⟩ }
    · exact ⟨ok.detached.trans (iff_of_false (by rw [running]; decide) fun h => by cases h)⟩
  · rename_i other
    refine .ofMain ⟨rfl, rfl, rfl⟩ (fun ok => ok.enterDeep rfl) (fun _ ok => ok.congr rfl rfl) (fun _ _ ok => ok.congr rfl rfl rfl)
      (fun ok => ?_) (fun ok => ok.congr rfl) (fun _ _ ok => ok.congr rfl rfl)
    exact { ok with
      run := iff_of_false (fun h => by cases h) fun h => h asleep
      clock := fun _ => rfl
      listen := fun _ => rfl
      running := fun _ => other
      quiet := fun _ => ⟨idle, unwritten⟩ }

/-! ### The end of a clock start -/

/-- R176: the hub power state of the destination, before its WAKE notice. -/
def State.destination (s : State) (awake : Bool) : State :=
  if awake then s.intoAwake else if s.spm.wakeCause ≠ 0 then s.intoWaking else s.setHub .doze

theorem State.destination_eq (s : State) (awake : Bool) :
    ∃ p q, s.destination awake = { s with spm := p, psc := q } ∧ s.OwedAtMost q := by
  unfold State.destination
  split
  · exact ⟨_, s.psc, rfl, .inl rfl, rfl, rfl⟩
  · split
    · exact ⟨_, s.psc, rfl, .inl rfl, rfl, rfl⟩
    · rcases s.setHub_cases .doze with ⟨_, _, e⟩ | ⟨_, e⟩ <;> rw [e]
      · exact ⟨_, _, rfl, .inr rfl, rfl, rfl⟩
      · exact ⟨_, s.psc, rfl, .inl rfl, rfl, rfl⟩

theorem State.settleDestination_eq (awake : Bool) :
    s.settleDestination awake = s.destination awake ∨ s.settleDestination awake = (s.destination awake).wakeNotice := by
  unfold State.settleDestination State.destination
  split
  · split
    · exact .inl rfl
    · exact .inr rfl
  · split
    · exact .inr rfl
    · exact .inl rfl

/-- R169, R176: the states in which a clock start ends. -/
structure Spm.Arrived (p : Spm) : Prop where
  hub : p.hub ≠ .deep
  run : p.hub = .run ↔ p.system ≠ .asleep
  requested : p.requested.isSome = decide (p.system = .asleep)
  target : p.target.isSome = decide (p.system = .asleep)
  clock : p.clock = none
  wakeLow : p.wakeLow = p.wakeTimer.isSome

theorem Spm.Arrived.powerOk {t : State} (h : t.spm.Arrived) (link : t.blk.link ≠ .listen) : t.PowerOk where
  run := h.run
  requested := h.requested
  target := h.target
  clock starts := by
    rw [h.clock] at starts
    cases starts
  listen listens := absurd listens link
  running deep := absurd deep h.hub
  quiet deep := absurd deep h.hub
  wakeLow := h.wakeLow

theorem State.PowerOk.destination {s : State} (ok : s.PowerOk) (deep : s.spm.hub = .deep) (clock : s.spm.clock = none) (awake : Bool) :
    (s.destination awake).spm.Arrived := by
  unfold State.destination
  split
  · exact ⟨by simp [State.intoAwake, State.setHub], by simp [State.intoAwake, State.setHub], by simp [State.intoAwake], by simp [State.intoAwake],
      by simpa [State.intoAwake, State.setHub] using clock, by simpa [State.intoAwake, State.setHub] using ok.wakeLow⟩
  · split
    · exact ⟨by simp [State.intoWaking, State.setHub], by simp [State.intoWaking, State.setHub], by simp [State.intoWaking], by simp [State.intoWaking],
        by simpa [State.intoWaking, State.setHub] using clock, by simp [State.intoWaking]⟩
    · have asleep : s.spm.system = .asleep := by
        by_contra other
        have := deep.symm.trans (ok.run.2 other)
        cases this
      have requested := ok.requested
      have target := ok.target
      rcases s.setHub_cases .doze with ⟨_, _, e⟩ | ⟨_, e⟩ <;> rw [e] <;>
        exact ⟨by simp, by simp [asleep], requested, target, clock, ok.wakeLow⟩

/-- R76, R176: the clock start ends with the destination, the link still in LISTEN seen to. -/
theorem State.leftDeep_after {p : Spm} {q : Psc} (t : State) (eq : t = { s with spm := p, psc := q }) (owed : s.OwedAtMost q)
    (fits : s.PowerOk → p.Arrived) :
    (s.blk.link = .listen → s.Keeps ({ t with pae.expiryDue := true } : State).intoRunning) ∧
    (s.blk.link ≠ .listen → s.Keeps { t with pae.expiryDue := true }) := by
  subst eq
  constructor
  · intro listens
    refine .ofBase rfl (fun images ok => ?_) (fun _ _ ok => ?_) (fun ok => (fits ok).powerOk (fun h => by cases h))
      (fun _ h => by cases h) (fun _ => iff_of_false (fun h => by cases h) (by rw [listens]; decide))
    · exact State.intoRunning_pollsOk (images.congr rfl) (owed.pollsOk rfl rfl ok)
    · have idle : s.blk.txn = none := by
        cases flight : s.blk.txn with
        | none => rfl
        | some t =>
          have asks := (ok.txn t flight).2
          rw [listens] at asks
          split at asks <;> simp at asks
      exact State.intoRunning_linkOk (ok.record (.inr listens)) idle
  · intro other
    exact .ofBase rfl (fun _ ok => owed.pollsOk rfl rfl ok) (fun _ _ ok => { ok with owed := owed.idle ok })
      (fun ok => (fits ok).powerOk other) (fun ok => ok.congr rfl) (fun _ => Iff.rfl)

theorem State.clockStarted_keeps (awake : Bool) {c : ClockStart} (clock : s.spm.clock = some c) : s.Keeps (s.clockStarted awake) := by
  obtain ⟨p, q, eq, owed⟩ := State.destination_eq { s with spm.clock := none } awake
  have fits : s.PowerOk → p.Arrived := fun ok => by
    have deep : s.spm.hub = .deep := ok.clock (by rw [clock]; rfl)
    have arrived := State.PowerOk.destination (s := { s with spm.clock := none }) { ok with clock := fun h => by cases h } deep rfl awake
    rwa [eq] at arrived
  obtain ⟨listening, other⟩ := s.leftDeep_after _ eq owed fits
  have link : (({ s with spm.clock := none } : State).destination awake).blk.link = s.blk.link := by rw [eq]
  unfold State.clockStarted
  refine (State.judgeSleep_kept _).after ?_
  unfold State.leftDeep
  rcases State.settleDestination_eq { s with spm.clock := none } awake with e | e <;> rw [e] <;> split
  · exact State.enterRunning_after false (listening (link.symm.trans (by assumption)))
  · exact other fun listens => absurd (link.trans listens) (by assumption)
  · refine State.enterRunning_after false ?_
    exact (State.wakeNotice_keeps _).after (listening (link.symm.trans (by assumption)))
  · exact (State.wakeNotice_keeps _).after (other fun listens => absurd (link.trans listens) (by assumption))

/-! ### The system tick -/

theorem Pae.tick_eq (p : Pae) (deep : Bool) (anglePeriod : Nat) :
    ∃ periodTimer lidRead angleTimer,
      p.tick deep anglePeriod = { p with periodTimer := periodTimer, lidRead := lidRead, angleTimer := angleTimer } := by
  unfold Pae.tick
  split
  · exact ⟨_, _, _, rfl⟩
  · exact ⟨_, _, _, rfl⟩

theorem State.tickTimers_keeps : s.Keeps s.tickTimers := by
  obtain ⟨periodTimer, lidRead, angleTimer, pae⟩ := s.pae.tick_eq (s.spm.hub == .deep) s.post.anglePeriod
  unfold State.tickTimers
  dsimp only
  rw [pae]
  refine ⟨fun _ ok => ok, fun ok => ok.congr rfl, fun ok => ?_, fun ok => ok.congr rfl, fun _ ok => ?_, fun _ _ ok => ?_, fun ok => ?_,
    fun ok => ok, fun _ _ ok => ⟨ok.detached⟩⟩
  · exact ok.mapPen rfl (f := PenRecord.tick) rfl (fun _ => rfl) fun _ => rfl
  · refine { ok with dueSlots := ?_ }
    change s.tickDue.length = _
    rw [State.tickDue, List.length_map, List.length_range]
    exact ok.dueSlots
  · refine { ok with retry := fun h => ok.retry (h.imp_left fun runs => ?_), txn := fun t flight => ?_ }
    · change (if (s.spm.hub == .deep) = true then s.blk.retryTimer
        else s.blk.retryTimer.map fun n => min (n + 1) Config.retryTicks).isSome = true at runs
      split at runs
      · exact runs
      · rwa [Option.isSome_map] at runs
    · obtain ⟨low, asks⟩ := ok.txn t flight
      refine ⟨?_, asks⟩
      change (s.blk.low.bind fun l => l.tick s.pins.bdq) = none
      rw [low]
      rfl
  · refine { ok with clock := fun starts => ok.clock ?_, wakeLow := ok.wakeLow.trans ?_ }
    · exact (Option.isSome_map ..).symm.trans starts
    · exact (Option.isSome_map ..).symm

theorem State.samplePresence_keeps (pres : Bool) : s.Keeps (s.samplePresence pres) := by
  unfold State.samplePresence
  split
  · rename_i absent
    split
    · refine State.changePosture_after _ .link (.ofMain ⟨rfl, rfl, rfl⟩ (fun ok => ok.congr rfl) (fun _ ok => ok.congr rfl rfl)
        (fun _ _ ok => ?_) (fun ok => { ok with listen := fun h => (by cases h), running := fun _ h => (by cases h) })
        (fun _ h => by cases h) fun _ _ _ => ⟨iff_of_false (fun h => by cases h) fun h => by cases h⟩)
      have still : s.blk.txn = none := by
        cases flight : s.blk.txn with
        | none => rfl
        | some t =>
          have asks := (ok.txn t flight).2
          rw [absent] at asks
          split at asks <;> simp at asks
      refine ⟨?_, fun _ => ok.noRecord (.inl absent), fun _ _ => ok.rate (by simp [absent]) (by simp [absent]), fun h => ?_,
        fun _ => ok.owed (by simp [absent]), fun t flight => ?_⟩
      · rintro (h | h) <;> cases h
      · have := ok.retry h
        rw [absent] at this
        cases this
      · have := still.symm.trans flight
        cases this
    · exact .refl s
  · split
    · exact s.line_keeps rfl (.inl rfl) fun _ _ ok => ⟨ok.1, ok.2, ok.3, ok.4, ok.5, ok.6⟩
    · exact s.line_keeps rfl (.inl rfl) fun _ _ ok => ⟨ok.1, ok.2, ok.3, ok.4, ok.5, ok.6⟩
  · exact s.line_keeps rfl (.inl rfl) fun _ _ ok => ⟨ok.1, ok.2, ok.3, ok.4, ok.5, ok.6⟩

/-! ### The system link -/

theorem State.offer_keeps (f : DownFrame) : s.Keeps (s.offer f) := by
  unfold State.offer
  split
  · exact .same rfl
  · exact s.bump_keeps _

theorem State.hunt_keeps (n : Nat) (s : State) (cs : List RxChar) : s.Keeps (s.hunt n cs) := by
  induction n generalizing s cs with
  | zero => exact .refl s
  | succ n ih =>
    cases cs with
    | nil => exact .refl s
    | cons c rest =>
      unfold State.hunt
      dsimp only
      split
      · exact (ih _ _).after (.same rfl)
      · exact (ih _ _).after ((State.offer_keeps _ _).after (.same rfl))
      · exact (ih _ _).after ((State.bump_keeps _ _).after (.same rfl))

theorem State.startFrame_keeps (idle : s.slk.tx = none) : s.Keeps s.startFrame := by
  unfold State.startFrame
  split
  · rename_i e rest entries
    refine .ofUpq rfl fun n ok => ?_
    rw [idle] at ok
    exact ok.startHead entries
  · exact .refl s

theorem State.frameEnds_keeps (sends : s.slk.tx.isSome = true) (r : ResetAll) :
    s.Keeps { s with slk.tx := none, upq := s.upq.finishHead, slk.resetAll := r } :=
  .ofUpq rfl fun n ok => by
    rw [sends] at ok
    exact ok.finishHead

/-! ### Requests -/

theorem State.carryOut_keeps (mine : DownFrame → Bool) {act : State → DownFrame → State} (acts : ∀ u f, State.Kept 1 0 u (act u f)) :
    s.Keeps (s.carryOut mine act) := by
  unfold State.carryOut State.request
  split
  · rename_i f h
    split at h
    · rename_i free
      split
      · exact (acts _ f).after (s.claim_kept free.1)
      · exact .refl s
    · cases h
  · exact .refl s

theorem State.fixedLength_kept (f : DownFrame) (n : Nat) {act : State → State} (acts : s.Kept 1 0 (act s)) :
    s.Kept 1 0 (s.fixedLength f n act) := by
  unfold State.fixedLength
  split
  · exact acts
  · exact s.answer_kept _ _ _

theorem State.tableWrite_kept (f : DownFrame) : s.Kept 1 0 (s.tableWrite f) := by
  unfold State.tableWrite
  dsimp only
  split
  · exact s.answer_kept _ _ _
  · split
    · exact s.answer_kept _ _ _
    · rename_i k _
      split
      · exact s.answer_kept _ _ _
      · split
        · exact s.answer_kept _ _ _
        · split
          · exact s.answer_kept _ _ _
          · rename_i free
            exact (State.answer_kept _ f .ok []).after ((s.writePending_keeps (k := k) _ (by simpa using free)).claimed 1)

theorem State.committed_kept {k : TableId} (free : (s.tables.get k).awaiting = false)
    (valid : validImage k (s.tables.get k).pending = true) : s.Kept 1 0 (s.committed k) := by
  unfold State.committed
  dsimp only
  split
  · exact s.swapTable_now (k := .route) (by decide) free valid
  · exact (State.policySwapped_keeps _).after (s.swapTable_now (k := .policy) (by decide) free valid)
  · split
    · exact (s.await_kept (k := .charge) free valid (by decide)).trans (.same rfl)
    · exact s.swapCharge_kept (s.swapTable_now (k := .charge) (by decide) free valid)
  · rename_i route policy _
    exact s.await_kept free valid ⟨route, policy⟩

theorem State.tableCommit_kept (f : DownFrame) : s.Kept 1 0 (s.tableCommit f) := by
  unfold State.tableCommit
  split
  · exact s.answer_kept _ _ _
  · split
    · exact s.answer_kept _ _ _
    · rename_i free
      split
      · exact s.answer_kept _ _ _
      · rename_i sound
        exact s.committed_kept (by simpa using free) (beq_iff_eq.2 sound)

theorem State.tableRead_kept (f : DownFrame) : s.Kept 1 0 (s.tableRead f) := by
  unfold State.tableRead
  dsimp only
  repeat' split
  all_goals exact s.answer_kept _ _ _

theorem State.clearCounters_keeps : s.Keeps s.clearCounters :=
  .ofCounters rfl fun _ =>
    { counters := fun k => by
        cases k <;> exact Nat.zero_le _
      check := fun p hp => by
        obtain ⟨q, _, rfl⟩ := Option.map_eq_some_iff.1 hp
        exact Nat.zero_le _
      violation := fun p hp => by
        obtain ⟨q, _, rfl⟩ := Option.map_eq_some_iff.1 hp
        exact Nat.zero_le _ }

theorem State.queryCounters_kept (f : DownFrame) : s.Kept 1 0 (s.queryCounters f) := by
  unfold State.queryCounters
  dsimp only
  refine (State.answer_kept _ _ _ _).after (State.Keeps.claimed ?_ 1)
  split
  · exact s.clearCounters_keeps
  · exact .refl s

theorem State.query_kept (f : DownFrame) : s.Kept 1 0 (s.query f) := by
  unfold State.query
  split
  · exact s.answer_kept _ _ _
  · exact s.queryCounters_kept f
  · unfold State.queryPage
    split
    · exact s.answer_kept _ _ _
    · exact s.answer_kept _ _ _

theorem State.queueWrite_kept (f : DownFrame) {fn : BaseFn} (writable : fn = .light ∨ fn = .indicator) (l : Nat) :
    s.Kept 1 0 (s.queueWrite f fn l) := by
  unfold State.queueWrite
  split
  · exact s.answer_kept _ _ _
  · rename_i short
    split
    · exact s.answer_kept _ _ _
    · rename_i length
      split
      · exact s.answer_kept _ _ _
      · rename_i running
        split
        · exact s.answer_kept _ _ _
        · split
          · exact s.answer_kept _ _ _
          · rename_i room
            rw [not_not] at running
            refine (State.answer_kept _ f .ok []).after (State.Keeps.claimed ?_ 1)
            refine State.psc_keeps (fun _ ok => ⟨ok.owedSlots, ok.dueSlots, ok.owed, ?_, fun w hw => ?_⟩) (fun _ other => absurd running other)
              fun ok deep => absurd running (ok.running deep)
            · change (s.psc.writes ++ [_]).length ≤ _
              rw [List.length_append]
              exact Nat.lt_of_not_le room
            · rcases List.mem_append.1 hw with old | new
              · exact ok.data w old
              · obtain rfl := List.mem_singleton.1 new
                refine ⟨writable, ?_⟩
                change (f.payload.drop 2).length ≤ 32
                rw [List.length_drop]
                omega

theorem State.baseWrite_kept (f : DownFrame) : s.Kept 1 0 (s.baseWrite f) := by
  unfold State.baseWrite
  dsimp only
  split
  · exact s.queueWrite_kept f (.inl rfl) _
  · exact s.queueWrite_kept f (.inr rfl) _
  · exact s.answer_kept _ _ _

theorem State.detachGrant_kept (f : DownFrame) : s.Kept 1 0 (s.detachGrant f) := by
  unfold State.detachGrant
  repeat' split
  · exact (State.toReleasing_keeps _ _).after (s.answer_kept _ _ _)
  · exact s.answer_kept _ _ _
  · exact s.answer_kept _ _ _

theorem State.detachDeny_kept (f : DownFrame) : s.Kept 1 0 (s.detachDeny f) := by
  unfold State.detachDeny
  split
  · exact (State.detachNotice_keeps _ _ _ _).after ((s.answer_kept f .ok []).trans (.same rfl))
  · exact s.answer_kept _ _ _

theorem State.detachRelease_kept (f : DownFrame) : s.Kept 1 0 (s.detachRelease f) := by
  unfold State.detachRelease
  repeat' split
  · exact (State.toReleasing_keeps _ _).after (s.answer_kept _ _ _)
  · exact s.answer_kept _ _ _
  · exact (State.toReleasing_keeps _ _).after (s.answer_kept _ _ _)
  · exact s.answer_kept _ _ _
  · exact s.answer_kept _ _ _
  · exact s.answer_kept _ _ _

theorem State.chargeRequest_kept (f : DownFrame) : s.Kept 1 0 (s.chargeRequest f) := by
  unfold State.chargeRequest
  split
  · exact (State.chargeControl_keeps _ _ _).after (s.answer_kept _ _ _)
  · exact s.answer_kept _ _ _

theorem State.systemRequest_kept (f : DownFrame) : s.Kept 1 0 (s.systemRequest f) := by
  unfold State.systemRequest
  repeat' split
  · exact (State.systemAwake_keeps _).after (s.answer_kept _ _ _)
  · exact (State.systemSleeping_keeps _ _).after (s.answer_kept _ _ _)
  · exact s.answer_kept _ _ _

theorem Counters.clearLinks_le (c : Counters) (k : Counter) : c.clearLinks.get k ≤ max (c.get k) Config.counterMax := by
  cases k <;> simp [Counters.clearLinks, Counters.get]

theorem State.resetLinks_kept (f : DownFrame) : s.Kept 1 0 (s.resetLinks f) := by
  have cleared : s.Keeps { s.enterAbsent false with
      counters := (s.enterAbsent false).counters.clearLinks, upq := (s.enterAbsent false).upq.dropReports
      pae := { (s.enterAbsent false).pae with rotCandidate := none } } := by
    refine (s.enterAbsent_keeps false).trans ?_
    refine State.Kept.trans (t := { s.enterAbsent false with counters := (s.enterAbsent false).counters.clearLinks })
      (State.counters_keeps (Counters.clearLinks_le _)) (.ofUpq rfl fun _ ok => ok.dropReports)
  exact (State.answer_kept _ f .ok []).after (cleared.claimed 1)

theorem State.hubReset_kept (f : DownFrame) : s.Kept 1 0 (s.hubReset f) := by
  unfold State.hubReset
  repeat' split
  · exact s.resetLinks_kept f
  · exact (s.append_reply_kept _ 0).trans (.same rfl)
  · exact s.answer_kept _ _ _

end
end Sys2Proof.Machine
end

section
/-!
PROOFS. Every command but a reset keeps every invariant of the whole state, and so every step does: O52, O53, O56, O57, O58 and O59.
-/

namespace Sys2Proof.Machine

/-! ### Commands of the base link and the latch unit with more than one outcome -/

section
variable (s : State)

theorem State.attachConfirmed_keeps (attaching : s.blk.link = .attaching) :
    s.Keeps ({ s with blk.link := .identify, blk.attempts := 0 } : State).leaveDeep := by
  refine (State.leaveDeep_keeps _).after (.ofBase rfl (fun _ ok => ok.congr rfl rfl) (fun _ _ ok => ?_)
    (fun ok => { ok with listen := fun h => (by cases h), running := fun _ h => (by cases h) }) (fun _ h => by cases h)
    fun _ => iff_of_false (fun h => by cases h) (by rw [attaching]; decide))
  refine ⟨?_, fun _ => ok.noRecord (.inr (.inl attaching)), fun _ _ => ok.rate (by simp [attaching]) (by simp [attaching]), fun h => ?_,
    fun _ => ok.owed (by simp [attaching]), fun t flight => ?_⟩
  · rintro (h | h) <;> cases h
  · have := ok.retry h
    rw [attaching] at this
    cases this
  · obtain ⟨low, asks⟩ := ok.txn t flight
    rw [attaching] at asks
    split at asks <;> simp at asks

theorem State.transactionFailure_keeps (error : TxnError) {t : State} (ran : execTransactionFailure error s = .next t) :
    s.Keeps t := by
  obtain rfl := Host.Outcome.next.inj ran
  cases error with
  | leadHigh | gapLow | sentWrong =>
    dsimp only
    split
    · rename_i u sends
      exact s.fail_keeps (State.sending_txn sends) _ _
    · exact .refl s
  | stopLow =>
    dsimp only
    split
    · rename_i u receives
      exact s.fail_keeps (State.receiving_txn receives) _ _
    · exact .refl s
  | judged =>
    dsimp only
    split
    · rename_i u receives
      exact s.failChar_keeps (State.receiving_txn receives) _
    · exact .refl s

end

/-! ### Every command -/

/-- The state that a reset leaves (R111). -/
def State.IsReset (t : State) : Prop := ∃ code enable pins pending, t = .afterReset code enable pins pending

/-- Every command keeps every invariant of the whole state, but for a reset, which begins anew. -/
theorem exec_keeps {c : Instr} {s t : State} (ran : exec c s = .next t) : s.Keeps t ∨ t.IsReset := by
  cases c
  case transactionFailure error => exact .inl (s.transactionFailure_keeps error ran)
  case dueTime slot =>
    have ran : execDueTime slot s = .next t := ran
    unfold execDueTime at ran
    split at ran
    · obtain rfl := Host.Outcome.next.inj ran
      split
      · rename_i due
        rw [Bool.and_eq_true] at due
        exact .inl (s.dueTime_keeps due.1)
      · exact .inl (.refl s)
    · cases ran
  all_goals
    obtain rfl := Host.Outcome.next.inj ran
  case powerOnReset | resetPin => exact .inr ⟨_, _, _, _, rfl⟩
  case softReset =>
    split
    · exact .inr ⟨_, _, _, _, rfl⟩
    · exact .inl (.refl s)
  all_goals
    refine .inl ?_
  case systemTick =>
    exact (State.samplePresence_keeps _ _).after ((State.tickTimers_keeps _).after (.same rfl))
  case sTrigger =>
    split
    · exact (State.takeS_keeps _).after (.same rfl)
    · exact .refl s
  case blankDeferLimit =>
    split
    · exact (State.bump_keeps _ _).after s.requestBlanking_keeps
    · exact .refl s
  case blankingGrant =>
    repeat' split
    · exact s.periodBoundary_keeps
    · exact s.grantBlanking_keeps
    · exact .refl s
  case cTrigger =>
    split
    · exact (State.takeC_keeps _).after (.same rfl)
    · exact .refl s
  case slotCConversionEnd =>
    split
    · exact (State.regulate_keeps _ _).after (.same rfl)
    · exact .refl s
  case channelConversionEnd =>
    split
    · exact s.convert_keeps _ _ _
    · exact .refl s
  case channelSwap =>
    split
    · rename_i due
      rw [Bool.and_eq_true] at due
      exact s.swapChannel_keeps due.1
    · exact .refl s
  case posturePeriodTimerExpiry =>
    split
    · exact .same rfl
    · exact .refl s
  case lidReadCompletion => exact s.takeLidEnding_keeps _
  case lidReadTimeout => exact s.takeLidLimit_keeps
  case postureSwap =>
    repeat' split
    · exact s.takeLidEnding_keeps _
    · exact s.takeLidLimit_keeps
    · exact .refl s
  case attachConfirmed =>
    split
    · rename_i confirmed
      exact s.attachConfirmed_keeps confirmed.1
    · exact .refl s
  case presenceLoss =>
    split
    · exact s.enterAbsent_keeps true
    · exact .refl s
  case transactionStart =>
    repeat' split
    · exact s.transactionStart_keeps (by assumption)
    · exact .refl s
    · exact .refl s
  case baseCharacterReceived =>
    split
    · rename_i receives
      exact s.takeChar_keeps (State.receiving_txn receives) _
    · exact .refl s
  case transactionDeadline =>
    split
    · rename_i late
      exact s.fail_keeps (State.overdue_txn late) _ _
    · exact .refl s
  case retryTimerExpiry =>
    repeat' split
    · rename_i expired
      refine (State.leaveDeep_keeps _).after (s.line_keeps rfl (.inl rfl) fun _ _ ok => { ok with retry := fun _ => expired.1 })
    · exact .refl s
    · exact .refl s
  case idleLineLow =>
    split
    · rename_i low
      simp only [Bool.and_eq_true, Option.isNone_iff_eq_none] at low
      exact s.line_keeps rfl (.inl rfl) fun _ _ ok => { ok with
        txn := fun t flight => by
          have := low.1.2.symm.trans flight
          cases this }
    · exact .refl s
  case attention =>
    repeat' split
    · exact (State.attention_keeps _).after (s.timedLow_keeps (by assumption) _)
    · exact .refl s
    · exact .refl s
  case glitch =>
    repeat' split
    · refine (State.bump_keeps _ _).after (s.line_keeps rfl (.inl rfl) fun _ _ ok => { ok with
        txn := fun t flight => ⟨rfl, (ok.txn t flight).2⟩ })
    · exact .refl s
    · exact .refl s
  case stuckLine =>
    repeat' split
    · rename_i low _
      exact State.stuck_after (s.timedLow_keeps low _) fun ok => ok.txn_none low
    · exact .refl s
    · exact .refl s
  case scheduleSwap =>
    split
    · rename_i due
      exact s.swapSchedule_keeps due.1
    · exact .refl s
  case upFrameStart =>
    dsimp only
    split
    · rename_i free
      refine (State.startFrame_keeps _ ?_).after (.same rfl)
      exact free.2.1
    · exact .same rfl
  case upFrameEnd =>
    split
    · exact s.frameEnds_keeps (by assumption) _
    · exact .refl s
  case srdyRise =>
    dsimp only
    split
    · exact (State.systemAwake_keeps _).after (.same rfl)
    · exact .same rfl
  case downFrameReceived =>
    split
    · exact State.hunt_keeps _ _ _
    · exact .refl s
  case badDownFrame =>
    split
    · exact State.hunt_keeps _ _ _
    · exact .refl s
  case downCharacterReceived => exact State.hunt_keeps _ _ _
  case downFrameAbandon =>
    split
    · exact .same rfl
    · exact .refl s
  case badKind => exact s.carryOut_keeps _ fun u f => u.answer_kept _ _ _
  case tableWrite => exact s.carryOut_keeps _ fun u f => u.tableWrite_kept f
  case clearCounters => exact s.carryOut_keeps _ fun u f => u.queryCounters_kept f
  case tableCommit => exact s.carryOut_keeps _ fun u f => u.fixedLength_kept f _ (u.tableCommit_kept f)
  case tableRead => exact s.carryOut_keeps _ fun u f => u.fixedLength_kept f _ (u.tableRead_kept f)
  case query => exact s.carryOut_keeps _ fun u f => u.fixedLength_kept f _ (u.query_kept f)
  case baseWrite =>
    refine s.carryOut_keeps _ fun u f => ?_
    split
    · exact u.answer_kept _ _ _
    · exact u.baseWrite_kept f
  case detachGrant => exact s.carryOut_keeps _ fun u f => u.fixedLength_kept f _ (u.detachGrant_kept f)
  case detachDeny => exact s.carryOut_keeps _ fun u f => u.fixedLength_kept f _ (u.detachDeny_kept f)
  case detachRelease => exact s.carryOut_keeps _ fun u f => u.fixedLength_kept f _ (u.detachRelease_kept f)
  case chargeControl => exact s.carryOut_keeps _ fun u f => u.fixedLength_kept f _ (u.chargeRequest_kept f)
  case systemStateSleeping | systemStateAwake =>
    exact s.carryOut_keeps _ fun u f => u.fixedLength_kept f _ (u.systemRequest_kept f)
  case hubResetLinks | hubResetAll => exact s.carryOut_keeps _ fun u f => u.fixedLength_kept f _ (u.hubReset_kept f)
  case requestTimerExpiry =>
    split
    · exact (State.detachNotice_keeps _ _ _ _).after (.same rfl)
    · exact .refl s
  case forcedRelease =>
    repeat' split
    · exact (State.toReleasing_keeps _ _).after (.same rfl)
    · exact .same rfl
    · exact .refl s
  case pulseTimerExpiry =>
    dsimp only
    repeat' split
    · exact (State.event_keeps _ _).after (s.endPulse_keeps.trans (.same rfl))
    · exact s.endPulse_keeps.trans (.same rfl)
    · exact .refl s
  case releaseWindowExpiry =>
    dsimp only
    repeat' split
    · exact (State.detachNotice_keeps _ _ _ _).after (.same rfl)
    · exact (State.event_keeps _ _).after ((State.detachNotice_keeps _ _ _ _).after (.same rfl))
    · exact .refl s
  case waitTimerExpiry =>
    split
    · exact s.toIdent_keeps _
    · exact .refl s
  case resonanceInterval =>
    split
    · exact (State.risingEdge_keeps _ _).after (.same rfl)
    · exact .refl s
  case resonanceTimeout =>
    repeat' split
    · exact s.toFault_keeps _ _
    · exact .refl s
    · exact .refl s
  case burstTimerExpiry =>
    split
    · exact s.burstFailed_keeps
    · exact .refl s
  case packetCompletion =>
    split
    · exact (State.edge_keeps _ _).after (.same rfl)
    · exact .refl s
  case packetAbort =>
    repeat' split
    · exact (State.edge_keeps _ _).after (.same rfl)
    · exact .refl s
    · exact (State.silence_keeps _).after (.same rfl)
    · exact .refl s
  case silenceLimit =>
    split
    · exact (State.silence_keeps _).after (.same rfl)
    · exact .refl s
  case chargeEntry =>
    repeat' split
    · exact s.periodBoundary_keeps
    · exact s.makeWaiting_keeps
    · exact .refl s
    · exact .refl s
  case stageChange =>
    repeat' split
    · exact .refl s
    · exact s.periodBoundary_keeps
    · exact s.makeWaiting_keeps
    · exact .refl s
  case periodBoundary =>
    split
    · exact s.periodBoundary_keeps
    · exact .refl s
  case chargeSwap =>
    repeat' split
    · exact s.periodBoundary_keeps
    · exact .refl s
    · exact s.swapCharge_waited (by assumption)
    · exact .refl s
  case stageTimerExpiry =>
    split
    · exact s.toFault_keeps _ _
    · exact .refl s
  case packetTimerExpiry =>
    split
    · exact s.packetTimedOut_keeps
    · exact .refl s
  case recheckTimerExpiry =>
    repeat' split
    · exact s.toIdent_keeps _
    · exact .same rfl
    · exact .refl s
  case activityTimerExpiry =>
    split
    · rename_i idle
      exact (State.notice_keeps _ _).after (s.awakeState_keeps (by simp [idle.1]) (by simp) rfl)
    · exact .refl s
  case deepEntry =>
    split
    · exact s.enterDeep_keeps (by assumption)
    · exact .refl s
  case clockStartEnd =>
    repeat' split
    · exact s.clockStarted_keeps _ (by assumption)
    · exact .refl s
    · exact .refl s
  case wakePulseTimerExpiry =>
    split
    · exact .ofPower rfl fun ok => { ok with wakeLow := rfl }
    · exact .refl s
  case bciEdge =>
    dsimp only
    repeat' split
    · exact (State.edge_keeps _ _).after (.same rfl)
    · exact .same rfl
    · exact .refl s
  case resonanceRisingEdge =>
    dsimp only
    split
    · exact (State.risingEdge_keeps _ _).after (.same rfl)
    · exact .same rfl
  case lineReleasedForAnswer =>
    split
    · rename_i sends
      exact s.sameTxn_keeps (State.sending_txn sends) rfl
    · exact .refl s

/-- Every step keeps every invariant of the whole state, but for a reset, which begins anew. -/
theorem step_keeps {s t : State} (ran : step s = .next t) : s.Keeps t ∨ t.IsReset := by
  cases pending : s.pending with
  | nil =>
    rw [step_of_idle pending] at ran
    obtain rfl := Host.Outcome.next.inj ran
    unfold State.driveTick
    split
    · exact .inl (.refl s)
    · exact .inl (.same rfl)
  | cons c rest =>
    rw [step_of_pending pending] at ran
    exact (exec_keeps ran).imp_left fun h => h.after (.same rfl)

/-! ### The states that a reset leaves -/

section
variable {t : State}

theorem State.IsReset.queueOk (h : t.IsReset) : t.QueueOk := by
  obtain ⟨code, enable, pins, pending, rfl⟩ := h
  exact {
    reports := Nat.zero_le _
    notices := fun k => List.countP_le_length
    places := rfl
    room := Nat.zero_le _
    started := fun e he => absurd he List.not_mem_nil
    sending := rfl
    followOn := .nil
    behind := fun m hm => absurd hm List.not_mem_nil }

theorem State.IsReset.imagesOk (h : t.IsReset) : t.ImagesOk := by
  obtain ⟨code, enable, pins, pending, rfl⟩ := h
  exact ⟨State.reset_imagesOk.1, State.reset_imagesOk.2, State.reset_imagesOk.3⟩

theorem State.IsReset.countersOk (h : t.IsReset) : t.CountersOk := by
  obtain ⟨code, enable, pins, pending, rfl⟩ := h
  exact ⟨State.reset_countersOk.1, State.reset_countersOk.2, State.reset_countersOk.3⟩

theorem State.IsReset.powerOk (h : t.IsReset) : t.PowerOk := by
  obtain ⟨code, enable, pins, pending, rfl⟩ := h
  constructor <;> simp [State.afterReset, Spm.initial, Blk.initial, Psc.initial]

theorem State.IsReset.linkOk (h : t.IsReset) : t.LinkOk := by
  obtain ⟨code, enable, pins, pending, rfl⟩ := h
  have ok := State.reset_linkOk
  exact ⟨ok.1, ok.2, ok.3, ok.4, ok.5, ok.6⟩

theorem State.IsReset.anglesOk (h : t.IsReset) : t.AnglesOk := by
  obtain ⟨code, enable, pins, pending, rfl⟩ := h
  have ok := State.reset_anglesOk
  exact ⟨ok.1, ok.2, ok.3, ok.4, ok.5, ok.6, ok.7, ok.8, ok.9, ok.10, ok.11, ok.12, ok.13⟩

theorem State.IsReset.pollsOk (h : t.IsReset) : t.PollsOk := by
  obtain ⟨code, enable, pins, pending, rfl⟩ := h
  have ok := State.reset_pollsOk
  exact ⟨ok.1, ok.2, ok.3, ok.4, ok.5⟩

theorem State.IsReset.postureOk (h : t.IsReset) : t.PostureOk := by
  obtain ⟨code, enable, pins, pending, rfl⟩ := h
  exact ⟨iff_of_true rfl rfl⟩

end

/-! ### The obligations -/

theorem State.LinkOk.quietAbsence {s : State} (ok : s.LinkOk) : s.QuietAbsence := by
  intro absent
  cases flight : s.blk.txn with
  | none => rfl
  | some t =>
    have asks := (ok.txn t flight).2
    rw [absent] at asks
    split at asks <;> simp at asks

/-- Settles O52: a step follows its state with no reply place claimed before or after it. -/
theorem everyStepKeepsTheQueue : Obligations.EveryStepKeepsTheQueue := by
  intro s t ok ran
  rcases step_keeps ran with keeps | reset
  · have := keeps.queue 0
    rw [Nat.add_zero, Nat.add_zero] at this
    exact t.queueOk_iff.2 (this (s.queueOk_iff.1 ok))
  · exact reset.queueOk

/-- Settles O53. -/
theorem everyStepKeepsImagesAndCounters : Obligations.EveryStepKeepsImagesAndCounters := by
  intro s t ran
  rcases step_keeps ran with keeps | reset
  · exact ⟨keeps.images, keeps.counters⟩
  · exact ⟨fun _ => reset.imagesOk, fun _ => reset.countersOk⟩

/-- Settles O56. -/
theorem everyStepKeepsThePowerStates : Obligations.EveryStepKeepsThePowerStates := by
  intro s t ok ran
  rcases step_keeps ran with keeps | reset
  · exact keeps.power ok
  · exact reset.powerOk

/-- Settles O57. -/
theorem everyStepKeepsTheBaseLink : Obligations.EveryStepKeepsTheBaseLink := by
  intro s t images polls ran
  rcases step_keeps ran with keeps | reset
  · exact ⟨keeps.polls images polls, keeps.link images polls⟩
  · exact ⟨reset.pollsOk, fun _ => reset.linkOk⟩

/-- Settles O58. -/
theorem everyStepKeepsTheAngles : Obligations.EveryStepKeepsTheAngles := by
  intro s t ok ran
  rcases step_keeps ran with keeps | reset
  · exact keeps.angles ok
  · exact reset.anglesOk

/-- Settles O59: of the link's invariant it needs only that no transaction is in flight in ABSENT. -/
theorem thePostureIsDetachedExactlyWithoutABase : Obligations.ThePostureIsDetachedExactlyWithoutABase := by
  intro s t images link ok ran
  rcases step_keeps ran with keeps | reset
  · exact keeps.posture images link.quietAbsence ok
  · exact reset.postureOk

end Sys2Proof.Machine
end

section
/-!
PROOFS. The scheduler's due times and swap (R84, R86, R87), the one place of each notice kind (R107, R108), and the requests whose
checks decide alone: those refused, and the writes to the base (R93, R182, R183).
-/

namespace Sys2Proof.Machine

/-! ### Due times -/

section
variable {s : State} {i : Nat}

theorem exec_dueTime (present : i < 12) (runs : s.dueRuns i = true) (due : s.duePeriod i ≤ s.psc.due.getD i 0) :
    exec (.dueTime i) s = .next (s.dueTime i) := by
  have fallsDue : (s.dueRuns i && decide (s.duePeriod i ≤ s.psc.due.getD i 0)) = true := by rw [runs, decide_eq_true due]; rfl
  change execDueTime i s = _
  rw [execDueTime, if_pos (show i < Config.slots from present), if_pos fallsDue]

theorem State.dueTime_owed (below : s.owed i < (s.slot i).maxOwed) :
    s.dueTime i = { s with psc.due := s.psc.due.set i 0, psc.owed := s.psc.owed.set i (s.owed i + 1) } := if_pos below

theorem State.dueTime_skipped (full : (s.slot i).maxOwed ≤ s.owed i) :
    s.dueTime i = ({ s with psc.due := s.psc.due.set i 0 } : State).bump (skippedCounter (s.slot i).fn) :=
  if_neg (Nat.not_lt.mpr full)

theorem State.capable_slot_iff : s.capable i = true ↔
    s.blk.link = .running ∧ i < s.sched.slotCount ∧ ∃ r, s.blk.record = some r ∧ r.capability.getLsbD (s.slot i).fn = true := by
  cases record : s.blk.record <;> simp [State.capable, record, and_assoc]

theorem State.dueRuns_iff : s.dueRuns i = true ↔
    (s.blk.link = .running ∧ i < s.sched.slotCount ∧ ∃ r, s.blk.record = some r ∧ r.capability.getLsbD (s.slot i).fn = true) ∧
    (s.spm.hub = .run ∨ (s.spm.hub = .doze ∧ (s.slot i).periodDoze ≠ 0)) := by
  rw [State.dueRuns, Bool.and_eq_true, State.capable_slot_iff, State.polledIn_iff]

theorem State.duePeriod_run (run : s.spm.hub = .run) : s.duePeriod i = (s.slot i).periodRun := by simp [State.duePeriod, run]

theorem State.duePeriod_doze (doze : s.spm.hub = .doze) : s.duePeriod i = (s.slot i).periodDoze := if_pos doze

theorem exec_scheduleSwap (awaits : s.tables.schedule.awaiting = true) (idle : s.blk.txn = none) :
    exec .scheduleSwap s = .next (s.swapTable .schedule).stopPolls := by
  change execScheduleSwap s = _
  rw [execScheduleSwap, if_pos ⟨awaits, idle⟩]

end

/-- Settles O24: a due time by the owed count against its bound, the runs and periods by the hub power state, the swap by its
two conditions. -/
theorem dueTimesAreOwedAndSwapsClearThem : Obligations.DueTimesAreOwedAndSwapsClearThem := by
  unfold Obligations.DueTimesAreOwedAndSwapsClearThem
  refine ⟨fun s i present runs due => ⟨fun below => ?_, fun full => ?_⟩,
    fun s i => ⟨State.dueRuns_iff, State.duePeriod_run, State.duePeriod_doze⟩, fun s awaits idle => ?_⟩
  · rw [exec_dueTime present runs due, State.dueTime_owed below]
  · rw [exec_dueTime present runs due, State.dueTime_skipped full]
    rfl
  · rw [exec_scheduleSwap awaits idle]
    rfl

/-! ### The place of a notice -/

section
variable {u : Upq} {n : Notice} {a z : List Entry} {e : Entry}

theorem Upq.issue_absent (none : u.entries.all (fun e => !e.isNotice n.kind) = true) :
    u.issue n = { u with entries := u.entries ++ [⟨.notice n, false⟩] } := by
  have absent : ∀ e ∈ u.entries, e.isNotice n.kind = false := by simpa using none
  have unwaiting : u.entries.any (Entry.waits n.kind) = false := by
    rw [List.any_eq_false]
    exact fun e at_ => by simp [Entry.waits, absent e at_]
  have unqueued : u.entries.any (Entry.isNotice n.kind) = false := by
    rw [List.any_eq_false]
    exact fun e at_ => by simp [absent e at_]
  rw [Upq.issue, unwaiting, unqueued]
  rfl

/-- With one notice of a kind queued, no other entry is of that kind. -/
theorem Upq.others_of_notices_one {k : NoticeKind} (queued : u.entries = a ++ e :: z) (kind : e.isNotice k = true)
    (one : u.notices k = 1) : (∀ x ∈ a, x.isNotice k = false) ∧ ∀ x ∈ z, x.isNotice k = false := by
  rw [Upq.notices, queued, List.countP_append, List.countP_cons_of_pos kind] at one
  have before : List.countP (Entry.isNotice k) a = 0 := by omega
  have behind : List.countP (Entry.isNotice k) z = 0 := by omega
  exact ⟨fun x at_ => by simpa using List.countP_eq_zero.mp before x at_,
    fun x at_ => by simpa using List.countP_eq_zero.mp behind x at_⟩

/-- R107: replacing the waiting entries of a kind leaves those of other kinds. -/
theorem replaced_of_absent {k : NoticeKind} {l : List Entry} (absent : ∀ x ∈ l, x.isNotice k = false) :
    l.map (fun e => if e.waits k then { e with content := .notice n } else e) = l := by
  conv_rhs => rw [← List.map_id l]
  exact List.map_congr_left fun x at_ => by simp [Entry.waits, absent x at_]

theorem Upq.issue_replaces (queued : u.entries = a ++ e :: z) (kind : e.isNotice n.kind = true) (one : u.notices n.kind = 1)
    (unstarted : e.started = false) : u.issue n = { u with entries := a ++ ⟨.notice n, false⟩ :: z } := by
  obtain ⟨before, behind⟩ := Upq.others_of_notices_one queued kind one
  have waits : e.waits n.kind = true := by simp [Entry.waits, kind, unstarted]
  have some : u.entries.any (Entry.waits n.kind) = true := by
    rw [queued, List.any_append, List.any_cons, waits, Bool.true_or, Bool.or_true]
  rw [Upq.issue, if_pos some, queued, List.map_append, List.map_cons, replaced_of_absent before, replaced_of_absent behind, if_pos waits,
    unstarted]

theorem Upq.issue_follows (queued : u.entries = a ++ e :: z) (kind : e.isNotice n.kind = true) (one : u.notices n.kind = 1)
    (started : e.started = true) :
    u.issue n = { u with followOn := u.followOn.filter (fun m => m.kind != n.kind) ++ [n] } := by
  obtain ⟨before, behind⟩ := Upq.others_of_notices_one queued kind one
  have none : u.entries.any (Entry.waits n.kind) = false := by
    rw [List.any_eq_false, queued]
    intro x at_
    rcases List.mem_append.mp at_ with at_ | at_
    · simp [Entry.waits, before x at_]
    rcases List.mem_cons.mp at_ with rfl | at_
    · simp [Entry.waits, started]
    · simp [Entry.waits, behind x at_]
  have some : u.entries.any (Entry.isNotice n.kind) = true := by
    rw [queued, List.any_append, List.any_cons, kind, Bool.true_or, Bool.or_true]
  rw [Upq.issue, if_neg (by simp [none]), if_pos some]

end

section
variable {u : Upq}

theorem Upq.find?_waits_none (unwaiting : u.entries.all (fun e => !e.isNotice .event || e.started) = true) :
    u.entries.find? (Entry.waits .event) = none := by
  rw [List.find?_eq_none]
  exact fun e at_ => by simpa [Entry.waits, ← Bool.not_eq_true, or_iff_not_imp_left] using (List.all_eq_true.mp unwaiting) e at_

/-- R108: no EVENT notice waits, and none follows on. -/
theorem Upq.nextEventCount_alone (unwaiting : u.entries.all (fun e => !e.isNotice .event || e.started) = true)
    (alone : u.followOn.find? (fun m => m.kind == .event) = none) : u.nextEventCount = 1 := by
  simp only [Upq.nextEventCount, Upq.find?_waits_none unwaiting, alone]

/-- R108: no EVENT notice waits, and one follows on. -/
theorem Upq.nextEventCount_following (unwaiting : u.entries.all (fun e => !e.isNotice .event || e.started) = true) {n : Notice}
    (following : u.followOn.find? (fun m => m.kind == .event) = some n) : u.nextEventCount = min (n.eventCount + 1) 255 := by
  simp only [Upq.nextEventCount, Upq.find?_waits_none unwaiting, following]

theorem find?_event_append {a z : List Notice} {code : EventCode} {k : Nat} (before : a.all (fun m => m.kind != .event) = true) :
    (a ++ .event code k :: z).find? (fun m => m.kind == .event) = some (.event code k) := by
  have none : a.find? (fun m => m.kind == .event) = none := by
    rw [List.find?_eq_none]
    exact fun m at_ => by simpa using (List.all_eq_true.mp before) m at_
  rw [List.find?_append, none]
  rfl

theorem Upq.nextEventCount_waiting {a z : List Entry} {code : EventCode} {k : Nat}
    (queued : u.entries = a ++ ⟨.notice (.event code k), false⟩ :: z)
    (before : a.all (fun e => !e.isNotice .event || e.started) = true) : u.nextEventCount = min (k + 1) 255 := by
  have none : a.find? (Entry.waits .event) = none := by
    rw [List.find?_eq_none]
    exact fun e at_ => by simpa [Entry.waits, ← Bool.not_eq_true, or_iff_not_imp_left] using (List.all_eq_true.mp before) e at_
  have found : u.entries.find? (Entry.waits .event) = some ⟨.notice (.event code k), false⟩ := by
    rw [queued, List.find?_append, none]
    rfl
  simp only [Upq.nextEventCount, found, Entry.eventCount, Notice.eventCount]

end

/-- Settles O26: the place by the notice of the kind that is queued, the count by the EVENT notice it goes on from. -/
theorem eachNoticeKindHasOnePlace : Obligations.EachNoticeKindHasOnePlace := by
  unfold Obligations.EachNoticeKindHasOnePlace
  refine fun u n => ⟨Upq.issue_absent, fun a z e queued kind one =>
    ⟨Upq.issue_replaces queued kind one, Upq.issue_follows queued kind one⟩, fun unwaiting => ⟨fun none => ?_,
    fun a z code k queued before => ?_⟩, fun a z code k => Upq.nextEventCount_waiting⟩
  · have unfollowed : u.followOn.find? (fun m => m.kind == .event) = Option.none := by
      rw [List.find?_eq_none]
      exact fun m at_ => by simpa using (List.all_eq_true.mp none) m at_
    exact Upq.nextEventCount_alone unwaiting unfollowed
  · exact Upq.nextEventCount_following unwaiting (by rw [queued, find?_event_append before])

/-! ### Requests refused -/

section
variable {s t : State} {f : DownFrame} {rest : List DownFrame} {mine : DownFrame → Bool} {act : State → DownFrame → State}

/-- R182, R190: with both reply places taken, or after a HUB_RESET with scope ALL, no request is carried out. -/
theorem State.carryOut_waits (waits : 2 ≤ s.upq.placesTaken ∨ s.slk.resetAll ≠ .idle) : s.carryOut mine act = s := by
  have held : ¬(s.upq.placesTaken < Config.replyPlaces ∧ s.slk.resetAll = .idle) := by
    rintro ⟨free, idle⟩
    rcases waits with taken | reset
    · exact absurd free (Nat.not_lt.mpr taken)
    · exact reset idle
  rw [State.carryOut, State.request, if_neg held]

theorem State.carryOut_mine (offered : s.offers f rest) (own : mine f = true) : s.carryOut mine act = act (s.taken rest) f := by
  rw [State.carryOut_of_offers offered, if_pos own]

/-- R183: a payload of another length than its kind's is answered BAD_LENGTH. -/
theorem State.fixedLength_wrong {n : Nat} {act : State → State} (wrong : f.payload.length ≠ n) :
    s.fixedLength f n act = s.replied f.kind .badLength [] := if_neg wrong

end

/-- The requests of a fixed length, by kind: the length, and the command. -/
def fixedRequests : List (Byte × Nat × Instr) :=
  [(0x41, 1, .tableCommit), (0x42, 4, .tableRead), (0x43, 2, .query), (0x45, 0, .detachGrant), (0x46, 0, .detachDeny),
    (0x47, 0, .detachRelease), (0x48, 3, .chargeControl), (0x49, 2, .systemStateSleeping), (0x49, 2, .systemStateAwake),
    (0x4A, 1, .hubResetLinks), (0x4A, 1, .hubResetAll)]

section
variable {s : State} {f : DownFrame} {rest : List DownFrame}

theorem exec_badKind (offered : s.offers f rest) (unknown : f.kind.toNat < 0x40 ∨ 0x4A < f.kind.toNat) :
    exec .badKind s = .next ((s.taken rest).replied f.kind .badKind []) := by
  have own : (!f.known) = true := by
    simp only [DownFrame.known, Bool.not_eq_true', decide_eq_false_iff_not]
    omega
  exact congrArg Host.Outcome.next (State.carryOut_mine offered own)

theorem exec_tableWrite_short (offered : s.offers f rest) (kind : f.kind = 0x40) (short : f.payload.length < 3) :
    exec .tableWrite s = .next ((s.taken rest).replied f.kind .badLength []) := by
  have own : (f.kind == 0x40) = true := by simp [kind]
  exact congrArg Host.Outcome.next ((State.carryOut_mine offered own).trans (if_pos short))

theorem exec_baseWrite_short (offered : s.offers f rest) (kind : f.kind = 0x44) (short : f.payload.length < 2) :
    exec .baseWrite s = .next ((s.taken rest).replied f.kind .badLength []) := by
  have own : (f.kind == 0x44) = true := by simp [kind]
  exact congrArg Host.Outcome.next ((State.carryOut_mine offered own).trans (if_pos short))

/-- R183: each command of a fixed length refuses another length before anything else. -/
theorem exec_fixedRequest_wrong (offered : s.offers f rest) {p : Byte × Nat × Instr} (at_ : p ∈ fixedRequests) (kind : f.kind = p.1)
    (wrong : f.payload.length ≠ p.2.1) : exec p.2.2 s = .next ((s.taken rest).replied f.kind .badLength []) := by
  have refused (mine : DownFrame → Bool) (act : DownFrame → State → State) (own : mine f = true) :
      Host.Outcome.next (s.carryOut mine fun t f => t.fixedLength f p.2.1 (act f)) =
        (.next ((s.taken rest).replied f.kind .badLength []) : Host.Outcome State Fault Refusal) :=
    congrArg _ ((State.carryOut_mine offered own).trans (State.fixedLength_wrong wrong))
  simp only [fixedRequests, List.mem_cons, List.not_mem_nil, or_false] at at_
  rcases at_ with rfl | rfl | rfl | rfl | rfl | rfl | rfl | rfl | rfl | rfl | rfl
  all_goals exact refused _ (fun f u => _) (by simp at wrong kind ⊢; simp [kind, wrong])

end

/-- Settles O42: nothing is carried out while a request waits; what is refused is refused before anything else. -/
theorem requestsWaitAndAreChecked : Obligations.RequestsWaitAndAreChecked := by
  unfold Obligations.RequestsWaitAndAreChecked
  refine fun s => ⟨fun f rest _ waits c at_ => ?_, fun f rest => exec_badKind, fun f rest offered =>
    ⟨exec_tableWrite_short offered, exec_baseWrite_short offered, fun p => exec_fixedRequest_wrong offered⟩⟩
  simp only [List.mem_cons, List.not_mem_nil, or_false] at at_
  rcases at_ with rfl | rfl | rfl | rfl | rfl | rfl | rfl | rfl | rfl | rfl | rfl | rfl | rfl | rfl | rfl
  all_goals exact congrArg Host.Outcome.next (State.carryOut_waits waits)

/-! ### Writes to the base -/

section
variable {s : State} {n l : Byte} {data : List Byte} {fn : BaseFn}

theorem exec_baseWrite {rest : List DownFrame} (offered : s.offers ⟨0x44, n :: l :: data⟩ rest) :
    exec .baseWrite s = .next ((s.taken rest).baseWrite ⟨0x44, n :: l :: data⟩) :=
  congrArg Host.Outcome.next ((State.carryOut_mine offered rfl).trans (if_neg (by simp)))

/-- R93: only LIGHT and INDICATOR take writes. -/
theorem State.baseWrite_other (light : n ≠ 6) (indicator : n ≠ 7) :
    s.baseWrite ⟨0x44, n :: l :: data⟩ = s.replied 0x44 .badValue [] := by
  have unlit : n.toNat ≠ 6 := fun h => light (BitVec.eq_of_toNat_eq h)
  have unmarked : n.toNat ≠ 7 := fun h => indicator (BitVec.eq_of_toNat_eq h)
  change (match BaseFn.ofNumber n.toNat with
    | some .light => _
    | some .indicator => _
    | _ => _) = _
  unfold BaseFn.ofNumber
  split <;> first | rfl | (rename_i found; split at found <;> simp_all)

theorem State.baseWrite_writable (writable : n = 6 ∨ n = 7) :
    s.baseWrite ⟨0x44, n :: l :: data⟩ =
      s.queueWrite ⟨0x44, n :: l :: data⟩ (if n = 6 then BaseFn.light else BaseFn.indicator) l.toNat := by
  rcases writable with rfl | rfl <;> rfl

theorem State.queueWrite_long (long : 32 < l.toNat) :
    s.queueWrite ⟨0x44, n :: l :: data⟩ fn l.toNat = s.replied 0x44 .badValue [] := if_pos long

variable (fits : l.toNat ≤ 32)
include fits

theorem State.queueWrite_length (wrong : data.length ≠ l.toNat) :
    s.queueWrite ⟨0x44, n :: l :: data⟩ fn l.toNat = s.replied 0x44 .badLength [] := by
  have other : (n :: l :: data).length ≠ 2 + l.toNat := by
    simp only [List.length_cons]
    omega
  rw [State.queueWrite, if_neg (Nat.not_lt.mpr fits), if_pos other]
  rfl

variable (right : data.length = l.toNat)
include right

/-- R93: what is checked of a write whose length is right. -/
theorem State.queueWrite_eq :
    s.queueWrite ⟨0x44, n :: l :: data⟩ fn l.toNat =
      if s.blk.link ≠ .running then s.replied 0x44 .baseAbsent []
      else if !(s.blk.record.any fun r => r.capability.getLsbD fn.number) then s.replied 0x44 .badValue []
      else if 8 ≤ s.psc.writes.length then s.replied 0x44 .full []
      else ({ s with psc.writes := s.psc.writes ++ [⟨fn, data⟩] } : State).replied 0x44 .ok [] := by
  have own : ¬(n :: l :: data).length ≠ 2 + l.toNat := by
    simp only [List.length_cons]
    omega
  rw [State.queueWrite, if_neg (Nat.not_lt.mpr fits), if_neg own]
  rfl

end

theorem writableFn_number {n : Byte} (writable : n = 6 ∨ n = 7) :
    (if n = 6 then BaseFn.light else BaseFn.indicator).number = n.toNat := by
  rcases writable with rfl | rfl <;> rfl

theorem any_capability_iff {record : Option BaseRecord} {n : Nat} :
    (record.any fun r => r.capability.getLsbD n) = true ↔ ∃ r, record = some r ∧ r.capability.getLsbD n = true := by
  simp [Option.any_eq_true]

/-- Settles O46, check by check. -/
theorem baseWritesAreCheckedAndQueued : Obligations.BaseWritesAreCheckedAndQueued := by
  unfold Obligations.BaseWritesAreCheckedAndQueued
  intro s rest n l data offered
  rw [exec_baseWrite offered]
  refine ⟨fun light indicator => congrArg _ (State.baseWrite_other light indicator), fun writable => ?_⟩
  rw [State.baseWrite_writable writable]
  refine ⟨fun long => congrArg _ (State.queueWrite_long long), fun fits wrong => congrArg _ (State.queueWrite_length fits wrong),
    fun fits right => ?_⟩
  rw [State.queueWrite_eq fits right, writableFn_number writable]
  refine ⟨fun absent => congrArg _ (if_pos absent), fun running incapable => ?_, fun running capable full => ?_,
    fun running capable room => ?_⟩
  all_goals
    have live : ¬(s.taken rest).blk.link ≠ .running := not_not.mpr running
    rw [if_neg live]
  · rw [if_pos (by rw [Bool.not_eq_true', ← Bool.not_eq_true, any_capability_iff]; exact incapable)]
  all_goals
    rw [if_neg (by rw [Bool.not_eq_true', Bool.not_eq_false, any_capability_iff]; exact capable)]
  · exact congrArg _ (if_pos full)
  · exact congrArg _ (if_neg (Nat.not_le.mpr room))

end Sys2Proof.Machine
end

section
/-!
PROOFS. Encodings (R191): numbers, signed values, sets and optional fields as characters; the rows of a table; the pages of a query
(R187); the up frames (R110, R180).
-/

namespace Sys2Proof.Machine

/-! ### Numbers as characters -/

theorem leBytes_length (w n : Nat) : (leBytes w n).length = w := by
  induction w generalizing n with
  | zero => rfl
  | succ w ih => simp [leBytes, ih]

theorem leBytes_one (n : Nat) : leBytes 1 n = [BitVec.ofNat 8 n] := rfl

theorem leBytes_two (n : Nat) : leBytes 2 n = [BitVec.ofNat 8 n, BitVec.ofNat 8 (n / 256)] := rfl

theorem leBytes_four (n : Nat) :
    leBytes 4 n = [BitVec.ofNat 8 n, BitVec.ofNat 8 (n / 256), BitVec.ofNat 8 (n / 65536), BitVec.ofNat 8 (n / 16777216)] := by
  simp [leBytes, byteOf, Nat.div_div_eq_div_mul]

theorem leNat_leBytes {w n : Nat} (fits : n < 256 ^ w) : leNat (leBytes w n) = n := by
  induction w generalizing n with
  | zero => simpa [leBytes, leNat, eq_comm] using fits
  | succ w ih =>
    have rest : n / 256 < 256 ^ w := Nat.div_lt_of_lt_mul (by rwa [Nat.pow_succ'] at fits)
    rw [leBytes, leNat, ih rest, byteOf, BitVec.toNat_ofNat]
    exact Nat.mod_add_div n 256

theorem leBytes_leNat (bs : List Byte) : leBytes bs.length (leNat bs) = bs := by
  induction bs with
  | nil => rfl
  | cons b bs ih =>
    have low : byteOf (b.toNat + 256 * leNat bs) = b := BitVec.eq_of_toNat_eq (by simp [byteOf, Nat.mod_eq_of_lt b.isLt])
    have high : (b.toNat + 256 * leNat bs) / 256 = leNat bs := by
      have := b.isLt
      omega
    rw [List.length_cons, leBytes, leNat, low, high, ih]

theorem leSigned_one (z : Int) : leSigned 1 z = [BitVec.ofInt 8 z] := by
  have same : BitVec.ofNat 8 (z % (256 ^ 1 : Nat)).toNat = BitVec.ofInt 8 z := by
    refine BitVec.eq_of_toNat_eq ?_
    rw [BitVec.toNat_ofNat, BitVec.toNat_ofInt]
    omega
  rw [leSigned, leBytes_one, same]

theorem leSigned_two (z : Int) :
    leSigned 2 z = [(BitVec.ofInt 16 z).extractLsb' 0 8, (BitVec.ofInt 16 z).extractLsb' 8 8] := by
  have low : BitVec.ofNat 8 (z % (256 ^ 2 : Nat)).toNat = (BitVec.ofInt 16 z).extractLsb' 0 8 := by
    refine BitVec.eq_of_toNat_eq ?_
    rw [BitVec.toNat_ofNat, BitVec.extractLsb'_toNat, BitVec.toNat_ofInt, Nat.shiftRight_zero]
    omega
  have high : BitVec.ofNat 8 ((z % (256 ^ 2 : Nat)).toNat / 256) = (BitVec.ofInt 16 z).extractLsb' 8 8 := by
    refine BitVec.eq_of_toNat_eq ?_
    rw [BitVec.toNat_ofNat, BitVec.extractLsb'_toNat, BitVec.toNat_ofInt, Nat.shiftRight_eq_div_pow]
    omega
  rw [leSigned, leBytes_two, low, high]

theorem leSigned_length (w : Nat) (z : Int) : (leSigned w z).length = w := leBytes_length _ _

theorem leOpt_one (o : Option Nat) : leOpt 1 o = [(o.map (BitVec.ofNat 8)).getD 0xFF] := by cases o <;> rfl

theorem leOpt_two (o : Option Nat) :
    leOpt 2 o = (o.map fun n => [BitVec.ofNat 8 n, BitVec.ofNat 8 (n / 256)]).getD [0xFF, 0xFF] := by cases o <;> rfl

theorem leOpt_length (w : Nat) (o : Option Nat) : (leOpt w o).length = w := by
  cases o with
  | none => exact List.length_replicate
  | some n => exact leBytes_length w n

theorem leZero_one (o : Option Nat) : leZero 1 o = [BitVec.ofNat 8 (o.getD 0)] := by cases o <;> rfl

theorem leZero_two (o : Option Nat) :
    leZero 2 o = (o.map fun n => [BitVec.ofNat 8 n, BitVec.ofNat 8 (n / 256)]).getD [0, 0] := by cases o <;> rfl

theorem leZero_length (w : Nat) (o : Option Nat) : (leZero w o).length = w := by
  cases o with
  | none => exact List.length_replicate
  | some n => exact leBytes_length w n

theorem timerBytes_eq (o : Option Timer) :
    timerBytes o = (o.map fun t =>
      [BitVec.ofNat 8 (t.duration - t.elapsed), BitVec.ofNat 8 ((t.duration - t.elapsed) / 256),
        BitVec.ofNat 8 ((t.duration - t.elapsed) / 65536), BitVec.ofNat 8 ((t.duration - t.elapsed) / 16777216)]).getD
      [0xFF, 0xFF, 0xFF, 0xFF] := by
  cases o with
  | none => rfl
  | some t => exact leBytes_four _

theorem timerBytes_length (o : Option Timer) : (timerBytes o).length = 4 := leOpt_length _ _

/-- The members of a set from bit `k` on, as powers of two. -/
theorem sum_zipIdx_eq_foldr (bits : List Bool) (k : Nat) :
    (((bits.zipIdx k).map fun p => if p.1 then 2 ^ p.2 else 0).sum) =
      2 ^ k * bits.foldr (fun b acc => (if b then 1 else 0) + 2 * acc) 0 := by
  induction bits generalizing k with
  | nil => rfl
  | cons b bits ih =>
    rw [List.zipIdx_cons, List.map_cons, List.sum_cons, ih, List.foldr_cons, Nat.mul_add, Nat.pow_succ, Nat.mul_assoc]
    cases b <;> simp

theorem setByte_eq (bits : List Bool) :
    setByte bits = BitVec.ofNat 8 ((bits.zipIdx.map fun p => if p.1 then 2 ^ p.2 else 0).sum) := by
  rw [sum_zipIdx_eq_foldr, Nat.pow_zero, Nat.one_mul]
  rfl

/-! ### Rows -/

/-- A row's field values fit the widths of its fields. -/
def fieldsFit (fs : List FieldSpec) (row : Row) : Prop := ∀ p, p ∈ fs.zip row → p.2 < 256 ^ p.1.width

/-- R191: fields in order, each low character first. -/
def encodeFields (fs : List FieldSpec) (row : Row) : List Byte := (fs.zip row).flatMap fun p => leBytes p.1.width p.2

theorem encodeFields_cons (f : FieldSpec) (fs : List FieldSpec) (n : Nat) (row : Row) :
    encodeFields (f :: fs) (n :: row) = leBytes f.width n ++ encodeFields fs row := rfl

theorem encodeFields_length {fs : List FieldSpec} {row : Row} (same : row.length = fs.length) :
    (encodeFields fs row).length = (fs.map FieldSpec.width).sum := by
  induction fs generalizing row with
  | nil => rfl
  | cons f fs ih =>
    cases row with
    | nil => simp at same
    | cons n row =>
      rw [encodeFields_cons, List.length_append, leBytes_length, ih (Nat.succ.inj same), List.map_cons, List.sum_cons]

theorem decodeFields_encodeFields {fs : List FieldSpec} {row : Row} (same : row.length = fs.length) (fit : fieldsFit fs row) :
    decodeFields fs (encodeFields fs row) = row := by
  induction fs generalizing row with
  | nil => exact (List.length_eq_zero_iff.mp same).symm
  | cons f fs ih =>
    cases row with
    | nil => simp at same
    | cons n row =>
      have fits : n < 256 ^ f.width := fit (f, n) (List.mem_cons_self ..)
      have rest : fieldsFit fs row := fun p at_ => fit p (List.mem_cons_of_mem _ at_)
      rw [encodeFields_cons, decodeFields, List.take_left' (leBytes_length ..), List.drop_left' (leBytes_length ..), leNat_leBytes fits,
        ih (Nat.succ.inj same) rest]

theorem encodeFields_decodeFields {fs : List FieldSpec} {bs : List Byte} (right : bs.length = (fs.map FieldSpec.width).sum) :
    encodeFields fs (decodeFields fs bs) = bs := by
  induction fs generalizing bs with
  | nil => exact (List.length_eq_zero_iff.mp right).symm
  | cons f fs ih =>
    rw [List.map_cons, List.sum_cons] at right
    have first : (bs.take f.width).length = f.width := by
      rw [List.length_take]
      omega
    have number : leBytes f.width (leNat (bs.take f.width)) = bs.take f.width := by
      have back := leBytes_leNat (bs.take f.width)
      rwa [first] at back
    have rest : (bs.drop f.width).length = (fs.map FieldSpec.width).sum := by
      rw [List.length_drop]
      omega
    rw [decodeFields, encodeFields_cons, number, ih rest, List.take_append_drop]

/-- R191: no field's range goes beyond its width. -/
theorem fieldsOf_ranges (k : TableId) (r : Nat) :
    ∀ f ∈ fieldsOf k r, ∀ range ∈ f.ranges, range.2 < 256 ^ f.width := by
  unfold fieldsOf
  split <;> cases k <;> decide

theorem fieldsOk_fit {k : TableId} {r : Nat} {row : Row} (ok : fieldsOk k r row = true) :
    row.length = (fieldsOf k r).length ∧ fieldsFit (fieldsOf k r) row := by
  simp only [fieldsOk, Bool.and_eq_true, beq_iff_eq, List.all_eq_true] at ok
  obtain ⟨same, admitted⟩ := ok
  refine ⟨same.symm, fun p at_ => ?_⟩
  obtain ⟨range, in_, within⟩ := List.any_eq_true.mp (admitted p at_)
  have below := fieldsOf_ranges k r p.1 (List.of_mem_zip at_).1 range in_
  exact Nat.lt_of_le_of_lt (decide_eq_true_eq.mp within).2 below

theorem WakeSource.bit_eq (w : WakeSource) : w.bit = BitVec.twoPow 8 w.index := by cases w <;> rfl

/-- Settles O60: the round trips by induction on the fields; widths, fields and codes by what the model's tables list. -/
theorem rowsAndTheirEncodingsAgree : Obligations.RowsAndTheirEncodingsAgree := by
  unfold Obligations.RowsAndTheirEncodingsAgree
  refine ⟨fun k r => ⟨fun row same fit => ⟨encodeFields_length same, decodeFields_encodeFields same fit⟩,
    fun bs => encodeFields_decodeFields, fun row => fieldsOk_fit⟩, ?_, ?_, ?_, ?_⟩
  · refine ⟨by decide, by decide, by decide, by decide, by decide, fun r first => ?_⟩
    have other : ∀ k, fieldsOf k r = rowFields k := fun k => if_neg (by omega)
    simp only [rowLength, other]
    decide
  · exact fun img => ⟨fun _ _ => rfl, rfl, rfl, rfl, rfl, rfl, fun _ => ⟨rfl, rfl, rfl, rfl⟩, fun _ => rfl⟩
  · refine ⟨by decide, by decide, by decide, by decide, by decide, by decide, by decide, ⟨by decide, WakeSource.bit_eq⟩, ?_⟩
    decide
  · decide

end Sys2Proof.Machine
end

section
/-!
PROOFS. What is read out in characters: the pages of a query (R187) and the up frames (R110, R180), field by field.
-/

namespace Sys2Proof.Machine

/-! ### Pages -/

section
variable (s : State)

theorem b1_eq (n : Nat) : b1 n = [BitVec.ofNat 8 n] := rfl

theorem optCode_eq (o : Option Nat) : optCode o = [(o.map (BitVec.ofNat 8)).getD 0xFF] := leOpt_one o

theorem b1_length (n : Nat) : (b1 n).length = 1 := rfl

theorem optCode_length (o : Option Nat) : (optCode o).length = 1 := leOpt_length 1 o

theorem State.statusPage_length : s.statusPage.length = 56 := by
  unfold State.statusPage
  simp only [List.length_append, List.length_cons, List.length_nil, b1_length, optCode_length, leBytes_length, timerBytes_length]

theorem State.posturePage_length : s.posturePage.length = 34 := by
  unfold State.posturePage
  cases candidate : s.pae.candidate <;>
    simp only [candidate, List.length_append, List.length_cons, List.length_nil, List.length_replicate, b1_length, optCode_length,
      leBytes_length, leOpt_length, leZero_length, leSigned_length]

theorem penBytes_length (pen : Option PenFields) (last : Bool) : (penBytes pen last).length = 12 := by
  unfold penBytes
  cases pen <;>
    simp only [List.length_append, List.length_cons, List.length_nil, List.length_replicate, b1_length, leBytes_length, leZero_length]

theorem State.penPage_length : s.penPage.length = 56 := by
  unfold State.penPage
  cases last : s.bcd.last <;>
    simp only [List.length_append, List.length_cons, List.length_nil, List.length_replicate, b1_length, optCode_length,
      leBytes_length, timerBytes_length, penBytes_length]

theorem State.basePage_length : s.basePage.length = 32 := by
  unfold State.basePage
  cases record : s.blk.record <;>
    simp only [List.length_append, List.length_cons, List.length_nil, List.length_replicate, List.length_take, List.length_map,
      b1_length, optCode_length, leBytes_length, Config.writePlaces] <;>
    omega

theorem State.slotsPage_length : s.slotsPage.length = 1 + 3 * s.sched.slotCount := by
  simp [State.slotsPage, List.length_flatMap]
  omega

theorem State.scanPage_length : s.scanPage.length = 6 * s.cnv.resultS.length := by
  simp [State.scanPage, List.length_flatMap, leBytes_length, leOpt_length]
  omega

theorem State.coilPage_length : s.coilPage.length = 16 + s.cnv.windows.length + s.cnv.debounce.length := by
  simp [State.coilPage, b1, leBytes_length, leOpt_length]
  omega

theorem State.page_isSome_iff (k : Subject) (n : Nat) :
    (s.page k n).isSome = true ↔ n = 0 ∨ (n = 1 ∧ (k = .base ∨ k = .converter)) := by
  unfold State.page
  cases k <;> rcases n with _ | _ | n <;> simp

/-- The notices of all kinds are the entries that are notices. -/
theorem Upq.noticeCount_eq (u : Upq) :
    u.noticeCount = u.entries.countP fun e => match e.content with
      | .notice _ => true
      | _ => false := by
  unfold Upq.noticeCount Upq.notices
  induction u.entries with
  | nil => rfl
  | cons e l ih =>
    simp only [NoticeKind.all, List.map_cons, List.map_nil, List.sum_cons, List.sum_nil, List.countP_cons] at ih ⊢
    cases content : e.content with
    | report r => simpa [Entry.isNotice, content] using ih
    | reply r => simpa [Entry.isNotice, content] using ih
    | notice n => cases kind : n.kind <;> simp [Entry.isNotice, content, kind] <;> omega

/-- R187: the kind of the entry in transmission; a reply's is its request's. -/
theorem Upq.sendingKind_eq (u : Upq) :
    (u.sendingEntry.map fun e => e.content.kind).getD 0 = match u.entries.find? Entry.started with
      | some ⟨.reply r, _⟩ => r.request
      | some e => BitVec.ofNat 8 e.content.upKind
      | none => 0 := by
  unfold Upq.sendingEntry
  rcases u.entries.find? Entry.started with _ | ⟨content, started⟩
  · rfl
  · cases content <;> rfl

theorem setByte_one (x : Bool) : setByte [x] = flagByte x := by cases x <;> rfl

theorem penBytes_none (last : Bool) :
    penBytes none last = setByte [false, false, false, false, false, false, last] :: List.replicate 11 0 := rfl

theorem penBytes_some (p : PenFields) (last : Bool) :
    penBytes (some p) last =
      setByte [true, p.identity.isSome, p.battery.isSome, p.age.isSome, p.stage.isSome, p.fault.isSome, last]
        :: p.identity.getD 0 :: BitVec.ofNat 8 (p.battery.getD 0) :: (leZero 2 p.age ++ BitVec.ofNat 8 (p.stage.getD 0) ::
          (leBytes 2 p.duty ++
            [BitVec.ofNat 8 p.check, BitVec.ofNat 8 p.violation, BitVec.ofNat 8 ((p.fault.map FaultReason.code).getD 0),
              p.faultCode.getD 0])) := by
  unfold penBytes
  simp only [b1_eq, leZero_one, List.append_assoc, List.cons_append, List.nil_append]

/-- R187: the waiting writes' functions, padded to the places of the write queue. -/
theorem padded_eq_map_range {α : Type} (l : List α) (n : Nat) (d : α) :
    (l ++ List.replicate n d).take n = (List.range n).map fun i => l[i]?.getD d := by
  refine List.ext_getElem (by simp) fun i short _ => ?_
  have below : i < n := by simpa using short
  rw [List.getElem_take, List.getElem_map, List.getElem_range, List.getElem_append]
  split
  · rename_i within
    rw [List.getElem?_eq_getElem within]
    rfl
  · rename_i past
    rw [List.getElem_replicate, List.getElem?_eq_none (Nat.not_lt.mp past)]
    rfl

theorem State.writesShown_eq :
    (s.psc.writes.map (fun (w : WriteEntry) => byteOf w.fn.number) ++ List.replicate Config.writePlaces 0xFF).take Config.writePlaces =
      (List.range 8).map fun i => ((s.psc.writes.map fun w => w.fn.number)[i]?.map (BitVec.ofNat 8)).getD 0xFF := by
  rw [padded_eq_map_range]
  refine List.map_congr_left fun i _ => ?_
  simp only [List.getElem?_map, Option.map_map]
  rfl

/-- A page that is shown, and its length. -/
theorem page_and {p q : List Byte} {n : Nat} {rest : Prop} (same : p = q) (long : p.length = n) (others : rest) :
    some p = some q ∧ q.length = n ∧ rest := ⟨congrArg some same, same ▸ long, others⟩

theorem page_last {p q : List Byte} {n : Nat} (same : p = q) (long : p.length = n) : some p = some q ∧ q.length = n :=
  ⟨congrArg some same, same ▸ long⟩

end

/-! ### Queries -/

theorem Subject.ofCode_past {n : Nat} (past : 6 ≤ n) : Subject.ofCode n = none := by
  unfold Subject.ofCode
  split <;> first | omega | rfl

section
variable {s : State} {rest : List DownFrame} {subject option : Byte}

theorem exec_query (offered : s.offers ⟨0x43, [subject, option]⟩ rest) :
    exec .query s = .next ((s.taken rest).query ⟨0x43, [subject, option]⟩) :=
  congrArg Host.Outcome.next (State.carryOut_mine offered rfl)

theorem exec_clearCounters (offered : s.offers ⟨0x43, [5, option]⟩ rest) (clears : option.getLsbD 0 = true) :
    exec .clearCounters s = .next ((s.taken rest).queryCounters ⟨0x43, [5, option]⟩) :=
  congrArg Host.Outcome.next (State.carryOut_mine offered clears)

theorem State.query_unknown (past : 6 ≤ subject.toNat) :
    s.query ⟨0x43, [subject, option]⟩ = s.replied 0x43 .badValue [] := by
  have none : Subject.ofCode (DownFrame.arg ⟨0x43, [subject, option]⟩ 0).toNat = none := Subject.ofCode_past past
  rw [State.query, none]
  rfl

theorem State.query_page {k : Subject} (named : Subject.ofCode subject.toNat = some k) (other : k ≠ .counters) :
    s.query ⟨0x43, [subject, option]⟩ = s.queryPage ⟨0x43, [subject, option]⟩ k := by
  have some : Subject.ofCode (DownFrame.arg ⟨0x43, [subject, option]⟩ 0).toNat = some k := named
  rw [State.query, some]
  cases k <;> first | rfl | exact absurd rfl other

theorem State.queryPage_shown {k : Subject} {data : List Byte} (shown : s.page k option.toNat = some data) :
    s.queryPage ⟨0x43, [subject, option]⟩ k = s.replied 0x43 .ok (subject :: option :: data) := by
  have page : s.page k (DownFrame.arg ⟨0x43, [subject, option]⟩ 1).toNat = some data := shown
  rw [State.queryPage, page]
  rfl

theorem State.queryPage_absent {k : Subject} (absent : s.page k option.toNat = none) :
    s.queryPage ⟨0x43, [subject, option]⟩ k = s.replied 0x43 .badValue [] := by
  have page : s.page k (DownFrame.arg ⟨0x43, [subject, option]⟩ 1).toNat = none := absent
  rw [State.queryPage, page]
  rfl

theorem State.queryCounters_keep (keeps : option.getLsbD 0 = false) :
    s.queryCounters ⟨0x43, [5, option]⟩ = s.replied 0x43 .ok (5 :: 0 :: s.countersPage) := by
  have kept : ¬(DownFrame.arg ⟨0x43, [5, option]⟩ 1).getLsbD 0 = true := by simpa [DownFrame.arg] using keeps
  rw [State.queryCounters, if_neg kept]
  rfl

theorem State.queryCounters_clear (clears : option.getLsbD 0 = true) :
    s.queryCounters ⟨0x43, [5, option]⟩ = s.clearCounters.replied 0x43 .ok (5 :: 0 :: s.countersPage) := by
  have cleared : (DownFrame.arg ⟨0x43, [5, option]⟩ 1).getLsbD 0 = true := clears
  rw [State.queryCounters, if_pos cleared]
  rfl

end

/-- Settles O43: the answer by subject and page, then each page character by character. -/
theorem queriesAnswerAndClear : Obligations.QueriesAnswerAndClear := by
  unfold Obligations.QueriesAnswerAndClear
  refine ⟨fun s rest subject option offered => ?_, fun s => ⟨s.page_isSome_iff, ?_⟩⟩
  · rw [exec_query offered]
    refine ⟨fun past => congrArg _ (State.query_unknown past), fun k named other => ?_, ?_, ?_⟩
    · rw [State.query_page named other]
      exact ⟨fun data shown => congrArg _ (State.queryPage_shown shown), fun absent => congrArg _ (State.queryPage_absent absent)⟩
    · rintro rfl keeps
      exact congrArg _ (State.queryCounters_keep keeps)
    · rintro rfl clears
      rw [exec_clearCounters offered clears]
      exact ⟨congrArg _ (State.queryCounters_clear clears), congrArg _ (State.queryCounters_clear clears)⟩
  · refine page_and ?_ s.statusPage_length <| page_and ?_ s.posturePage_length <| page_and ?_ s.penPage_length <|
      page_and ?_ s.basePage_length <| page_and ?_ s.slotsPage_length <| page_and ?_ s.scanPage_length <|
      page_last ?_ s.coilPage_length
    · unfold State.statusPage
      simp only [setByte_one]
      simp only [b1_eq, optCode_eq, leBytes_two, leBytes_four, timerBytes_eq, setByte_eq, Upq.noticeCount_eq, Upq.sendingKind_eq,
        List.append_assoc, List.cons_append, List.nil_append]
      rfl
    · unfold State.posturePage
      simp only [b1_eq, optCode_eq, leBytes_two, leBytes_four, leOpt_two, leZero_one, leZero_two, leSigned_two, setByte_eq, List.append_assoc, List.cons_append, List.nil_append]
      rfl
    · unfold State.penPage State.penFields pauseSet
      cases pen : s.pch.pen <;>
        simp only [Option.map_none, Option.map_some, penBytes_none, penBytes_some, b1_eq, optCode_eq, leBytes_two, leBytes_four, leZero_two, timerBytes_eq, setByte_eq, List.append_assoc, List.cons_append, List.nil_append] <;>
        rfl
    · unfold State.basePage
      simp only [b1_eq, optCode_eq, leBytes_two, State.writesShown_eq, List.append_assoc, List.cons_append, List.nil_append]
      rfl
    · unfold State.slotsPage
      simp only [setByte_eq]
      rfl
    · unfold State.scanPage
      simp only [leOpt_two, leBytes_four]
    · unfold State.coilPage
      simp only [leOpt_two, leBytes_four, b1_eq, setByte_eq, List.append_assoc, List.cons_append, List.nil_append]
      rfl

/-! ### Up frames -/

section
variable {s : State} {e : Entry} {entries : List Entry}

theorem exec_upFrameStart_low : exec (.upFrameStart false) s = .next { s with pins.srdy := false } := by
  change execUpFrameStart false s = _
  rw [execUpFrameStart, if_neg (by simp)]

theorem exec_upFrameStart_high (waits : s.upq.entries = e :: entries) (quiet : s.slk.tx = none) (hub : s.spm.hub ≠ .deep)
    (goes : s.slk.resetAll ≠ .replySent) :
    exec (.upFrameStart true) s = .next { s with
      pins.srdy := true, slk.tx := some e.content.frame
      upq := { s.upq with entries := ⟨e.content, true⟩ :: entries } } := by
  change execUpFrameStart true s = _
  rw [execUpFrameStart, if_pos ⟨rfl, quiet, hub, goes⟩, State.startFrame]
  simp only [waits, Upq.startHead]

variable {f : List Byte}

theorem exec_upFrameEnd (sends : s.slk.tx = some f) : exec .upFrameEnd s = .next { s with
    slk.tx := none, upq := s.upq.finishHead
    slk.resetAll := if s.upq.headResets then .replySent else s.slk.resetAll } := by
  change execUpFrameEnd s = _
  rw [execUpFrameEnd, if_pos (by rw [sends]; rfl)]

variable (sends : s.slk.tx = some f)
include sends

theorem exec_upFrameEnd_report {r : Report} (head : s.upq.entries = e :: entries) (content : e.content = .report r) :
    exec .upFrameEnd s = .next { s with slk.tx := none, upq := { s.upq with entries := entries } } := by
  rw [exec_upFrameEnd sends]
  simp only [Upq.finishHead, Upq.headResets, head, content, Bool.false_eq_true, if_false]

theorem exec_upFrameEnd_reply {r : Reply} (head : s.upq.entries = e :: entries) (content : e.content = .reply r) :
    exec .upFrameEnd s = .next { s with
      slk.tx := none
      slk.resetAll := if r.resetAll then .replySent else s.slk.resetAll
      upq := { s.upq with entries := entries, placesTaken := s.upq.placesTaken - 1 } } := by
  rw [exec_upFrameEnd sends]
  simp only [Upq.finishHead, Upq.headResets, head, content]

variable {n : Notice} (head : s.upq.entries = e :: entries) (content : e.content = .notice n)
include head content

theorem exec_upFrameEnd_alone (alone : s.upq.followOn.find? (fun m => m.kind == n.kind) = none) :
    exec .upFrameEnd s = .next { s with slk.tx := none, upq := { s.upq with entries := entries } } := by
  rw [exec_upFrameEnd sends]
  simp only [Upq.finishHead, Upq.headResets, head, content, alone, Bool.false_eq_true, if_false]

theorem exec_upFrameEnd_followed {m : Notice} (followed : s.upq.followOn.find? (fun m => m.kind == n.kind) = some m) :
    exec .upFrameEnd s = .next { s with
      slk.tx := none
      upq := { s.upq with
        entries := entries ++ [⟨.notice m, false⟩], followOn := s.upq.followOn.filter (fun f => f.kind != n.kind) } } := by
  rw [exec_upFrameEnd sends]
  simp only [Upq.finishHead, Upq.headResets, head, content, followed, Bool.false_eq_true, if_false]

end

/-- R180: a frame of its kind and payload. -/
theorem Content.frame_eq {c : Content} {kind : Nat} {payload : List Byte} (named : c.upKind = kind) (spelled : c.payload = payload) :
    c.frame = 0xA5 :: BitVec.ofNat 8 kind :: BitVec.ofNat 8 payload.length ::
      (payload ++ [crc8 (BitVec.ofNat 8 kind :: BitVec.ofNat 8 payload.length :: payload)]) := by
  rw [Content.frame, named, spelled]
  rfl

theorem zeroExtend_buttons (buttons : BitVec 3) :
    buttons.zeroExtend 8 = setByte [buttons.getLsbD 0, buttons.getLsbD 1, buttons.getLsbD 2] := by
  revert buttons
  decide

/-- Settles O27: the start and the end of a frame by the head entry, then each payload character by character. -/
theorem framesLeaveInOrder : Obligations.FramesLeaveInOrder := by
  unfold Obligations.FramesLeaveInOrder
  refine ⟨fun s => ⟨exec_upFrameStart_low, fun e rest => exec_upFrameStart_high, fun e rest f head sends =>
    ⟨fun r => exec_upFrameEnd_report sends head, fun r => exec_upFrameEnd_reply sends head, fun n content =>
      ⟨exec_upFrameEnd_alone sends head content, fun m => exec_upFrameEnd_followed sends head content⟩⟩⟩, ?_⟩
  refine ⟨fun events => Content.frame_eq rfl rfl, fun dx dy wheel buttons => Content.frame_eq rfl ?_,
    fun a => Content.frame_eq rfl ?_, fun p => Content.frame_eq rfl ?_, fun pressed fnLock => Content.frame_eq rfl ?_,
    fun p q row permission cause status theta => Content.frame_eq rfl ?_, fun r q cause psi p => Content.frame_eq rfl ?_,
    fun status theta phiB psi p => Content.frame_eq rfl ?_,
    fun c q => ⟨Content.frame_eq rfl ?_, fun p => Content.frame_eq rfl ?_⟩,
    fun o src before after lsns p => Content.frame_eq rfl ?_, fun a r p d timeout => Content.frame_eq rfl ?_,
    fun cause d p => Content.frame_eq rfl ?_, fun code count => Content.frame_eq rfl ?_, fun r => Content.frame_eq rfl rfl⟩
  all_goals simp only [Content.payload, Report.payload, Notice.payload]
  · simp only [zeroExtend_buttons, leSigned_one, leSigned_two, setByte_eq, List.append_assoc]
    rfl
  · simp only [leSigned_two]
  · simp only [setByte_one]
    rfl
  · simp only [setByte_one]
    rfl
  · simp only [b1_eq, leOpt_two, List.cons_append, List.nil_append]
    rfl
  · simp only [b1_eq, leOpt_two, List.cons_append, List.nil_append]
  · simp only [b1_eq, leOpt_two, List.append_assoc, List.cons_append, List.nil_append]
  · simp only [b1_eq, pauseSet, penBytes_none, setByte_eq, List.cons_append, List.nil_append]
    rfl
  · cases age : p.age <;>
      simp only [b1_eq, pauseSet, penBytes_some, age, leZero_two, leBytes_two, setByte_eq, List.cons_append,
        List.nil_append] <;>
      rfl
  · simp only [b1_eq, optCode_eq, List.cons_append, List.nil_append]
    rfl
  · simp only [b1_eq, optCode_eq, leBytes_two, List.cons_append, List.nil_append]
  · simp only [b1_eq, optCode_eq, List.cons_append, List.nil_append]
  · simp only [b1_eq, List.cons_append, List.nil_append]

end Sys2Proof.Machine
end

section
/-!
PROOFS. TABLE_WRITE and TABLE_READ (R184, R186): the rows written into the pending image, and the rows read from the image named.
-/

namespace Sys2Proof.Machine

/-! ### Rows in order -/

theorem rowsFrom_succ (first n : Nat) : rowsFrom first (n + 1) = first :: rowsFrom (first + 1) n := by
  rw [rowsFrom, List.range_succ_eq_map, List.map_cons, List.map_map, rowsFrom]
  refine congrArg₂ _ rfl (List.map_congr_left fun i _ => ?_)
  simp only [Function.comp]
  omega

theorem rowsLength_succ (k : TableId) (first n : Nat) : rowsLength k first (n + 1) = rowLength k first + rowsLength k (first + 1) n := by
  rw [rowsLength, rowsFrom_succ, List.map_cons, List.sum_cons, rowsLength]

/-! ### Rows written -/

section
variable {k : TableId} {first n : Nat} {bs : List Byte} {img : Image}

theorem writeRows_length : (writeRows k (rowsFrom first n) bs img).length = img.length := by
  induction n generalizing first bs img with
  | zero => rfl
  | succ n ih => rw [rowsFrom_succ, writeRows, ih, List.length_set]

theorem Image.row_set_of_ne {r q : Nat} {row : Row} (other : q ≠ r) : Image.row (List.set img q row) r = img.row r := by
  simp [Image.row, List.getElem?_set_ne other]

theorem Image.row_set_self {r : Nat} {row : Row} (present : r < img.length) : Image.row (List.set img r row) r = row := by
  simp [Image.row, List.getElem?_set_self present]

/-- R184: no row besides those named is touched. -/
theorem writeRows_outside {r : Nat} (outside : r < first ∨ first + n ≤ r) :
    Image.row (writeRows k (rowsFrom first n) bs img) r = img.row r := by
  induction n generalizing first bs img with
  | zero => rfl
  | succ n ih => rw [rowsFrom_succ, writeRows, ih (by omega), Image.row_set_of_ne (by omega)]

/-- R184: each row named is that which its characters give, behind those of the rows before it. -/
theorem writeRows_inside {r : Nat} (low : first ≤ r) (high : r < first + n) (present : r < img.length) :
    Image.row (writeRows k (rowsFrom first n) bs img) r =
      decodeRow k r ((bs.drop (rowsLength k first (r - first))).take (rowLength k r)) := by
  induction n generalizing first bs img with
  | zero => omega
  | succ n ih =>
    rw [rowsFrom_succ, writeRows]
    rcases Nat.eq_or_lt_of_le low with rfl | past
    · rw [writeRows_outside (.inl (Nat.lt_succ_self _)), Image.row_set_self present, Nat.sub_self]
      rfl
    · have behind : r - first = (r - (first + 1)) + 1 := by omega
      rw [ih past (by omega) (by rwa [List.length_set]), behind, rowsLength_succ, List.drop_drop]

end

theorem rowsExist_iff {k : TableId} {first n : Nat} : rowsExist k first n = true ↔ k.holds first n := by
  simp [rowsExist, TableId.holds, and_assoc, Nat.succ_le_iff]

theorem not_rowsExist_iff {k : TableId} {first n : Nat} : (!rowsExist k first n) = true ↔ ¬k.holds first n := by
  rw [← rowsExist_iff, Bool.not_eq_true', Bool.not_eq_true]

/-! ### The requests -/

section
variable {s : State} {rest : List DownFrame} {n first count which : Byte} {rows : List Byte} {k : TableId}

theorem exec_tableWrite (offered : s.offers ⟨0x40, n :: first :: count :: rows⟩ rest) :
    exec .tableWrite s = .next ((s.taken rest).tableWrite ⟨0x40, n :: first :: count :: rows⟩) :=
  congrArg Host.Outcome.next (State.carryOut_mine offered rfl)

theorem exec_tableRead (offered : s.offers ⟨0x42, [n, which, first, count]⟩ rest) :
    exec .tableRead s = .next ((s.taken rest).tableRead ⟨0x42, [n, which, first, count]⟩) :=
  congrArg Host.Outcome.next (State.carryOut_mine offered rfl)

theorem State.tableWrite_badTable (unnumbered : TableId.ofNumber n.toNat = none) :
    s.tableWrite ⟨0x40, n :: first :: count :: rows⟩ = s.replied 0x40 .badTable [] := by
  have none : TableId.ofNumber (DownFrame.arg ⟨0x40, n :: first :: count :: rows⟩ 0).toNat = none := unnumbered
  rw [State.tableWrite, if_neg (by simp), none]
  rfl

theorem State.tableRead_badTable (unnumbered : TableId.ofNumber n.toNat = none) :
    s.tableRead ⟨0x42, [n, which, first, count]⟩ = s.replied 0x42 .badTable [] := by
  have none : TableId.ofNumber (DownFrame.arg ⟨0x42, [n, which, first, count]⟩ 0).toNat = none := unnumbered
  rw [State.tableRead, none]
  rfl

section
variable (numbered : TableId.ofNumber n.toNat = some k)
include numbered

/-- R184: the checks of a write in their order. -/
theorem State.tableWrite_eq :
    s.tableWrite ⟨0x40, n :: first :: count :: rows⟩ =
      if !rowsExist k first.toNat count.toNat then s.replied 0x40 .badRow []
      else if rows.length + 3 ≠ 3 + rowsLength k first.toNat count.toNat then s.replied 0x40 .badLength []
      else if (s.tables.get k).awaiting then s.replied 0x40 .busy []
      else
        ({ s with tables := s.tables.set k { s.tables.get k with
            pending := writeRows k (rowsFrom first.toNat count.toNat) rows (s.tables.get k).pending } } : State).replied 0x40 .ok [] := by
  have some : TableId.ofNumber (DownFrame.arg ⟨0x40, n :: first :: count :: rows⟩ 0).toNat = some k := numbered
  rw [State.tableWrite, if_neg (by simp), some]
  rfl

/-- R186: the checks of a read in their order. -/
theorem State.tableRead_eq :
    s.tableRead ⟨0x42, [n, which, first, count]⟩ =
      if which ≠ 0 ∧ which ≠ 1 then s.replied 0x42 .badValue []
      else if !rowsExist k first.toNat count.toNat || decide (54 < rowsLength k first.toNat count.toNat) then
        s.replied 0x42 .badRow []
      else
        s.replied 0x42 .ok (n :: which :: first :: count ::
          (rowsFrom first.toNat count.toNat).flatMap fun r => encodeRow k r (((s.tables.get k).image which).row r)) := by
  have some : TableId.ofNumber (DownFrame.arg ⟨0x42, [n, which, first, count]⟩ 0).toNat = some k := numbered
  rw [State.tableRead, some]
  rfl

end

end

theorem readable_iff {which : Byte} : ¬(which ≠ 0 ∧ which ≠ 1) ↔ which = 0 ∨ which = 1 := by tauto

theorem unreadable_iff {k : TableId} {first n : Nat} :
    (!rowsExist k first n || decide (54 < rowsLength k first n)) = true ↔ ¬k.holds first n ∨ 54 < rowsLength k first n := by
  rw [Bool.or_eq_true, not_rowsExist_iff, decide_eq_true_eq]

/-- Settles O44, check by check; the written image is that of `writeRows`. -/
theorem tablesAreWrittenAndRead : Obligations.TablesAreWrittenAndRead := by
  unfold Obligations.TablesAreWrittenAndRead
  refine fun s rest n first count => ⟨fun rows offered => ?_, fun which offered => ?_⟩
  · rw [exec_tableWrite offered]
    refine ⟨fun unnumbered => congrArg _ (State.tableWrite_badTable unnumbered), fun k numbered => ?_⟩
    rw [State.tableWrite_eq numbered]
    refine ⟨fun unheld => ?_, fun held wrong => ?_, fun held right => ?_⟩
    · rw [if_pos (not_rowsExist_iff.mpr unheld)]
    all_goals rw [if_neg (not_rowsExist_iff.not.mpr (not_not.mpr held))]
    · rw [if_pos (by omega)]
    · rw [if_neg (by omega)]
      refine ⟨fun awaits => congrArg _ (if_pos awaits), fun rests =>
        ⟨_, congrArg _ (if_neg (by rw [Bool.not_eq_true]; exact rests)), writeRows_length, fun r => writeRows_outside, fun r => writeRows_inside⟩⟩
  · rw [exec_tableRead offered]
    refine ⟨fun unnumbered => congrArg _ (State.tableRead_badTable unnumbered), fun k numbered => ?_⟩
    rw [State.tableRead_eq numbered]
    refine ⟨fun other0 other1 => congrArg _ (if_pos ⟨other0, other1⟩), fun named bad => ?_, fun named held fits => ?_⟩
    all_goals rw [if_neg (readable_iff.mpr named)]
    · rw [if_pos (unreadable_iff.mpr bad)]
    · rw [if_neg (unreadable_iff.not.mpr (not_or.mpr ⟨not_not.mpr held, Nat.not_lt.mpr fits⟩)), rowsFrom, List.flatMap_map]
      rfl

end Sys2Proof.Machine
end

section
/-!
PROOFS. Activity, SRDY, wake sources and the system states (R169 to R173, R176 to R178).
-/

namespace Sys2Proof.Machine

/-! ### SLEEP judged again, what it leaves -/

section
variable {s t : State}

theorem State.judgeSleep_onlyIn (s : State) : s.OnlyIn chargerParts s.judgeSleep :=
  State.setPausesBy_onlyIn _ State.toCharger_onlyIn s _

/-- R173: of the budget record SLEEP leaves all but the stage limit and the pen claim. -/
theorem State.judgeSleep_powers (s : State) :
    s.judgeSleep.spm.hub = s.spm.hub ∧ s.judgeSleep.spm.system = s.spm.system ∧ s.judgeSleep.spm.requested = s.spm.requested ∧
    s.judgeSleep.spm.target = s.spm.target ∧ s.judgeSleep.spm.activityTimer = s.spm.activityTimer ∧
    s.judgeSleep.spm.wakeCause = s.spm.wakeCause ∧ s.judgeSleep.spm.firstPower = s.spm.firstPower ∧
    s.judgeSleep.spm.clock = s.spm.clock ∧ s.judgeSleep.spm.wakeLow = s.spm.wakeLow ∧
    s.judgeSleep.spm.wakeTimer = s.spm.wakeTimer := by
  have limited := s.judgeSleep_spm.1
  unfold Spm.LimitedAtMost at limited
  refine ⟨?_, ?_, ?_, ?_, ?_, ?_, ?_, ?_, ?_, ?_⟩ <;> rw [limited]

theorem State.activity_onlyIn (s : State) (change : Bool) : s.OnlyIn [.spm, .upq] (s.activity change) := by
  intro p outside
  cases p
  case spm => exact absurd (by decide) outside
  case upq => exact absurd (by decide) outside
  all_goals simp [Part.Same]

/-- R175, R178: a wake by a wake source, before SLEEP is judged. -/
theorem State.intoWaking_eq (s : State) :
    s.intoWaking = { s with spm := { s.spm with
      hub := .run, system := .waking, requested := none, target := none, wakeTimer := some ⟨0, s.policy.wakeWidth⟩, wakeLow := true } } :=
  rfl

/-- R172, R176: AWAKE, before SLEEP is judged. -/
theorem State.intoAwake_eq (s : State) :
    s.intoAwake = { s with spm := { s.spm with
      hub := .run, system := .awake, requested := none, target := none, activityTimer := 0 } } := rfl

/-- The parts that a change of system state may touch beside the budget record. -/
theorem State.OnlyIn.of_spm {p : Spm} {q : Upq} : s.OnlyIn chargerParts { s with spm := p, upq := q } := by
  intro part outside
  cases part
  case spm => exact absurd (by decide) outside
  case upq => exact absurd (by decide) outside
  all_goals exact rfl

/-- R172: what ends in AWAKE with the hub in RUN. -/
structure State.Awakes (s t : State) : Prop where
  system : t.spm.system = .awake
  hub : t.spm.hub = .run
  requested : t.spm.requested = none
  target : t.spm.target = none
  activity : t.spm.activityTimer = 0
  cause : t.spm.wakeCause = s.spm.wakeCause
  sleep : t.pch.pauses.sleep = t.sleepWanted
  hands : s.HandsOver t
  only : s.OnlyIn chargerParts t

theorem State.toAwake_awakes (s : State) : s.Awakes s.toAwake := by
  obtain ⟨hub, system, requested, target, activity, cause, _⟩ := s.intoAwake.judgeSleep_powers
  exact ⟨system, hub, requested, target, activity, cause, s.intoAwake.judgeSleep_sleep,
    s.intoAwake.judgeSleep_handsOver.left rfl rfl rfl, State.OnlyIn.of_spm.trans (s.intoAwake.judgeSleep_onlyIn)⟩

/-- R172: awake is activity first, which leaves the wake cause. -/
theorem State.Awakes.after_activity (awakes : (s.activity false).Awakes t) (cause : (s.activity false).spm.wakeCause = s.spm.wakeCause) :
    s.Awakes t :=
  { awakes with
    cause := awakes.cause.trans cause
    hands := (s.activity_handsOver false).trans awakes.hands
    only := ((s.activity_onlyIn false).mono (by decide)).trans awakes.only }

theorem State.systemAwake_up (up : s.spm.system = .awake ∨ s.spm.system = .advised) : s.systemAwake = s.activity false := by
  rcases up with h | h <;> rw [State.systemAwake, h]

theorem State.systemAwake_deep (asleep : s.spm.system = .asleep) (deep : s.spm.hub = .deep) :
    s.systemAwake = { s with
      spm.activityTimer := 0, spm.clock := some ⟨(s.spm.clock.map ClockStart.elapsed).getD 0, true⟩ } := by
  rw [State.systemAwake, s.activity_resting false (by simp [asleep]) (by simp [asleep]), asleep]
  dsimp only
  rw [if_pos deep]
  cases s.spm.clock <;> simp [Spm.markAwake]

theorem State.systemAwake_awakes (comes : (s.spm.system = .asleep ∧ s.spm.hub ≠ .deep) ∨ s.spm.system = .waking) :
    s.Awakes s.systemAwake := by
  have resting : s.activity false = { s with spm.activityTimer := 0 } := by
    rcases comes with ⟨h, _⟩ | h <;> exact s.activity_resting false (by simp [h]) (by simp [h])
  have goes : s.systemAwake = (s.activity false).toAwake := by
    rcases comes with ⟨asleep, hub⟩ | waking
    · rw [State.systemAwake, asleep]
      exact if_neg hub
    · rw [State.systemAwake, waking]
  rw [goes]
  exact (State.toAwake_awakes _).after_activity (by rw [resting])

end

/-! ### Timers and SRDY -/

section
variable {s : State}

theorem exec_activityTimerExpiry (awake : s.spm.system = .awake) (timed : 0 < s.row.idleTimeout)
    (out : s.row.idleTimeout * 1000 ≤ s.spm.activityTimer) :
    exec .activityTimerExpiry s = .next { s with
      spm.system := .advised
      upq := s.upq.issue (.sleep .advise (some .idle) s.posture s.row.depth s.row.idleTimeout) } :=
  congrArg Host.Outcome.next (if_pos ⟨awake, timed, out⟩)

theorem exec_wakePulseTimerExpiry (done : timerDone s.spm.wakeTimer = true) :
    exec .wakePulseTimerExpiry s = .next { s with spm.wakeTimer := none, spm.wakeLow := false } :=
  congrArg Host.Outcome.next (if_pos done)

theorem exec_srdyRise_up (up : s.spm.system = .awake ∨ s.spm.system = .advised) :
    exec .srdyRise s = .next { s with pins.srdy := true } :=
  congrArg Host.Outcome.next (if_neg (by rcases up with h | h <;> simp [h]))

theorem exec_srdyRise_down (down : s.spm.system = .asleep ∨ s.spm.system = .waking) :
    exec .srdyRise s = .next ({ s with pins.srdy := true } : State).systemAwake :=
  congrArg Host.Outcome.next (if_pos down)

/-! ### Activity -/

variable {change : Bool}

theorem State.activity_advises (advises : change = true ∧ s.row.adviseOnEntry = true)
    (up : s.spm.system = .awake ∨ s.spm.system = .advised) :
    s.activity change = { s with
      spm.activityTimer := 0, spm.system := .advised
      upq := s.upq.issue (.sleep .advise (some .posture) s.posture s.row.depth s.row.idleTimeout) } := by
  obtain ⟨rfl, entry⟩ := advises
  rcases up with h | h <;> simp only [State.activity, h, entry, Bool.and_self, if_true] <;> rfl

theorem State.activity_withdraws (quiet : ¬(change = true ∧ s.row.adviseOnEntry = true)) (advised : s.spm.system = .advised) :
    s.activity change = { s with
      spm.activityTimer := 0, spm.system := .awake
      upq := s.upq.issue (.sleep .withdrawn none s.posture s.row.depth s.row.idleTimeout) } := by
  rw [State.activity, advised]
  exact if_neg (by simpa using quiet)

theorem State.activity_rests (rests : ¬(change = true ∧ s.row.adviseOnEntry = true) ∨ s.spm.system = .asleep ∨ s.spm.system = .waking)
    (other : s.spm.system ≠ .advised) : s.activity change = { s with spm.activityTimer := 0 } := by
  rcases rests with quiet | down
  · cases system : s.spm.system
    case awake =>
      rw [State.activity, system]
      exact if_neg (by simpa using quiet)
    case advised => exact absurd system other
    all_goals exact s.activity_resting change (by simp [system]) other
  · exact s.activity_resting change (by rcases down with h | h <;> simp [h]) other

end

/-- Settles O38: the timers and SRDY by system state, the activity by what the row advises. -/
theorem powerTimersAndSrdyAct : Obligations.PowerTimersAndSrdyAct := by
  unfold Obligations.PowerTimersAndSrdyAct
  refine ⟨fun s => ⟨exec_activityTimerExpiry, exec_wakePulseTimerExpiry, exec_srdyRise_up, fun asleep deep => ?_, fun comes => ?_⟩,
    fun s change => ⟨State.activity_advises, State.activity_withdraws, State.activity_rests⟩⟩
  · exact (exec_srdyRise_down (.inl asleep)).trans (congrArg _ (State.systemAwake_deep asleep deep))
  · have down : s.spm.system = .asleep ∨ s.spm.system = .waking := comes.imp_left And.left
    have awakes := State.systemAwake_awakes (s := { s with pins.srdy := true }) comes
    obtain ⟨system, hub, requested, target, activity, cause, sleep, hands, only⟩ := awakes
    have pins : s.OnlyIn [.pins, .tables, .cnv, .pch, .bcd, .spm, .upq] { s with pins.srdy := true } := by
      intro p outside
      cases p
      case pins => exact absurd (by decide) outside
      all_goals rfl
    exact ⟨_, exec_srdyRise_down down, only .pins (by decide), system, hub, requested, target, activity, cause, sleep, hands.swaps.tables,
      pins.trans (only.mono (by decide))⟩

/-! ### Wake sources -/

section
variable {s : State} {w : WakeSource}

theorem State.wakeSource_up (up : s.spm.system = .awake ∨ s.spm.system = .advised) : s.wakeSource w = s := by
  rcases up with h | h <;> simp only [State.wakeSource, h]

/-- R177: a source in the mask joins the wake cause. -/
def State.joined (s : State) (w : WakeSource) : State :=
  if s.row.wakeMask.getLsbD w.index then { s with spm := s.spm.join w } else s

theorem State.wakeSource_deep (asleep : s.spm.system = .asleep) (deep : s.spm.hub = .deep) :
    s.wakeSource w = (s.joined w).startClock := by
  simp only [State.wakeSource, asleep, deep, if_true, State.joined]
  split <;> rfl

theorem State.startClock_spm (deep : s.spm.hub = .deep) :
    s.startClock.spm = { s.spm with clock := some (s.spm.clock.getD ⟨0, false⟩) } := by
  unfold State.startClock
  cases clock : s.spm.clock with
  | none =>
    rw [if_pos ⟨deep, rfl⟩]
    rfl
  | some c =>
    rw [if_neg (by simp)]
    change s.spm = { s.spm with clock := some c }
    rw [← clock]

theorem State.joined_spm (deep : s.spm.hub = .deep) :
    (s.joined w).spm = { s.spm with
      wakeCause := if s.row.wakeMask.getLsbD w.index then s.spm.wakeCause ||| w.bit else s.spm.wakeCause
      firstPower := if s.row.wakeMask.getLsbD w.index && s.spm.wakeCause == 0 then some .deep else s.spm.firstPower } := by
  unfold State.joined
  cases s.row.wakeMask.getLsbD w.index with
  | false => rfl
  | true => simp [Spm.join, deep, HubPower.depth]

theorem State.OnlyIn.spm {p : Spm} : s.OnlyIn [.spm] { s with spm := p } := by
  intro part outside
  cases part
  case spm => exact absurd (by decide) outside
  all_goals exact rfl

theorem State.startClock_onlyIn (s : State) : s.OnlyIn [.spm] s.startClock := by
  unfold State.startClock
  split
  · exact .spm
  · exact .refl _ s

theorem State.joined_onlyIn : s.OnlyIn [.spm] (s.joined w) := by
  unfold State.joined
  split
  · exact .spm
  · exact .refl _ s

theorem State.wakeSource_unmasked (down : s.spm.system = .asleep ∨ s.spm.system = .waking) (hub : s.spm.hub ≠ .deep)
    (unmasked : s.row.wakeMask.getLsbD w.index = false) : s.wakeSource w = s := by
  rcases down with h | h <;> simp [State.wakeSource, h, hub, unmasked]

theorem State.wakeSource_wakes (asleep : s.spm.system = .asleep) (hub : s.spm.hub ≠ .deep)
    (masked : s.row.wakeMask.getLsbD w.index = true) : s.wakeSource w = ({ s with spm := s.spm.join w } : State).toWaking := by
  simp [State.wakeSource, asleep, hub, masked]

theorem State.wakeSource_joins (waking : s.spm.system = .waking) (masked : s.row.wakeMask.getLsbD w.index = true) :
    s.wakeSource w = ({ s with spm := s.spm.join w } : State).wakeNotice := by
  simp [State.wakeSource, waking, masked]

theorem HubPower.depth_of_ne_deep {h : HubPower} (other : h ≠ .deep) : h.depth = .doze := by
  cases h <;> first | rfl | exact absurd rfl other

/-- R178: the wake, its notice queued before SLEEP is judged again. -/
theorem State.toWaking_spec (s : State) :
    let t := s.toWaking
    t.spm.system = .waking ∧ t.spm.hub = .run ∧ t.spm.wakeCause = s.spm.wakeCause ∧ t.spm.firstPower = s.spm.firstPower ∧
    t.spm.wakeLow = true ∧ t.spm.wakeTimer = some ⟨0, s.policy.wakeWidth⟩ ∧ t.spm.requested = none ∧ t.spm.target = none ∧
    t.pch.pauses.sleep = t.sleepWanted ∧ t.upq.Holds (.wake s.spm.wakeCause s.spm.firstPower s.posture) ∧
    s.HandsOver t ∧ s.OnlyIn chargerParts t := by
  let woken := s.intoWaking.wakeNotice
  obtain ⟨hub, system, requested, target, _, cause, power, _, low, timer⟩ := woken.judgeSleep_powers
  have queues := State.judgeSleep_queues (kinds := [.pen]) (by decide) woken
  have told : woken.judgeSleep.upq.Holds (.wake s.spm.wakeCause s.spm.firstPower s.posture) :=
    (queues.holds_iff (by simp [Notice.kind])).mpr (Upq.issue_holds _ _)
  have hands : s.HandsOver woken := (s.intoWaking.notice_handsOver _).left rfl rfl rfl
  exact ⟨system, hub, cause, power, low, timer, requested, target, woken.judgeSleep_sleep, told,
    hands.trans woken.judgeSleep_handsOver, State.OnlyIn.of_spm.trans woken.judgeSleep_onlyIn⟩

end

/-- Settles O40, by system state, hub power state and mask. -/
theorem wakeSourcesActByTheMask : Obligations.WakeSourcesActByTheMask := by
  unfold Obligations.WakeSourcesActByTheMask
  refine fun s w => ⟨State.wakeSource_up, fun asleep deep => ?_, State.wakeSource_unmasked, fun asleep hub masked => ?_,
    fun waking masked => ?_⟩
  · rw [State.wakeSource_deep asleep deep]
    have joined := State.joined_spm (w := w) deep
    have hub : (s.joined w).spm.hub = .deep := by rw [joined]; exact deep
    refine ⟨?_, State.joined_onlyIn.trans (State.startClock_onlyIn _)⟩
    refine (State.startClock_spm hub).trans ?_
    rw [joined]
    cases s.spm.clock <;> rfl
  · have depth := HubPower.depth_of_ne_deep hub
    have power : (s.spm.join w).firstPower = if s.spm.wakeCause = 0 then some .doze else s.spm.firstPower := by
      rw [Spm.join, depth]
    obtain ⟨system, hub, cause, first, low, timer, requested, target, sleep, told, hands, only⟩ :=
      ({ s with spm := s.spm.join w } : State).toWaking_spec
    rw [State.wakeSource_wakes asleep (by assumption) masked]
    exact ⟨system, hub, cause, first.trans power, low, timer, requested, target, sleep, power ▸ told, hands.swaps.tables,
      State.OnlyIn.of_spm.trans only⟩
  · rw [State.wakeSource_joins waking masked]
    rfl

/-! ### SYSTEM_STATE -/

section
variable {s : State} {rest : List DownFrame} {state depth : Byte}

theorem exec_systemStateSleeping (offered : s.offers ⟨0x49, [state, depth]⟩ rest) (other : state ≠ 0) :
    exec .systemStateSleeping s = .next ((s.taken rest).systemRequest ⟨0x49, [state, depth]⟩) := by
  have own : (!(state == 0)) = true := by simpa using other
  exact congrArg Host.Outcome.next (State.carryOut_mine offered own)

theorem exec_systemStateAwake (offered : s.offers ⟨0x49, [state, depth]⟩ rest) (other : state ≠ 1) :
    exec .systemStateAwake s = .next ((s.taken rest).systemRequest ⟨0x49, [state, depth]⟩) := by
  have own : (!(state == 1)) = true := by simpa using other
  exact congrArg Host.Outcome.next (State.carryOut_mine offered own)

/-- R172: neither AWAKE nor SLEEPING with a depth that there is. -/
theorem State.systemRequest_refused (refused : 2 ≤ state.toNat ∨ (state = 1 ∧ 2 ≤ depth.toNat)) :
    s.systemRequest ⟨0x49, [state, depth]⟩ = s.replied 0x49 .badValue [] := by
  have notAwake : ¬state = 0 := by
    rintro rfl
    rcases refused with h | ⟨h, _⟩ <;> simp at h
  have notSleeping : ¬(state = 1 ∧ (depth = 0 ∨ depth = 1)) := by
    rintro ⟨rfl, rfl | rfl⟩ <;> rcases refused with h | ⟨_, h⟩ <;> simp at h
  exact (if_neg notAwake).trans (if_neg notSleeping)

theorem State.systemRequest_awake :
    s.systemRequest ⟨0x49, [0, depth]⟩ = (s.replied 0x49 .ok []).systemAwake := if_pos rfl

/-- R172: the depth that a request to sleep names. -/
def requestedDepth (depth : Byte) : Depth := if depth = 1 then .deep else .doze

theorem State.systemRequest_sleeping (named : depth = 0 ∨ depth = 1) :
    s.systemRequest ⟨0x49, [1, depth]⟩ = (s.replied 0x49 .ok []).systemSleeping (requestedDepth depth) := by
  rcases named with rfl | rfl <;> rfl

/-- R172: ASLEEP, before the target depth is formed. -/
def State.slept (s : State) (d : Depth) : State :=
  let t := if s.spm.system = .asleep then s else ({ s with spm.system := .asleep } : State).setHub .doze
  { t with
    spm.requested := some d, spm.wakeCause := 0, spm.firstPower := none
    spm.clock := t.spm.clock.map fun c => { c with awake := false } }

/-- R86: the owed counts of the slots that have no doze period. -/
theorem State.owedInDoze_eq : s.owedInDoze =
    (List.range s.psc.owed.length).map fun i => if (s.slot i).periodDoze = 0 then 0 else s.psc.owed.getD i 0 := by
  refine List.map_congr_left fun i _ => ?_
  by_cases undozed : (s.slot i).periodDoze = 0 <;> simp [State.polledIn, undozed]

/-- R172, R86: what ASLEEP is entered with. -/
structure State.Slept (s : State) (d : Depth) (t : State) : Prop where
  system : t.spm.system = .asleep
  requested : t.spm.requested = some d
  cause : t.spm.wakeCause = 0
  first : t.spm.firstPower = none
  hub : t.spm.hub = if s.spm.system = .asleep then s.spm.hub else .doze
  clock : ∀ c, t.spm.clock = some c → c.awake = false
  polls : s.spm.system = .asleep ∨ s.spm.hub = .doze → t.psc = s.psc
  dozes : s.spm.system ≠ .asleep → s.spm.hub ≠ .doze → t.psc = { s.psc with owed := s.owedInDoze }
  row : t.row = s.row
  hands : s.HandsOver t
  only : s.OnlyIn [.psc, .spm] t

theorem State.slept_slept (s : State) (d : Depth) : s.Slept d (s.slept d) := by
  have unmarked (clock : Option ClockStart) (c : ClockStart)
      (is : (clock.map fun c => ({ c with awake := false } : ClockStart)) = some c) : c.awake = false := by
    obtain ⟨_, _, rfl⟩ := Option.map_eq_some_iff.mp is
    rfl
  have only (p : Spm) (q : Psc) : s.OnlyIn [.psc, .spm] { s with spm := p, psc := q } := by
    intro part outside
    cases part
    case psc => exact absurd (by decide) outside
    case spm => exact absurd (by decide) outside
    all_goals exact rfl
  unfold State.slept
  by_cases asleep : s.spm.system = .asleep
  · rw [if_pos asleep]
    exact ⟨asleep, rfl, rfl, rfl, (if_pos asleep).symm, unmarked _, fun _ => rfl, fun other => absurd asleep other, rfl,
      .of_eq rfl rfl rfl, only _ _⟩
  · rw [if_neg asleep]
    rcases ({ s with spm.system := .asleep } : State).setHub_cases .doze with ⟨_, awake, e⟩ | ⟨dozes, e⟩ <;> rw [e]
    · exact ⟨rfl, rfl, rfl, rfl, (if_neg asleep).symm, unmarked _, fun or => absurd or (not_or.mpr ⟨asleep, awake⟩),
        fun _ _ => rfl, rfl, .of_eq rfl rfl rfl, only _ _⟩
    · refine ⟨rfl, rfl, rfl, rfl, (if_neg asleep).symm, unmarked _, fun _ => rfl, fun _ other => ?_, rfl, .of_eq rfl rfl rfl,
        only _ _⟩
      exact absurd (dozes.resolve_left (not_not.mpr rfl)) other

theorem State.deepBarred_of_doze (doze : s.spm.target = some .doze) : s.deepBarred = true := by simp [State.deepBarred, doze]

/-- R175: leaving DEEP marks no clock start awake. -/
theorem State.leaveDeep_unmarked (unmarked : ∀ c, s.spm.clock = some c → c.awake = false) :
    ∀ c, s.leaveDeep.spm.clock = some c → c.awake = false := by
  unfold State.leaveDeep
  split
  · rcases s.startClock_cases with ⟨_, _, e⟩ | ⟨_, e⟩ <;> rw [e]
    · rintro c ⟨⟩
      rfl
    · exact unmarked
  · exact unmarked

/-- R172, R173, R175: ASLEEP, with the target depth formed, SLEEP judged and the way out of DEEP. -/
theorem State.systemSleeping_spec (s : State) (d : Depth) :
    let t := s.systemSleeping d
    let target := if d = .deep ∧ s.row.depth = .deep then Depth.deep else Depth.doze
    t.spm.system = .asleep ∧ t.spm.requested = some d ∧ t.spm.target = some target ∧ t.spm.wakeCause = 0 ∧ t.spm.firstPower = none ∧
    t.spm.hub = (if s.spm.system = .asleep then s.spm.hub else .doze) ∧ (∀ c, t.spm.clock = some c → c.awake = false) ∧
    (s.spm.system = .asleep → s.spm.hub = .deep → target = .doze → t.spm.clock.isSome = true) ∧
    (s.spm.system = .asleep ∨ s.spm.hub = .doze → t.psc = s.psc) ∧
    (s.spm.system ≠ .asleep → s.spm.hub ≠ .doze → t.psc = { s.psc with owed := s.owedInDoze }) ∧
    t.pch.pauses.sleep = t.sleepWanted ∧ s.HandsOver t ∧ s.OnlyIn (.psc :: chargerParts) t := by
  intro t target
  let slept := s.slept d
  let formed := slept.formTarget
  let judged := formed.judgeSleep
  have enters : s.Slept d slept := s.slept_slept d
  have formedSpm : formed.spm = { slept.spm with target := some target } := by
    have depth : slept.formedTarget = target := by
      simp only [State.formedTarget, enters.requested, enters.row, Option.some.injEq]
      rfl
    rw [slept.formTarget_spm, if_pos enters.system, depth]
  have formedOnly : slept.OnlyIn [.spm] formed := by
    intro p outside
    cases p
    case spm => exact absurd (by decide) outside
    all_goals simp [formed, Part.Same]
  obtain ⟨hub, system, requested, targeted, _, cause, first, clock, _⟩ := formed.judgeSleep_powers
  rw [formedSpm] at hub system requested targeted cause first clock
  obtain ⟨started, left⟩ := judged.leaveDeep_spm
  have polls : t.psc = slept.psc := by
    refine (judged.leaveDeep_onlyIn .psc (by decide)).trans ((formed.judgeSleep_onlyIn .psc (by decide)).trans ?_)
    exact formedOnly .psc (by decide)
  have fields : t.spm = { judged.spm with clock := started } := left
  have hubIs : judged.spm.hub = if s.spm.system = .asleep then s.spm.hub else .doze := hub.trans enters.hub
  refine ⟨?_, ?_, ?_, ?_, ?_, ?_, ?_, ?_, ?_, ?_, ?_, ?_, ?_⟩
  · rw [fields]
    exact system.trans enters.system
  · rw [fields]
    exact requested.trans enters.requested
  · rw [fields]
    exact targeted
  · rw [fields]
    exact cause.trans enters.cause
  · rw [fields]
    exact first.trans enters.first
  · rw [fields]
    exact hubIs
  · refine State.leaveDeep_unmarked fun c is => enters.clock c ?_
    exact clock.symm.trans is
  · intro asleep deep doze
    refine State.leaveDeep_clock_of_barred (hubIs.trans ((if_pos asleep).trans deep)) ?_
    have targetIs : judged.spm.target = some .doze := targeted.trans (congrArg some doze)
    exact State.deepBarred_of_doze targetIs
  · exact fun stays => polls.trans (enters.polls stays)
  · exact fun falls wakes => polls.trans (enters.dozes falls wakes)
  · have sleep : t.sleepWanted = judged.sleepWanted := judged.leaveDeep_sleepWanted
    have pauses : t.pch = judged.pch := judged.leaveDeep_onlyIn .pch (by decide)
    rw [sleep, pauses]
    exact formed.judgeSleep_sleep
  · have formedHands : slept.HandsOver formed :=
      .of_eq (formedOnly .tables (by decide)) (formedOnly .cnv (by decide)) (formedOnly .upq (by decide))
    exact ((enters.hands.trans formedHands).trans formed.judgeSleep_handsOver).trans judged.leaveDeep_handsOver
  · exact (((enters.only.mono (by decide)).trans (formedOnly.mono (by decide))).trans (formed.judgeSleep_onlyIn.mono (by decide))).trans
      (judged.leaveDeep_onlyIn.mono (by decide))

/-- R170: an activity that is no change of posture ends in AWAKE where the system is up. -/
theorem State.activity_up (up : s.spm.system = .awake ∨ s.spm.system = .advised) :
    (s.activity false).spm = { s.spm with activityTimer := 0, system := .awake } := by
  have quiet : ¬((false = true) ∧ s.row.adviseOnEntry = true) := by simp
  rcases up with awake | advised
  · rw [State.activity_rests (.inl quiet) (by simp [awake])]
    change ({ s.spm with activityTimer := 0 } : Spm) = _
    rw [← awake]
  · rw [State.activity_withdraws quiet advised]

/-- R172, R176: awake is activity, and what it ends by system state. -/
theorem State.systemAwake_spec (s : State) :
    let t := s.systemAwake
    t.spm.activityTimer = 0 ∧ t.spm.wakeCause = s.spm.wakeCause ∧ s.HandsOver t ∧ s.OnlyIn chargerParts t ∧
    (s.spm.system = .awake ∨ s.spm.system = .advised → t.spm.system = .awake ∧ t.spm.hub = s.spm.hub) ∧
    (s.spm.system = .asleep → s.spm.hub = .deep →
      t.spm.system = .asleep ∧ t.spm.hub = .deep ∧ t.spm.clock = some ⟨(s.spm.clock.map ClockStart.elapsed).getD 0, true⟩) ∧
    ((s.spm.system = .asleep ∧ s.spm.hub ≠ .deep) ∨ s.spm.system = .waking → s.Awakes t) := by
  intro t
  have three : (s.spm.system = .awake ∨ s.spm.system = .advised) ∨ (s.spm.system = .asleep ∧ s.spm.hub = .deep) ∨
      ((s.spm.system = .asleep ∧ s.spm.hub ≠ .deep) ∨ s.spm.system = .waking) := by
    cases s.spm.system <;> simp [em]
  rcases three with up | ⟨asleep, deep⟩ | comes
  · have fields : t.spm = _ := (congrArg State.spm (State.systemAwake_up up)).trans (State.activity_up up)
    have resting : s.spm.system ≠ .asleep := by rcases up with h | h <;> simp [h]
    refine ⟨by rw [fields], by rw [fields], ?_, ?_, fun _ => ?_, fun asleep => absurd asleep resting, State.systemAwake_awakes⟩
    · change s.HandsOver s.systemAwake
      exact (State.systemAwake_up up).symm ▸ s.activity_handsOver false
    · change s.OnlyIn chargerParts s.systemAwake
      exact (State.systemAwake_up up).symm ▸ (s.activity_onlyIn false).mono (by decide)
    · rw [fields]
      exact ⟨rfl, rfl⟩
  · have same : t = _ := State.systemAwake_deep asleep deep
    rw [same]
    refine ⟨rfl, rfl, .of_eq rfl rfl rfl, State.OnlyIn.spm.mono (by decide), fun up => ?_, fun _ _ => ⟨asleep, deep, rfl⟩,
      fun comes => ?_⟩
    · rcases up with h | h <;> simp [asleep] at h
    · rcases comes with ⟨_, h⟩ | h
      · exact absurd deep h
      · simp [asleep] at h
  · have awakes := State.systemAwake_awakes comes
    refine ⟨awakes.activity, awakes.cause, awakes.hands, awakes.only, fun up => ?_, fun asleep deep => ?_, fun _ => awakes⟩
    · rcases comes with ⟨c, _⟩ | c <;> rcases up with h | h <;> simp [c] at h
    · rcases comes with ⟨_, h⟩ | h
      · exact absurd deep h
      · simp [asleep] at h

/-- The request and its reply, before it acts. -/
theorem State.OnlyIn.replied {kind : Byte} {code : ReplyCode} {data : List Byte} :
    s.OnlyIn [.upq, .slk] ((s.taken rest).replied kind code data) := by
  intro p outside
  cases p
  case upq => exact absurd (by decide) outside
  case slk => exact absurd (by decide) outside
  all_goals exact rfl

/-- R182, R183: what a request hands over keeps its reply in the queue. -/
theorem State.HandsOver.replied {t : State} {kind : Byte} {code : ReplyCode} {data : List Byte}
    (hands : ((s.taken rest).replied kind code data).HandsOver t) :
    replyEntry kind code data ∈ t.upq.entries ∧ s.TablesStand t :=
  ⟨hands.replies _ (List.mem_append_right _ (List.mem_singleton_self _)), hands.swaps.tables⟩

end

/-- Settles O49: refusals, SLEEPING and AWAKE by the state named and the system state. -/
theorem systemStateSleepsAndWakes : Obligations.SystemStateSleepsAndWakes := by
  unfold Obligations.SystemStateSleepsAndWakes
  intro s rest state depth offered u
  refine ⟨fun refused => ⟨fun other => ?_, ?_⟩, ?_, ?_⟩
  · exact (exec_systemStateAwake offered other).trans (congrArg _ (State.systemRequest_refused refused))
  · have other : state ≠ 0 := by
      rintro rfl
      rcases refused with h | ⟨h, _⟩ <;> simp at h
    exact (exec_systemStateSleeping offered other).trans (congrArg _ (State.systemRequest_refused refused))
  · rintro rfl named
    obtain ⟨system, requested, target, cause, first, hub, clock, out, polls, dozes, sleep, hands, only⟩ :=
      (u.replied 0x49 .ok []).systemSleeping_spec (requestedDepth depth)
    have deep : requestedDepth depth = .deep ↔ depth = 1 := by
      rcases named with rfl | rfl <;> decide
    rw [if_congr (and_congr_left' deep) rfl rfl] at target out
    obtain ⟨waits, stand⟩ := hands.replied
    refine ⟨_, (exec_systemStateSleeping offered (by decide)).trans (congrArg _ (State.systemRequest_sleeping named)),
      system, requested, target, cause, first, hub, clock, out, polls, fun falls wakes => (dozes falls wakes).trans ?_, sleep, waits, stand,
      (State.OnlyIn.replied.mono (by decide)).trans (only.mono (by decide))⟩
    rw [State.owedInDoze_eq]
    rfl
  · rintro rfl
    let v := u.replied 0x49 .ok []
    have goes : exec .systemStateAwake s = .next v.systemAwake :=
      (exec_systemStateAwake offered (by decide)).trans (congrArg _ State.systemRequest_awake)
    obtain ⟨activity, cause, hands, only, up, deep, comes⟩ := v.systemAwake_spec
    obtain ⟨waits, stand⟩ := hands.replied
    exact ⟨_, goes, activity, cause, waits, stand, (State.OnlyIn.replied.mono (by decide)).trans (only.mono (by decide)), up, deep,
      fun down => ⟨(comes down).system, (comes down).hub, (comes down).requested, (comes down).target, (comes down).sleep⟩⟩

end Sys2Proof.Machine
end

section
/-!
PROOFS. The detach latch: its button, a posture that closes, and its timers (R115, R116, R119, R121 to R126).
-/

namespace Sys2Proof.Machine

/-! ### The parts that the latch's operations touch -/

section
variable {s : State}

theorem State.OnlyIn.latch {d : Dlu} : s.OnlyIn [.dlu] { s with dlu := d } := by
  intro part outside
  cases part
  case dlu => exact absurd (by decide) outside
  all_goals exact rfl

theorem State.event_onlyIn (s : State) (c : EventCode) : s.OnlyIn [.upq] (s.event c) := by
  intro part outside
  cases part
  case upq => exact absurd (by decide) outside
  all_goals exact rfl

theorem State.detachNotice_onlyIn (s : State) (o : DetachOutcome) (src : Option ReleaseSource) (before : DetachState) :
    s.OnlyIn [.spm, .upq] (s.detachNotice o src before) := by
  intro part outside
  cases part
  case spm => exact absurd (by decide) outside
  case upq => exact absurd (by decide) outside
  all_goals simp [Part.Same]

theorem State.setLatchClaim_onlyIn (s : State) (mA : Nat) : s.OnlyIn chargerParts (s.setLatchClaim mA) :=
  State.rebudgetBy_onlyIn _ State.toCharger_onlyIn s _

/-- A change of the latch unit with its notice. -/
theorem State.OnlyIn.notified {d : Dlu} (o : DetachOutcome) (src : Option ReleaseSource) (before : DetachState) :
    s.OnlyIn [.dlu, .spm, .upq] (({ s with dlu := d } : State).detachNotice o src before) :=
  (State.OnlyIn.latch.mono (by decide)).trans ((State.detachNotice_onlyIn _ o src before).mono (by decide))

theorem State.notified_dlu {d : Dlu} (o : DetachOutcome) (src : Option ReleaseSource) (before : DetachState) :
    (({ s with dlu := d } : State).detachNotice o src before).dlu = d := by simp

theorem State.notified_holds {d : Dlu} (o : DetachOutcome) (src : Option ReleaseSource) (before : DetachState) :
    (({ s with dlu := d } : State).detachNotice o src before).upq.Holds (.detach o src before d.state s.pins.lsns s.posture) :=
  State.detachNotice_holds _ _ _ _

theorem State.notified_holds_at {d : Dlu} {after : DetachState} {lsns : Bool} {p : Posture} (state : d.state = after)
    (pin : s.pins.lsns = lsns) (posture : s.posture = p) (o : DetachOutcome) (src : Option ReleaseSource) (before : DetachState) :
    (({ s with dlu := d } : State).detachNotice o src before).upq.Holds (.detach o src before after lsns p) := by
  subst state pin posture
  exact State.notified_holds o src before

theorem State.HandsOver.notified {d : Dlu} (o : DetachOutcome) (src : Option ReleaseSource) (before : DetachState) :
    s.HandsOver (({ s with dlu := d } : State).detachNotice o src before) := (State.detachNotice_handsOver _ _ _ _).left rfl rfl rfl

/-- R126, R108: an EVENT notice leaves the notices of other kinds, and is held. -/
theorem State.event_holds (s : State) (c : EventCode) : ∃ k, (s.event c).upq.Holds (.event c k) := ⟨_, Upq.issue_holds _ _⟩

theorem State.event_holds_of_ne (s : State) (c : EventCode) {n : Notice} (other : n.kind ≠ .event) :
    (s.event c).upq.Holds n ↔ s.upq.Holds n := Upq.issue_holds_of_ne _ other

/-! ### The end of a pulse -/

/-- R122: the pulse's end, before the claim is given back. -/
def State.undriven (s : State) : State := { s with dlu := { s.dlu with ldrv := false, pulseTimer := none } }

theorem State.endPulse_eq (s : State) : s.endPulse = s.undriven.setLatchClaim 0 := rfl

theorem State.endPulse_dlu (s : State) : s.endPulse.dlu = { s.dlu with ldrv := false, pulseTimer := none } := by
  rw [s.endPulse_eq, State.setLatchClaim_frame s.undriven 0 |>.2.2.2.2.2.2.2.1]
  rfl

theorem State.endPulse_latchClaim (s : State) : s.endPulse.spm.latchClaim = 0 :=
  congrArg Spm.latchClaim (s.undriven.rebudget_spm { s.undriven.spm with latchClaim := 0 })

theorem State.endPulse_handsOver (s : State) : s.HandsOver s.endPulse := (State.setLatchClaim_handsOver s.undriven 0).left rfl rfl rfl

theorem State.endPulse_onlyIn (s : State) : s.OnlyIn (.dlu :: chargerParts) s.endPulse :=
  (State.OnlyIn.latch.mono (by decide)).trans ((State.setLatchClaim_onlyIn s.undriven 0).mono (by decide))

theorem State.endPulse_pins (s : State) : s.endPulse.pins = s.pins ∧ s.endPulse.posture = s.posture :=
  ⟨s.endPulse_onlyIn .pins (by decide), congrArg (fun p : Pae => p.record.posture) (s.endPulse_onlyIn .pae (by decide))⟩

theorem State.detachNotice_latchClaim (s : State) (o : DetachOutcome) (src : Option ReleaseSource) (before : DetachState) :
    (s.detachNotice o src before).spm.latchClaim = s.spm.latchClaim := by
  obtain ⟨_, _, e⟩ | ⟨_, _, e⟩ | ⟨_, _, e⟩ | ⟨_, e⟩ := State.activity_cases (s.notice (.detach o src before s.dlu.state s.pins.lsns s.posture)) false <;>
    rw [State.detachNotice, e] <;> rfl

/-! ### The button -/

theorem State.buttonPressed_held (held : s.dlu.button = .pressed) : s.buttonPressed = s := if_pos held

/-- R115: the latch unit after a press. -/
def Dlu.pressed (d : Dlu) (hold : Nat) : Dlu := { d with button := .pressed, holdTimer := some ⟨0, hold⟩ }

theorem State.buttonPressed_elsewhere (fresh : s.dlu.button ≠ .pressed) (elsewhere : s.dlu.state ≠ .latched) :
    s.buttonPressed = { s with dlu := s.dlu.pressed s.policy.forcedHold } := (if_neg fresh).trans (if_neg elsewhere)

theorem State.buttonPressed_allowed (fresh : s.dlu.button ≠ .pressed) (latched : s.dlu.state = .latched) (allowed : s.mayDetach = true) :
    s.buttonPressed =
      ({ s with dlu := { s.dlu.pressed s.policy.forcedHold with
          state := .requested, requestTimer := some ⟨0, s.policy.requestTimeout⟩, timedOut := false } } : State).detachNotice
        .requested none .latched :=
  (if_neg fresh).trans ((if_pos latched).trans (if_pos allowed))

theorem State.buttonPressed_refused (fresh : s.dlu.button ≠ .pressed) (latched : s.dlu.state = .latched)
    (refused : ¬s.mayDetach = true) :
    s.buttonPressed = ({ s with dlu := s.dlu.pressed s.policy.forcedHold } : State).detachNotice .notAllowed none .latched :=
  (if_neg fresh).trans ((if_pos latched).trans (if_neg refused))

theorem State.buttonPressed_onlyIn (s : State) : s.OnlyIn [.dlu, .spm, .upq] s.buttonPressed := by
  by_cases held : s.dlu.button = .pressed
  · rw [State.buttonPressed_held held]
    exact .refl _ s
  by_cases latched : s.dlu.state = .latched
  · by_cases allowed : s.mayDetach = true
    · rw [State.buttonPressed_allowed held latched allowed]
      exact .notified _ _ _
    · rw [State.buttonPressed_refused held latched allowed]
      exact .notified _ _ _
  · rw [State.buttonPressed_elsewhere held latched]
    exact State.OnlyIn.latch.mono (by decide)

/-! ### A posture that closes -/

theorem State.dluPosture_requested (closed : s.posture = .closed) (requested : s.dlu.state = .requested) :
    s.dluPosture = s.abortRequest := by
  simp only [State.dluPosture, closed, requested, if_true]

theorem State.dluPosture_releasing (closed : s.posture = .closed) (releasing : s.dlu.state = .releasing) :
    s.dluPosture = ({ s.endPulse with dlu := { s.endPulse.dlu with state := .latched, source := none } } : State).detachNotice
      .aborted none .releasing := by
  simp only [State.dluPosture, closed, releasing, if_true]

theorem State.dluPosture_elsewhere (closed : s.posture = .closed) (request : s.dlu.state ≠ .requested)
    (pulse : s.dlu.state ≠ .releasing) : s.dluPosture = s := by
  rw [State.dluPosture, if_pos closed]
  split
  · exact absurd (by assumption) request
  · exact absurd (by assumption) pulse
  · rfl

end

/-- Settles O29: a press by the latch state and what the posture record allows, a closing posture by the latch state. -/
theorem buttonAndPostureActOnTheLatch : Obligations.ButtonAndPostureActOnTheLatch := by
  unfold Obligations.ButtonAndPostureActOnTheLatch
  refine fun s => ⟨rfl, State.buttonPressed_held, State.buttonPressed_elsewhere, fun fresh latched => ?_, s.dluPosture_opened,
    fun closed requested => ?_, fun closed releasing => ?_, State.dluPosture_elsewhere⟩
  · refine ⟨fun allowed => ?_, fun refused => ?_, s.buttonPressed_onlyIn⟩
    · rw [State.buttonPressed_allowed fresh latched (State.mayDetach_iff.mpr allowed)]
      exact ⟨State.notified_dlu .., State.notified_holds ..⟩
    · rw [State.buttonPressed_refused fresh latched (State.mayDetach_iff.not.mpr refused)]
      exact ⟨State.notified_dlu ..,
        State.notified_holds_at (s := s) (d := s.dlu.pressed s.policy.forcedHold) latched rfl rfl .notAllowed none .latched⟩
  · rw [State.dluPosture_requested closed requested]
    exact ⟨s.abortRequest_dlu, closed ▸ s.abortRequest_holds, .notified _ _ _⟩
  · rw [State.dluPosture_releasing closed releasing]
    obtain ⟨pins, posture⟩ := s.endPulse_pins
    let d : Dlu := { s.endPulse.dlu with state := .latched, source := none }
    have hands : s.HandsOver _ := s.endPulse_handsOver.trans (State.HandsOver.notified (s := s.endPulse) (d := d) .aborted none .releasing)
    have only : s.OnlyIn [.tables, .cnv, .pch, .bcd, .dlu, .spm, .upq] _ := (s.endPulse_onlyIn.mono (by decide)).trans
      ((State.OnlyIn.notified (s := s.endPulse) (d := d) .aborted none .releasing).mono (by decide))
    refine ⟨?_, ?_, State.notified_holds_at (s := s.endPulse) (d := d) rfl (congrArg Pins.lsns pins) (posture.trans closed) _ _ _,
      hands.swaps.tables, only⟩
    · have stopped : d = { s.dlu with state := .latched, ldrv := false, pulseTimer := none, source := none } :=
        congrArg (fun e : Dlu => { e with state := DetachState.latched, source := none }) s.endPulse_dlu
      exact (State.notified_dlu (s := s.endPulse) (d := d) _ _ _).trans stopped
    · exact (State.detachNotice_latchClaim _ _ _ _).trans s.endPulse_latchClaim

/-! ### Timers -/

section
variable {s : State}

theorem exec_requestTimerExpiry (requested : s.dlu.state = .requested) (out : timerDone s.dlu.requestTimer = true) :
    exec .requestTimerExpiry s = .next (({ s with dlu := { s.dlu with
      state := .latched, requestTimer := none, timedOut := true } } : State).detachNotice .timedOut none .requested) :=
  congrArg Host.Outcome.next (if_pos ⟨requested, out⟩)

theorem State.toReleasing_onlyIn (s : State) (src : ReleaseSource) : s.OnlyIn (.dlu :: chargerParts) (s.toReleasing src) := by
  obtain ⟨pending, ticks, pins, counters, pae, blk, psc, slk⟩ := s.toReleasing_frame src
  intro p outside
  cases p <;> first | assumption | exact absurd (by decide) outside

/-- R121: the hold timer has run out. -/
def State.holdEnded (s : State) : State := { s with dlu := { s.dlu with holdTimer := none } }

theorem exec_forcedRelease (out : timerDone s.dlu.holdTimer = true) (pressed : s.dlu.button = .pressed) :
    exec .forcedRelease s = .next
      (if (s.dlu.state = .latched ∨ s.dlu.state = .requested) ∧ s.posture ≠ .closed then s.holdEnded.toReleasing .forced
      else s.holdEnded) :=
  congrArg Host.Outcome.next (if_pos ⟨out, pressed⟩)

/-- R122: the pulse has ended and the release window is open, before LATCH_SENSE is told. -/
def State.pulseEnded (s : State) : State :=
  { s.endPulse with dlu := { s.endPulse.dlu with state := .released, windowTimer := some ⟨0, s.policy.releaseWindow⟩ } }

theorem exec_pulseTimerExpiry (releasing : s.dlu.state = .releasing) (out : timerDone s.dlu.pulseTimer = true) :
    exec .pulseTimerExpiry s = .next (if s.pins.lsns = true then s.pulseEnded.event .latchSense else s.pulseEnded) :=
  congrArg Host.Outcome.next (if_pos ⟨releasing, out⟩)

theorem State.pulseEnded_spec (s : State) :
    s.pulseEnded.dlu = { s.dlu with
      state := .released, ldrv := false, pulseTimer := none, windowTimer := some ⟨0, s.policy.releaseWindow⟩ } ∧
    s.pulseEnded.spm.latchClaim = 0 ∧ s.TablesStand s.pulseEnded ∧ s.OnlyIn (.dlu :: chargerParts) s.pulseEnded := by
  refine ⟨?_, s.endPulse_latchClaim, s.endPulse_handsOver.swaps.tables, s.endPulse_onlyIn.trans (State.OnlyIn.latch.mono (by decide))⟩
  rw [State.pulseEnded, s.endPulse_dlu]

/-- R124: the window has run out with the base present, before LATCH_SENSE is told. -/
def State.windowEnded (s : State) : State :=
  ({ s with dlu := { s.dlu with state := .latched, windowTimer := none, source := none } } : State).detachNotice .aborted none .released

theorem exec_releaseWindowExpiry (released : s.dlu.state = .released) (out : timerDone s.dlu.windowTimer = true) :
    exec .releaseWindowExpiry s = .next (if s.pins.lsns = true then s.windowEnded else s.windowEnded.event .latchSense) :=
  congrArg Host.Outcome.next (if_pos ⟨released, out⟩)

/-- An EVENT notice beside what a state leaves touches the queue alone. -/
theorem State.event_or_stay (b : Bool) (c : EventCode) (t : State) :
    let u := if b = true then t.event c else t
    u.dlu = t.dlu ∧ u.spm = t.spm ∧ u.tables = t.tables ∧ t.OnlyIn [.upq] u ∧
    (b = true → ∃ k, u.upq.Holds (.event c k)) ∧ ∀ n : Notice, n.kind ≠ .event → t.upq.Holds n → u.upq.Holds n := by
  cases b
  · exact ⟨rfl, rfl, rfl, .refl _ t, fun h => absurd h (by decide), fun _ _ => id⟩
  · exact ⟨rfl, rfl, rfl, t.event_onlyIn c, fun _ => t.event_holds c, fun n other => (t.event_holds_of_ne c other).mpr⟩

end

/-- Settles O28, timer by timer. -/
theorem latchTimersEndWhatTheyTime : Obligations.LatchTimersEndWhatTheyTime := by
  unfold Obligations.LatchTimersEndWhatTheyTime
  refine fun s => ⟨fun requested out => ?_, fun out pressed => ⟨fun held open_ => ?_, fun other => ?_⟩, fun releasing out => ?_,
    fun released out => ?_⟩
  · exact ⟨_, exec_requestTimerExpiry requested out, State.notified_dlu .., State.notified_holds .., .notified _ _ _⟩
  · let u := s.holdEnded
    refine ⟨_, (exec_forcedRelease out pressed).trans (congrArg _ (if_pos ⟨held, open_⟩)), u.toReleasing_dlu .forced,
      u.toReleasing_latchClaim .forced, u.toReleasing_clock .forced, u.toReleasing_holds .forced,
      (u.toReleasing_handsOver .forced).swaps.tables, ?_⟩
    exact (State.OnlyIn.latch.mono (by decide)).trans ((u.toReleasing_onlyIn .forced).mono (by decide))
  · refine (exec_forcedRelease out pressed).trans (congrArg _ (if_neg ?_))
    rintro ⟨held, open_⟩
    rcases other with ⟨unlatched, unrequested⟩ | closed
    · exact held.elim unlatched unrequested
    · exact open_ closed
  · obtain ⟨dlu, claim, stand, only⟩ := s.pulseEnded_spec
    obtain ⟨dlu', spm', tables', only', told, _⟩ := State.event_or_stay s.pins.lsns .latchSense s.pulseEnded
    refine ⟨_, exec_pulseTimerExpiry releasing out, dlu'.trans dlu, (congrArg Spm.latchClaim spm').trans claim, told, ?_,
      (only.mono (by decide)).trans (only'.mono (by decide))⟩
    exact stand.trans (.inl tables')
  · have swap : exec .releaseWindowExpiry s = .next (if (!s.pins.lsns) = true then s.windowEnded.event .latchSense else s.windowEnded) := by
      rw [exec_releaseWindowExpiry released out]
      cases s.pins.lsns <;> rfl
    obtain ⟨dlu', _, _, only', told, keeps⟩ := State.event_or_stay (!s.pins.lsns) .latchSense s.windowEnded
    refine ⟨_, swap, dlu'.trans (State.notified_dlu ..), keeps _ (by simp [Notice.kind]) (State.notified_holds ..), fun opened => told ?_,
      (State.OnlyIn.notified _ _ _).trans (only'.mono (by decide))⟩
    rw [opened]
    rfl

end Sys2Proof.Machine
end

section
/-!
PROOFS. What the base link starts (R59, R73, R75, R84, R89, R90), and what a low on its idle line does (R75 to R79, R88).
-/

namespace Sys2Proof.Machine

/-! ### The choice -/

section
variable {α : Type} {f : Nat → Option α}

theorem findSome?_range_none {n : Nat} (none : ∀ j, j < n → f j = none) : (List.range n).findSome? f = .none := by
  rw [List.findSome?_eq_none_iff]
  exact fun j at_ => none j (List.mem_range.mp at_)

/-- The first number below `n` that gives something gives the result. -/
theorem findSome?_range_first {n i : Nat} {x : α} (below : i < n) (gives : f i = some x) (first : ∀ j, j < i → f j = none) :
    (List.range n).findSome? f = some x := by
  obtain ⟨m, rfl⟩ := Nat.exists_eq_add_of_lt below
  rw [List.findSome?_eq_some_iff]
  refine ⟨List.range i, i, (List.range m).map (i + 1 + ·), ?_, gives, fun j at_ => first j (List.mem_range.mp at_)⟩
  rw [Nat.add_assoc, List.range_add, Nat.add_comm m 1, List.range_add]
  simp [Nat.add_assoc]

end

section
variable {s : State}

/-- R90: the slots before the write rank, the head of the write queue, the slots from the write rank on. -/
theorem State.choice_eq (s : State) :
    s.choice = (((List.range s.sched.slotCount).take s.sched.writeRank).findSome? s.pollOf).or
      (s.headWrite.or (((List.range s.sched.slotCount).drop s.sched.writeRank).findSome? s.pollOf)) := by
  rw [State.choice, State.candidates, List.findSome?_append, List.findSome?_cons, ← List.map_take, ← List.map_drop,
    List.findSome?_map, List.findSome?_map]
  cases s.headWrite <;> rfl

theorem State.choice_unwritten (unwritten : s.headWrite = none) : s.choice = (List.range s.sched.slotCount).findSome? s.pollOf := by
  rw [State.choice_eq, unwritten, Option.none_or, ← List.findSome?_append, List.take_append_drop]

theorem State.pollOf_ineligible {j : Nat} (ineligible : s.eligible j = false) : s.pollOf j = none := by
  simp [State.pollOf, ineligible]

theorem State.pollOf_eligible {i : Nat} {fn : BaseFn} (eligible : s.eligible i = true) (named : BaseFn.ofNumber (s.slot i).fn = some fn) :
    s.pollOf i = some ⟨fn, false, s.blk.rate, (s.slot i).maxLength, [selector fn false], none, []⟩ := by
  rw [State.pollOf, if_pos eligible, named]
  rfl

theorem State.headWrite_none (empty : s.psc.writes = []) : s.headWrite = none := by rw [State.headWrite, empty]; rfl

theorem State.headWrite_some {e : WriteEntry} {rest : List WriteEntry} (waits : s.psc.writes = e :: rest) :
    s.headWrite = some (writeTxn e s.blk.rate) := by rw [State.headWrite, waits]; rfl

/-- R90: the write stands ahead of every slot that is eligible. -/
theorem State.choice_write {e : WriteEntry} {rest : List WriteEntry} (waits : s.psc.writes = e :: rest)
    (before : ∀ j, j < s.sched.writeRank → j < s.sched.slotCount → s.eligible j = false) :
    s.choice = some (writeTxn e s.blk.rate) := by
  have none : ((List.range s.sched.slotCount).take s.sched.writeRank).findSome? s.pollOf = .none := by
    rw [List.take_range]
    exact findSome?_range_none fun j below => State.pollOf_ineligible (before j (by omega) (by omega))
  rw [State.choice_eq, none, State.headWrite_some waits]
  rfl

theorem State.choice_poll {i : Nat} {fn : BaseFn} (slot : i < s.sched.slotCount) (eligible : s.eligible i = true)
    (first : ∀ j, j < i → s.eligible j = false) (named : BaseFn.ofNumber (s.slot i).fn = some fn)
    (ahead : s.psc.writes = [] ∨ i < s.sched.writeRank) :
    s.choice = some ⟨fn, false, s.blk.rate, (s.slot i).maxLength, [selector fn false], none, []⟩ := by
  have gives := State.pollOf_eligible eligible named
  have others := fun j below => State.pollOf_ineligible (first j below)
  rcases ahead with empty | rank
  · rw [State.choice_unwritten (State.headWrite_none empty)]
    exact findSome?_range_first slot gives others
  · rw [State.choice_eq, List.take_range, findSome?_range_first (lt_min rank slot) gives others]
    rfl

/-! ### Starts -/

variable {w : Txn} {highFor : Nat}

/-- R59, R84: what is wanted starts on an idle line, no SCHEDULE table awaiting. -/
theorem exec_transactionStart (wanted : s.wanted = some w) (idle : s.blk.txn = none) (judged : s.blk.low.any LineLow.unjudged = false)
    (rests : s.tables.schedule.awaiting = false) (high : 12 * w.rate.tbit ≤ highFor) :
    exec (.transactionStart highFor) s = .next { s with blk.txn := some w, blk.low := none, blk.retryDue := false } := by
  have free : (s.lineIdle highFor w.rate && !s.tables.schedule.awaiting) = true := by
    simp [State.lineIdle, idle, judged, rests, Config.idleTbit, high]
  change execTransactionStart highFor s = _
  rw [execTransactionStart, wanted]
  exact congrArg _ (if_pos free)

theorem exec_transactionStart_none (unwanted : s.wanted = none) : exec (.transactionStart highFor) s = .next s := by
  change execTransactionStart highFor s = _
  rw [execTransactionStart, unwanted]

theorem State.wanted_running (running : s.blk.link = .running) : s.wanted = if s.spm.hub = .deep then none else s.choice := by
  simp only [State.wanted, running]

theorem State.wanted_identify (awake : s.spm.hub ≠ .deep) (identify : s.blk.link = .identify) : s.wanted = some idRead := by
  simp only [State.wanted, awake, identify, if_false]

theorem State.wanted_retry (awake : s.spm.hub ≠ .deep) (fault : s.blk.link = .fault) (due : s.blk.retryDue = true) :
    s.wanted = some idRead := by
  simp only [State.wanted, awake, fault, due, if_false, if_true]

theorem State.eligible_iff {i : Nat} : s.eligible i = true ↔
    0 < s.owed i ∧ ¬((s.slot i).backpressure = true ∧ s.sched.watermark ≤ s.upq.reports) := by
  simp only [State.eligible, State.blocked, Bool.and_eq_true, Bool.not_eq_true', ← Bool.not_eq_true, decide_eq_true_eq]

theorem exec_lineReleasedForAnswer (flight : s.blk.txn = some w) (unreleased : w.deadline = none) :
    exec .lineReleasedForAnswer s = .next { s with
      blk.txn := some { w with deadline := some (s.sched.turnaround + (if w.write then 12 else 12 * (w.limit + 2))) } } := by
  have sends : s.sending = some w := by simp only [State.sending, flight, unreleased, if_true]
  change execLineReleasedForAnswer s = _
  rw [execLineReleasedForAnswer, sends]
  rfl

end

/-- Settles O20: the starts by what the link state wants, the choice by the first eligible candidate. -/
theorem transactionsStartWithTheChoice : Obligations.TransactionsStartWithTheChoice := by
  unfold Obligations.TransactionsStartWithTheChoice
  refine ⟨fun s => ⟨fun highFor awake rests idle judged => ⟨fun w running chosen high => ?_, fun identify high => ?_,
    fun fault due high => ?_⟩, fun highFor running none => ?_, fun i => State.eligible_iff, fun w => exec_lineReleasedForAnswer⟩, fun s =>
    ⟨fun ineligible => ⟨fun empty => ?_, fun e rest waits => ?_⟩, fun i fn slot eligible first named =>
      ⟨State.choice_poll slot eligible first named, fun e rest waits rank => ?_⟩⟩⟩
  · have wanted : s.wanted = some w := (State.wanted_running running).trans ((if_neg awake).trans chosen)
    exact exec_transactionStart wanted idle judged rests high
  · exact exec_transactionStart (State.wanted_identify awake identify) idle judged rests high
  · exact exec_transactionStart (State.wanted_retry awake fault due) idle judged rests high
  · refine exec_transactionStart_none ((State.wanted_running running).trans ?_)
    rw [none]
    exact ite_self _
  · rw [State.choice_unwritten (State.headWrite_none empty)]
    exact findSome?_range_none fun j below => State.pollOf_ineligible (ineligible j below)
  · exact State.choice_write waits fun j _ below => ineligible j below
  · exact State.choice_write waits fun j below _ => first j (by omega)

/-! ### Lows and retries -/

section
variable {s : State} {l : LineLow}

theorem exec_retryTimerExpiry {n : Nat} (times : s.blk.retryTimer = some n) (fault : s.blk.link = .fault) (out : 100 ≤ n) :
    exec .retryTimerExpiry s = .next ({ s with blk := { s.blk with retryTimer := none, retryDue := true } } : State).leaveDeep := by
  change execRetryTimerExpiry s = _
  rw [execRetryTimerExpiry, times]
  exact congrArg _ (if_pos ⟨fault, out⟩)

theorem State.deepBarred_of_retry (fault : s.blk.link = .fault) (due : s.blk.retryDue = true) : s.deepBarred = true := by
  simp [State.deepBarred, State.linkAsks, fault, due]

theorem State.OnlyIn.link {b : Blk} : s.OnlyIn [.blk] { s with blk := b } := by
  intro part outside
  cases part
  case blk => exact absurd (by decide) outside
  all_goals exact rfl

theorem exec_idleLineLow (timed : s.blk.link.timesLows = true) (idle : s.blk.txn = none) (high : s.blk.low = none) (highFor : Nat) :
    exec (.idleLineLow highFor) s = .next { s with blk.low := some ⟨decide (12 * s.nextRate.tbit ≤ highFor), 0, false, 0⟩ } := by
  have free : (s.blk.link.timesLows && s.blk.txn.isNone && !(s.blk.low.any LineLow.unjudged)) = true := by simp [timed, idle, high]
  have onIdle : s.lineIdle highFor s.nextRate = decide (12 * s.nextRate.tbit ≤ highFor) := by
    rw [State.lineIdle, idle, high]
    exact Bool.true_and _
  change execIdleLineLow highFor s = _
  rw [execIdleLineLow, if_pos free, onIdle]
  rfl

variable (low : s.blk.low = some l)
include low

theorem exec_attention_high (pin : s.pins.bdq = true) : exec .attention s = .next s := by
  change execAttention s = _
  rw [execAttention, low]
  exact congrArg _ (if_neg (by simp [pin]))

theorem exec_attention (onIdle : l.onIdle = true) (fresh : l.taken = false) (long : 1 ≤ l.elapsed) (pin : s.pins.bdq = false) :
    exec .attention s = .next ({ s with blk.low := some { l with taken := true } } : State).attention := by
  change execAttention s = _
  rw [execAttention, low]
  exact congrArg _ (if_pos (by simp [LineLow.unjudged, onIdle, fresh, pin, Config.attentionTicks, long]))

theorem exec_glitch (onIdle : l.onIdle = true) (fresh : l.taken = false) (short : l.elapsed ≤ 1) :
    exec .glitch s = .next (({ s with blk.low := none } : State).bump .physical) := by
  change execGlitch s = _
  rw [execGlitch, low]
  exact congrArg _ (if_pos (by simp [LineLow.unjudged, onIdle, fresh, Config.attentionTicks, short]))

theorem exec_stuckLine (judged : l.onIdle = false ∨ l.taken = true) (long : 50 * (l.stuck + 1) ≤ l.elapsed) :
    exec .stuckLine s = .next ({ s with blk.low := some { l with stuck := l.stuck + 1 } } : State).stuck := by
  have unjudged : l.unjudged = false := by rcases judged with h | h <;> simp [LineLow.unjudged, h]
  change execStuckLine s = _
  rw [execStuckLine, low]
  exact congrArg _ (if_pos (by simp [unjudged, Config.stuckTicks, long]))

end

/-! ### Attention by link state -/

section
variable {s : State}

theorem State.attention_running (running : s.blk.link = .running) : s.attention = s.attentionPoll := by
  simp only [State.attention, running]

theorem State.attention_identify (identify : s.blk.link = .identify) : s.attention = { s with blk.attention := true } := by
  simp only [State.attention, identify]

theorem State.attention_listen (listen : s.blk.link = .listen) :
    s.attention = ({ s with blk.attention := true } : State).wakeSource .button := by
  simp only [State.attention, listen]

/-- R78: attention in FAULT makes a retry due. -/
def State.retried (s : State) : State :=
  { s with blk := { s.blk with attention := true, retryDue := true, retryTimer := none } }

theorem State.attention_fault (fault : s.blk.link = .fault) :
    s.attention = (if s.spm.hub = .deep then s.retried.wakeSource .button else s.retried).leaveDeep := by
  rw [State.attention, fault]
  rfl

/-- R177: a wake source in DEEP leaves the hub there. -/
theorem State.wakeSource_hub_deep (deep : s.spm.hub = .deep) (w : WakeSource) : (s.wakeSource w).spm.hub = .deep := by
  cases system : s.spm.system
  case asleep =>
    have joined : (s.joined w).spm.hub = .deep := by rw [State.joined_spm deep]; exact deep
    rw [State.wakeSource_deep system deep, State.startClock_spm joined]
    exact joined
  case waking =>
    cases masked : s.row.wakeMask.getLsbD w.index
    · simpa [State.wakeSource, system, masked] using deep
    · rw [State.wakeSource_joins system masked]
      exact deep
  all_goals rw [State.wakeSource_up (by simp [system])]; exact deep

theorem State.attention_fault_deep (fault : s.blk.link = .fault) (deep : s.spm.hub = .deep) :
    s.attention.spm.clock.isSome = true ∧ s.attention.blk = s.retried.blk := by
  rw [State.attention_fault fault, if_pos deep]
  have blk : (s.retried.wakeSource .button).blk = s.retried.blk := by simp
  have hub := State.wakeSource_hub_deep (s := s.retried) deep .button
  refine ⟨State.leaveDeep_clock_of_barred hub (State.deepBarred_of_retry ?_ ?_), ?_⟩
  · rw [blk]
    exact fault
  · rw [blk]
    rfl
  · simp

theorem State.attention_fault_awake (fault : s.blk.link = .fault) (awake : s.spm.hub ≠ .deep) : s.attention = s.retried := by
  rw [State.attention_fault fault, if_neg awake]
  exact State.leaveDeep_of_awake awake

/-! ### A stuck line by link state -/

theorem State.bump_low (s : State) (low : Option LineLow) :
    ({ s with blk.low := low } : State).bump .physical = s.errored .physical { s.blk with low := low } s.psc := State.bumpBy_eq _ _ _

theorem State.stuck_fault {s : State} (fault : s.blk.link = .fault) : s.stuck = s := by simp only [State.stuck, fault]

theorem State.stuck_links {s : State} (links : s.blk.link = .running ∨ s.blk.link = .listen) : s.stuck = (s.bump .physical).enterFault := by
  rcases links with h | h <;> simp only [State.stuck, h]

theorem State.stuck_identify {s : State} (identify : s.blk.link = .identify) : s.stuck = (s.bump .physical).attemptFailed := by
  simp only [State.stuck, identify]

theorem State.errored_onlyIn (s : State) (k : Counter) (blk : Blk) (psc : Psc) : s.OnlyIn failureParts (s.errored k blk psc) := by
  intro p outside
  cases p <;> first | exact rfl | exact absurd (by decide) outside

theorem State.enterFault_onlyIn (s : State) : s.OnlyIn failureParts s.enterFault := by
  obtain ⟨pending, ticks, pins, tables, cnv, pae, pch, bcd, slk⟩ := s.enterFault_frame
  intro p outside
  cases p <;> first | assumption | exact absurd (by decide) outside

/-- R79, R75: a line that is stuck ends in FAULT with its one error counted. -/
theorem State.stuck_entersFault (s : State) (blk : Blk) :
    s.EntersFault .physical s.psc.writes.length (s.errored .physical blk s.psc).enterFault ∧
    s.OnlyIn [.counters, .blk, .psc, .dlu, .spm, .upq] (s.errored .physical blk s.psc).enterFault :=
  ⟨(s.errored_entersFault blk s.psc (by decide)).1, (s.errored_onlyIn _ blk s.psc).trans (State.enterFault_onlyIn _)⟩

end

/-! ### The BUTTON slot -/

section
variable {s : State}

theorem State.attentionPoll_button {i : Nat} (slot : i < s.sched.slotCount) (button : (s.slot i).fn = 5)
    (first : ∀ j, j < i → (s.slot j).fn ≠ 5) :
    s.attentionPoll = if s.capable i then { s with psc.owed := s.psc.owed.set i (max 1 (s.owed i)) } else s := by
  rw [State.attentionPoll, (State.slotOf_button_iff s).mpr ⟨slot, button, first⟩]

theorem State.attentionPoll_none (none : ∀ i, i < s.sched.slotCount → (s.slot i).fn ≠ 5) : s.attentionPoll = s := by
  have absent : s.slotOf .button = .none := by
    rw [State.slotOf, List.find?_eq_none]
    exact fun i at_ => by simpa [BaseFn.number] using none i (List.mem_range.mp at_)
  rw [State.attentionPoll, absent]

end

/-- Settles O23: each command by the low it judges and the link state. -/
theorem lowsAndRetriesActByLinkState : Obligations.LowsAndRetriesActByLinkState := by
  unfold Obligations.LowsAndRetriesActByLinkState
  refine fun s => ⟨fun n times fault out => ?_, fun highFor links idle high => ?_, fun l low => exec_attention_high low,
    fun l low onIdle fresh long pin => ?_, fun l low => exec_glitch low, fun l low judged long => ?_,
    fun i slot button first => ⟨State.attentionPoll_button slot button first, ?_⟩, State.attentionPoll_none⟩
  · let u : State := { s with blk := { s.blk with retryTimer := none, retryDue := true } }
    refine ⟨_, exec_retryTimerExpiry times fault out, ?_, fun awake => ?_, fun deep => ?_, ?_⟩
    · simp
    · have stays : u.leaveDeep = u := State.leaveDeep_of_awake awake
      exact (congrArg State.spm stays : u.leaveDeep.spm = u.spm)
    · exact State.leaveDeep_clock_of_barred (s := u) deep (State.deepBarred_of_retry fault rfl)
    · exact (State.OnlyIn.link.mono (by decide)).trans (u.leaveDeep_onlyIn.mono (by decide))
  · exact exec_idleLineLow (by rcases links with h | h | h | h <;> rw [h] <;> rfl) idle high highFor
  · let u : State := { s with blk.low := some { l with taken := true } }
    have goes : exec .attention s = .next u.attention := exec_attention low onIdle fresh long pin
    refine ⟨fun running => ?_, fun identify => ?_, fun listen => ?_, fun fault awake => ?_, fun fault deep => ?_⟩
    · exact goes.trans (congrArg _ (State.attention_running (s := u) running))
    · exact goes.trans (congrArg _ (State.attention_identify (s := u) identify))
    · exact goes.trans (congrArg _ (State.attention_listen (s := u) listen))
    · exact goes.trans (congrArg _ (State.attention_fault_awake (s := u) fault awake))
    · exact ⟨_, goes, State.attention_fault_deep (s := u) fault deep⟩
  · let stuck : Option LineLow := some { l with stuck := l.stuck + 1 }
    let u : State := { s with blk.low := stuck }
    have goes : exec .stuckLine s = .next u.stuck := exec_stuckLine low judged long
    refine ⟨fun fault => ?_, fun links => ?_, fun identify few => ?_, fun identify third => ?_⟩
    · exact goes.trans (congrArg _ (State.stuck_fault (s := u) fault))
    · refine ⟨_, goes, ?_⟩
      rw [State.stuck_links (s := u) links, s.bump_low stuck]
      exact s.stuck_entersFault _
    all_goals
      have acts : u.stuck = (s.errored .physical { s.blk with low := stuck } s.psc).attemptFailed := by
        rw [State.stuck_identify (s := u) identify, s.bump_low stuck]
    · refine goes.trans (congrArg _ ?_)
      rcases (s.errored .physical { s.blk with low := stuck } s.psc).attemptFailed_cases with ⟨third, _⟩ | ⟨_, failed⟩
      · exact absurd third (Nat.not_le.mpr few)
      · have counted := State.bumpBy_eq ({ s with blk := { s.blk with low := stuck, attempts := s.blk.attempts + 1 } } : State) .physical 1
        refine acts.trans (failed.trans (Eq.trans ?_ counted.symm))
        rw [show min ((s.errored .physical { s.blk with low := stuck } s.psc).blk.attempts + 1) 3 = s.blk.attempts + 1 from
          Nat.min_eq_left few.le]
        rfl
    · refine ⟨_, goes, ?_⟩
      rw [acts]
      rcases (s.errored .physical { s.blk with low := stuck } s.psc).attemptFailed_cases with ⟨_, failed⟩ | ⟨few, _⟩
      · rw [failed]
        exact s.stuck_entersFault _
      · exact absurd third (Nat.not_le.mpr few)
  · constructor
    · intro capable
      obtain ⟨running, _, has⟩ := State.capable_slot_iff.mp capable
      exact ⟨running, has⟩
    · rintro ⟨running, has⟩
      exact State.capable_slot_iff.mpr ⟨running, slot, has⟩

end Sys2Proof.Machine
end

section
/-!
PROOFS. The resets (R111, R112, R179, R189, R190): the entry to ABSENT that HUB_RESET_LINKS makes, what it leaves of the upward queue,
and the reset states.
-/

namespace Sys2Proof.Machine

/-! ### What notices and replies leave of the queue's order -/

section
variable {α : Type} {p : Entry → Bool} {f : Entry → α} {kinds : List NoticeKind} {u v : Upq}

/-- R107: what is read of the entries, where a replaced notice reads as the one in its place did, only grows at the tail. -/
theorem Upq.Queues.grows (h : Upq.Queues kinds u v)
    (same : ∀ e n, e.waits n.kind = true → p { e with content := .notice n } = p e ∧
      (p e = true → f { e with content := .notice n } = f e)) :
    ∃ more, (v.entries.filter p).map f = (u.entries.filter p).map f ++ more := by
  induction h with
  | nothing => exact ⟨[], (List.append_nil _).symm⟩
  | @notice v before n kind ih =>
    obtain ⟨more, ih⟩ := ih
    rcases v.issue_cases n with ⟨_, e⟩ | ⟨_, _, e⟩ | ⟨_, _, e⟩ <;> rw [e]
    · refine ⟨more, Eq.trans ?_ ih⟩
      have reads : (p ∘ fun e => if e.waits n.kind then { e with content := .notice n } else e) = p := by
        funext e
        simp only [Function.comp]
        split
        · exact (same e n (by assumption)).1
        · rfl
      rw [List.filter_map, reads, List.map_map]
      refine List.map_congr_left fun e at_ => ?_
      simp only [Function.comp]
      split
      · exact (same e n (by assumption)).2 (List.mem_filter.mp at_).2
      · rfl
    · exact ⟨more, ih⟩
    · refine ⟨more ++ (([⟨.notice n, false⟩] : List Entry).filter p).map f, ?_⟩
      rw [Upq.append, List.filter_append, List.map_append, ih, List.append_assoc]
  | @reply v before r ih =>
    obtain ⟨more, ih⟩ := ih
    refine ⟨more ++ (([⟨.reply r, false⟩] : List Entry).filter p).map f, ?_⟩
    rw [Upq.append, List.filter_append, List.map_append, ih, List.append_assoc]

theorem Entry.waits_notice {k : NoticeKind} {e : Entry} (waits : e.waits k = true) : ∃ n, e.content = .notice n ∧ n.kind = k := by
  obtain ⟨content, started⟩ := e
  cases content <;> simp [Entry.waits, Entry.isNotice] at waits ⊢
  exact waits.1

/-- R112: what is neither a base report is left where it is. -/
theorem Upq.dropReports_filter (u : Upq) (q : Entry → Bool) (others : ∀ e, q e = true → e.isReport = false) :
    u.dropReports.entries.filter q = u.entries.filter q := by
  rw [Upq.dropReports, List.filter_filter]
  refine List.filter_congr fun e _ => ?_
  cases reads : q e
  · rfl
  · simp [others e reads]

theorem Upq.dropReports_holds {n : Notice} (held : u.Holds n) : u.dropReports.Holds n := by
  refine held.imp (fun at_ => List.mem_filter.mpr ⟨at_, rfl⟩) id

end

/-! ### The entry to ABSENT by request -/

section
variable (s : State)

/-- R189: the link, the polls and the writes gone, uncounted, and the button forgotten. -/
def State.linkDropped : State :=
  { s with
    blk := .initial, psc := ⟨List.replicate 12 0, List.replicate 12 0, []⟩
    dlu := { s.dlu with button := .unknown, holdTimer := none } }

/-- R189: the engine and the latch after it. -/
def State.baseDropped : State := if s.dlu.state = .absent then s.linkDropped.paeAbsent else s.linkDropped.paeAbsent.detached

theorem State.baseDropped_dlu (ok : s.LatchOk) : s.baseDropped.dlu = .initial := by
  unfold State.baseDropped
  split
  · rename_i absent
    rw [State.paeAbsent_dlu, ← ok.dlu_absent absent]
    rfl
  · exact State.detached_dlu _

theorem State.baseDropped_pae :
    ∃ changed, s.baseDropped.pae = { s.pae with
      hinge := .empty, baseFilter := none, baseAge := none, candidate := none, record := ⟨.detached, none, false, changed⟩ } := by
  obtain ⟨changed, forgotten⟩ := s.linkDropped.paeAbsent_pae
  refine ⟨changed, ?_⟩
  unfold State.baseDropped
  split
  · exact forgotten
  · exact (by simp : s.linkDropped.paeAbsent.detached.pae = s.linkDropped.paeAbsent.pae).trans forgotten

theorem State.baseDropped_queues : s.Queues [.posture, .sleep, .pen, .detach, .wake] s.baseDropped := by
  have engine : s.Queues [.posture, .sleep, .pen, .detach, .wake] s.linkDropped.paeAbsent :=
    (s.linkDropped.paeAbsent_queues.mono (by decide)).left rfl
  unfold State.baseDropped
  split
  · exact engine
  · exact engine.trans ((State.detached_queues _).mono (by decide))

theorem State.baseDropped_holds (present : s.dlu.state ≠ .absent) :
    s.baseDropped.upq.Holds (.detach .detached none s.dlu.state .absent s.pins.lsns .detached) := by
  have told := s.linkDropped.paeAbsent.detached_holds
  obtain ⟨_, engine⟩ := s.linkDropped.paeAbsent_pae
  have posture : s.linkDropped.paeAbsent.posture = .detached := congrArg (·.record.posture) engine
  have pins : s.linkDropped.paeAbsent.pins = s.pins := by simp [State.linkDropped]
  rw [posture, State.paeAbsent_dlu, pins] at told
  rwa [State.baseDropped, if_neg present]

theorem State.baseDropped_tablesStand : s.TablesStand s.baseDropped := by
  have engine : s.TablesStand s.linkDropped.paeAbsent := s.linkDropped.paeAbsent_tablesStand.left rfl
  unfold State.baseDropped
  split
  · exact engine
  · exact engine.trans (State.detached_tablesStand _)

theorem State.baseDropped_frame :
    s.baseDropped.blk = .initial ∧ s.baseDropped.psc = ⟨List.replicate 12 0, List.replicate 12 0, []⟩ ∧
    s.baseDropped.counters = s.counters ∧ s.OnlyIn linkParts s.baseDropped := by
  unfold State.baseDropped
  refine ⟨?_, ?_, ?_, .of_link ?_ ?_ ?_ ?_⟩ <;> split <;> simp [State.linkDropped]

/-- R189: the base link and the latch unit absent, before the counters, the base reports and the reply. -/
def State.unlinked : State := s.baseDropped.setPower none

theorem State.unlinked_queues : s.Queues [.posture, .sleep, .pen, .detach, .wake] s.unlinked :=
  s.baseDropped_queues.trans ((s.baseDropped.setPower_queues none).mono (by decide))

theorem State.unlinked_spec :
    let t := s.unlinked
    t.blk = .initial ∧ t.psc = ⟨List.replicate 12 0, List.replicate 12 0, []⟩ ∧ t.counters = s.counters ∧
    (∃ changed, t.pae = { s.pae with
      hinge := .empty, baseFilter := none, baseAge := none, candidate := none, record := ⟨.detached, none, false, changed⟩ }) ∧
    (s.LatchOk → t.dlu = .initial) ∧ t.spm.lastPower = none ∧
    (s.dlu.state ≠ .absent → t.upq.Holds (.detach .detached none s.dlu.state .absent s.pins.lsns .detached)) ∧
    s.TablesStand t ∧ s.OnlyIn linkParts t := by
  obtain ⟨blk, psc, counters, only⟩ := s.baseDropped_frame
  obtain ⟨_, _, _, counters', pae', blk', psc', dlu', _⟩ := (State.rebudgetBy_onlyIn _ State.toCharger_onlyIn s.baseDropped
    { s.baseDropped.spm with lastPower := none, supply := supplyTerm s.baseDropped.policy none }).charger
  refine ⟨blk'.trans blk, psc'.trans psc, counters'.trans counters, ?_, fun ok => dlu'.trans (s.baseDropped_dlu ok),
    s.baseDropped.setPower_lastPower none, fun present => ?_, s.baseDropped_tablesStand.trans (s.baseDropped.setPower_tablesStand none),
    only.trans ?_⟩
  · obtain ⟨changed, engine⟩ := s.baseDropped_pae
    exact ⟨changed, pae'.trans engine⟩
  · exact ((s.baseDropped.setPower_queues none).holds_iff (by simp [Notice.kind])).mpr (s.baseDropped_holds present)
  · exact (State.rebudgetBy_onlyIn _ State.toCharger_onlyIn s.baseDropped _).mono (by decide)

/-- R112, R189: links that are gone, with the counters, the base reports and the rotation candidate cleared and OK answered. -/
def State.linksAnswered (v : State) : State :=
  ({ v with counters := v.counters.clearLinks, upq := v.upq.dropReports, pae.rotCandidate := none } : State).replied 0x4A .ok []

theorem State.unlinked_kinds :
    ∃ more, (s.unlinked.upq.dropReports.entries.filter fun e => !e.isReport).map Entry.noticeKind =
      (s.upq.entries.filter fun e => !e.isReport).map Entry.noticeKind ++ more := by
  have kept := s.unlinked.upq.dropReports_filter (fun e => !e.isReport) (by simp)
  obtain ⟨more, grows⟩ := s.unlinked_queues.grows (p := fun e => !e.isReport) (f := Entry.noticeKind) fun e n waits => by
    obtain ⟨m, content, kind⟩ := Entry.waits_notice waits
    simp [Entry.isReport, Entry.noticeKind, content, kind]
  exact ⟨more, (congrArg _ kept).trans grows⟩

theorem State.unlinked_replies :
    ∃ more, s.unlinked.upq.dropReports.entries.filter Entry.isReply = s.upq.entries.filter Entry.isReply ++ more := by
  have kept := s.unlinked.upq.dropReports_filter Entry.isReply fun e reply => by
    obtain ⟨content, started⟩ := e
    cases content <;> simp [Entry.isReply, Entry.isReport] at reply ⊢
  obtain ⟨more, grows⟩ := s.unlinked_queues.grows (p := Entry.isReply) (f := id) fun e n waits => by
    obtain ⟨m, content, kind⟩ := Entry.waits_notice waits
    simp [Entry.isReply, content]
  rw [List.map_id, List.map_id] at grows
  exact ⟨more, kept.trans grows⟩

/-- R189: notices and replies keep their places, the new reply behind them. -/
theorem State.linksReset_kinds :
    ∃ more, (s.unlinked.linksAnswered.upq.entries.filter fun e => !e.isReport).map Entry.noticeKind =
      (s.upq.entries.filter fun e => !e.isReport).map Entry.noticeKind ++ more := by
  obtain ⟨more, kinds⟩ := s.unlinked_kinds
  have entries : s.unlinked.linksAnswered.upq.entries = s.unlinked.upq.dropReports.entries ++ [replyEntry 0x4A .ok []] := rfl
  refine ⟨more ++ [none], ?_⟩
  rw [entries, List.filter_append, List.map_append, kinds, List.append_assoc]
  rfl

theorem State.linksReset_replies :
    ∃ more, s.unlinked.linksAnswered.upq.entries.filter Entry.isReply = s.upq.entries.filter Entry.isReply ++ more := by
  obtain ⟨more, replies⟩ := s.unlinked_replies
  have entries : s.unlinked.linksAnswered.upq.entries = s.unlinked.upq.dropReports.entries ++ [replyEntry 0x4A .ok []] := rfl
  refine ⟨more ++ [replyEntry 0x4A .ok []], ?_⟩
  rw [entries, List.filter_append, replies, List.append_assoc]
  rfl

end

/-! ### The requests -/

section
variable {s : State} {rest : List DownFrame} {scope : Byte}

theorem exec_hubResetLinks (offered : s.offers ⟨0x4A, [scope]⟩ rest) (other : scope ≠ 1) :
    exec .hubResetLinks s = .next ((s.taken rest).hubReset ⟨0x4A, [scope]⟩) := by
  have own : (!(scope == 1)) = true := by simpa using other
  exact congrArg Host.Outcome.next (State.carryOut_mine offered own)

theorem exec_hubResetAll (offered : s.offers ⟨0x4A, [scope]⟩ rest) (other : scope ≠ 0) :
    exec .hubResetAll s = .next ((s.taken rest).hubReset ⟨0x4A, [scope]⟩) := by
  have own : (!(scope == 0)) = true := by simpa using other
  exact congrArg Host.Outcome.next (State.carryOut_mine offered own)

theorem State.hubReset_links : s.hubReset ⟨0x4A, [0]⟩ = s.resetLinks ⟨0x4A, [0]⟩ := if_pos rfl

theorem State.hubReset_all : s.hubReset ⟨0x4A, [1]⟩ = s.resetAll ⟨0x4A, [1]⟩ := rfl

theorem State.hubReset_other (links : scope ≠ 0) (all : scope ≠ 1) : s.hubReset ⟨0x4A, [scope]⟩ = s.replied 0x4A .badValue [] :=
  (if_neg links).trans (if_neg all)

theorem State.OnlyIn.taken : s.OnlyIn [.upq, .slk] (s.taken rest) := by
  intro p outside
  cases p <;> first | exact rfl | exact absurd (by decide) outside

/-- A reply alone touches the queue alone. -/
theorem State.OnlyIn.answered {kind : Byte} {code : ReplyCode} {data : List Byte} : s.OnlyIn [.upq] (s.replied kind code data) := by
  intro p outside
  cases p <;> first | exact rfl | exact absurd (by decide) outside

end

/-- R189: what HUB_RESET with scope LINKS leaves. -/
structure State.LinksReset (s t : State) : Prop where
  blk : t.blk = ⟨.absent, .k250, none, none, 0, 0, none, false, 0, 0, false, none⟩
  psc : t.psc = ⟨List.replicate 12 0, List.replicate 12 0, []⟩
  posture : t.posture = .detached
  lastPower : t.spm.lastPower = none
  rotCandidate : t.pae.rotCandidate = none
  candidate : t.pae.candidate = none
  hinge : t.pae.hinge = ⟨.noAngle, none, none⟩
  phiL : t.pae.phiL = s.pae.phiL
  psi : t.pae.psi = s.pae.psi
  latch : s.LatchOk → t.dlu = ⟨.absent, none, none, none, false, .unknown, none, none, false⟩
  detach : s.dlu.state ≠ .absent → t.upq.Holds (.detach .detached none s.dlu.state .absent s.pins.lsns .detached)
  counters : t.counters = { Counters.zero with
    mergedS := s.counters.mergedS, droppedC := s.counters.droppedC, forcedBlank := s.counters.forcedBlank
    port := s.counters.port, downCrc := s.counters.downCrc, overrun := s.counters.overrun }
  reports : ∀ e, e ∈ t.upq.entries → e.isReport = true → e.started = true
  kinds : ∃ more, (t.upq.entries.filter fun e => !e.isReport).map Entry.noticeKind =
    (s.upq.entries.filter fun e => !e.isReport).map Entry.noticeKind ++ more
  replies : ∃ more, t.upq.entries.filter Entry.isReply = s.upq.entries.filter Entry.isReply ++ more
  answered : replyEntry 0x4A .ok [] ∈ t.upq.entries
  stands : s.TablesStand t
  only : s.OnlyIn [.counters, .tables, .cnv, .pae, .blk, .psc, .pch, .bcd, .dlu, .spm, .upq, .slk] t

section
variable {s v : State}

theorem State.linksAnswered_onlyIn : v.OnlyIn [.counters, .pae, .upq] v.linksAnswered := by
  intro p outside
  cases p <;> first | rfl | exact absurd (by decide) outside

/-- What the clearing leaves of links that are gone. -/
theorem State.linksAnswered_resets {changed : TickCount} (blk : v.blk = .initial)
    (psc : v.psc = ⟨List.replicate 12 0, List.replicate 12 0, []⟩) (counters : v.counters = s.counters)
    (pae : v.pae = { s.pae with
      hinge := .empty, baseFilter := none, baseAge := none, candidate := none, record := ⟨.detached, none, false, changed⟩ })
    (latch : s.LatchOk → v.dlu = .initial) (lastPower : v.spm.lastPower = none)
    (told : s.dlu.state ≠ .absent → v.upq.Holds (.detach .detached none s.dlu.state .absent s.pins.lsns .detached))
    (kinds : ∃ more, (v.linksAnswered.upq.entries.filter fun e => !e.isReport).map Entry.noticeKind =
      (s.upq.entries.filter fun e => !e.isReport).map Entry.noticeKind ++ more)
    (replies : ∃ more, v.linksAnswered.upq.entries.filter Entry.isReply = s.upq.entries.filter Entry.isReply ++ more)
    (stands : s.TablesStand v)
    (only : s.OnlyIn [.counters, .tables, .cnv, .pae, .blk, .psc, .pch, .bcd, .dlu, .spm, .upq, .slk] v) :
    s.LinksReset v.linksAnswered where
  blk := blk
  psc := psc
  posture := congrArg (fun p : Pae => p.record.posture) pae
  lastPower := lastPower
  rotCandidate := rfl
  candidate := congrArg Pae.candidate pae
  hinge := congrArg Pae.hinge pae
  phiL := by
    change v.pae.phiL = s.pae.phiL
    rw [pae]
  psi := by
    change v.pae.psi = s.pae.psi
    rw [pae]
  latch := latch
  detach present := (Upq.dropReports_holds (told present)).imp_left (List.mem_append_left _)
  counters := congrArg Counters.clearLinks counters
  reports := by
    intro e at_ report
    rcases List.mem_append.mp at_ with at_ | at_
    · have stays := (List.mem_filter.mp at_).2
      simpa [report] using stays
    · rw [List.mem_singleton.mp at_] at report
      exact absurd report (by decide)
  kinds := kinds
  replies := replies
  answered := List.mem_append_right _ (List.mem_singleton_self _)
  stands := stands
  only := only.trans (State.linksAnswered_onlyIn.mono (by decide))

end

theorem State.linksReset_spec (s : State) (rest : List DownFrame) : s.LinksReset (s.taken rest).unlinked.linksAnswered := by
  let u := s.taken rest
  obtain ⟨blk, psc, counters, ⟨_, pae⟩, dlu, lastPower, told, stand, only⟩ := u.unlinked_spec
  have kinds := u.linksReset_kinds
  have replies := u.linksReset_replies
  have latch (ok : s.LatchOk) : u.unlinked.dlu = .initial := dlu { ok with }
  have frame := State.OnlyIn.trans (u := u.unlinked)
    (State.OnlyIn.taken.mono (more := [.counters, .tables, .cnv, .pae, .blk, .psc, .pch, .bcd, .dlu, .spm, .upq, .slk]) (by decide))
    (only.mono (by decide))
  have stands : s.TablesStand u.unlinked := stand
  generalize u.unlinked = v at *
  exact State.linksAnswered_resets blk psc counters pae latch lastPower told kinds replies stands frame

theorem exec_hubResetLinks_resets {s : State} {rest : List DownFrame} (offered : s.offers ⟨0x4A, [0]⟩ rest) :
    ∃ t, exec .hubResetLinks s = .next t ∧ s.LinksReset t :=
  ⟨_, (exec_hubResetLinks offered (by decide)).trans (congrArg _ State.hubReset_links),
    s.linksReset_spec rest⟩

/-- Settles O50: the links by the entry to ABSENT and what is cleared behind it, the resets by the reset state. -/
theorem resetsClearWhatTheyName : Obligations.ResetsClearWhatTheyName := by
  unfold Obligations.ResetsClearWhatTheyName
  refine fun s => ⟨fun rest offered => ?_, fun rest offered => ?_, fun rest scope offered links all => ⟨?_, ?_⟩, fun straps =>
    ⟨rfl, rfl, fun sent => congrArg Host.Outcome.next (if_pos sent)⟩⟩
  · obtain ⟨t, goes, h⟩ := exec_hubResetLinks_resets offered
    exact ⟨t, goes, h.blk, h.psc, h.posture, h.lastPower, h.rotCandidate, h.candidate, h.hinge, h.phiL, h.psi, h.latch, h.detach,
      h.counters, h.reports, h.kinds, h.replies, h.answered, h.stands, h.only⟩
  · exact (exec_hubResetAll offered (by decide)).trans (congrArg _ State.hubReset_all)
  · exact (exec_hubResetLinks offered all).trans (congrArg _ (State.hubReset_other links all))
  · exact (exec_hubResetAll offered links).trans (congrArg _ (State.hubReset_other links all))

end Sys2Proof.Machine
end

section
/-!
PROOFS. Receiving down frames (R181, R182): a character by the framer's state; and the characters after a start character that framed a
bad frame, each received again. The model hunts through them with fuel; `State.hunt_eq_foldl` says that the fuel it takes is enough.
-/

namespace Sys2Proof.Machine

/-! ### One character -/

section
variable {f : Framer} {c : RxChar}

theorem Framer.before_of_fresh {speed : LinkSpeed} (fresh : f.lapsed speed c.time = false) : f.before speed c = f :=
  if_neg (by simp [fresh])

theorem Framer.before_of_lapsed {speed : LinkSpeed} (lapsed : f.lapsed speed c.time = true) : f.before speed c = .hunting :=
  if_pos lapsed

theorem Framer.act_hunt_start (hunts : f.state = .hunt) (start : c.value = 0xA5) (high : c.stopHigh = true) :
    f.act c = .goOn ⟨.kind, [c], 0⟩ := by
  simp only [Framer.act, hunts, start, high, and_self, if_true]

theorem Framer.act_hunt_other (hunts : f.state = .hunt) (other : c.value ≠ 0xA5 ∨ c.stopHigh = false) : f.act c = .goOn .hunting := by
  have no : ¬(c.value = 0xA5 ∧ c.stopHigh = true) := by
    rintro ⟨start, high⟩
    rcases other with h | h
    · exact h start
    · simp [h] at high
  simp only [Framer.act, hunts, if_neg no]

theorem Framer.act_kind (kind : f.state = .kind) (high : c.stopHigh = true) : f.act c = .goOn ⟨.length, f.kept ++ [c], 0⟩ := by
  simp only [Framer.act, kind, high, if_true, Framer.keep]

theorem Framer.act_length (length : f.state = .length) (high : c.stopHigh = true) (fits : c.value.toNat ≤ 60) :
    f.act c = .goOn ⟨if c.value = 0 then .check else .payload, f.kept ++ [c], c.value.toNat⟩ := by
  have goes : c.stopHigh = true ∧ c.value.toNat ≤ Config.maxPayload := ⟨high, fits⟩
  simp only [Framer.act, length, if_pos goes, Framer.keep]

theorem Framer.act_payload (payload : f.state = .payload) (high : c.stopHigh = true) :
    f.act c = .goOn ⟨if f.due ≤ 1 then .check else .payload, f.kept ++ [c], f.due - 1⟩ := by
  simp only [Framer.act, payload, high, if_true, Framer.keep]

/-- R181: the check character is right. -/
def Framer.closes (f : Framer) (c : RxChar) : Prop := c.stopHigh = true ∧ crc8 ((f.kept.drop 1).map RxChar.value) = c.value

theorem Framer.act_good (check : f.state = .check) (good : f.closes c) :
    f.act c = .good ⟨((f.kept.drop 1).map RxChar.value).headD 0, ((f.kept.drop 1).map RxChar.value).drop 2⟩ := by
  simp only [Framer.act, check]
  exact if_pos good

theorem Framer.act_bad (framing : f.state ≠ .hunt)
    (bad : c.stopHigh = false ∨ (f.state = .length ∧ 60 < c.value.toNat) ∨ (f.state = .check ∧ ¬f.closes c)) : f.act c = .bad := by
  have wrong (p : Prop) (needs : p → c.stopHigh = true) (state : (f.state = .length ∧ 60 < c.value.toNat) ∨ (f.state = .check ∧ ¬f.closes c) → ¬p) :
      ¬p := by
    rcases bad with low | other
    · exact fun h => by simp [needs h] at low
    · exact state other
  cases state : f.state
  case hunt => exact absurd state framing
  case kind =>
    simp only [Framer.act, state]
    exact if_neg (wrong _ id (by simp [state]))
  case length =>
    simp only [Framer.act, state]
    refine if_neg (wrong _ And.left ?_)
    rintro (⟨_, long⟩ | ⟨h, _⟩) ⟨_, fits⟩
    · exact absurd fits (Nat.not_le.mpr long)
    · simp [state] at h
  case payload =>
    simp only [Framer.act, state]
    exact if_neg (wrong _ id (by simp [state]))
  case check =>
    simp only [Framer.act, state]
    refine if_neg (wrong _ And.left ?_)
    rintro (⟨h, _⟩ | ⟨_, open_⟩) closes
    · simp [state] at h
    · exact open_ closes

/-- R181: what goes on keeps at most the character more. -/
theorem Framer.act_goOn_kept {g : Framer} (goes : f.act c = .goOn g) : g.kept.length ≤ f.kept.length + 1 := by
  cases state : f.state <;> simp only [Framer.act, state] at goes <;> split at goes <;>
    simp only [Framer.keep, FrameStep.goOn.injEq, reduceCtorEq] at goes <;> subst goes <;> simp [Framer.hunting]

end

/-! ### The hunt through kept characters -/

/-- The characters that are kept and that are to come bound the hunt: each turn either keeps the next one, or gives one up for good. -/
def huntBound (kept coming : Nat) : Nat := (kept + coming) * (kept + coming) + coming

theorem huntBound_mono {k l m n : Nat} (total : k + m ≤ l + n) (coming : m ≤ n) : huntBound k m ≤ huntBound l n := by
  exact Nat.add_le_add (Nat.mul_le_mul total total) coming

/-- A character given up for good pays for every one that comes again. -/
theorem huntBound_drop {k m l n : Nat} (total : k + m + 1 ≤ l + n) : huntBound k m < huntBound l n := by
  have square : (k + m + 1) * (k + m + 1) ≤ (l + n) * (l + n) := Nat.mul_le_mul total total
  have expand : (k + m + 1) * (k + m + 1) = (k + m) * (k + m) + 2 * (k + m) + 1 := by ring
  unfold huntBound
  omega

section
variable {s : State} {c : RxChar} {rest : List RxChar} {n : Nat}

theorem State.hunt_goOn {g : Framer} (goes : (s.slk.framer.before s.slk.rate c).act c = .goOn g) :
    s.hunt (n + 1) (c :: rest) = ({ s with slk.framer := g } : State).hunt n rest := by
  rw [State.hunt]
  simp only [goes]

theorem State.hunt_good {frame : DownFrame} (good : (s.slk.framer.before s.slk.rate c).act c = .good frame) :
    s.hunt (n + 1) (c :: rest) = (({ s with slk.framer := .hunting } : State).offer frame).hunt n rest := by
  rw [State.hunt]
  simp only [good]

theorem State.hunt_bad (bad : (s.slk.framer.before s.slk.rate c).act c = .bad) :
    s.hunt (n + 1) (c :: rest) = (({ s with slk.framer := .hunting } : State).bump .downCrc).hunt n
      (((s.slk.framer.before s.slk.rate c).kept ++ [c]).drop 1 ++ rest) := by
  rw [State.hunt]
  simp only [bad]

theorem Framer.before_kept {f : Framer} {speed : LinkSpeed} : (f.before speed c).kept.length ≤ f.kept.length := by
  unfold Framer.before
  split
  · exact Nat.zero_le _
  · exact le_rfl

theorem State.offer_framer (s : State) (f : DownFrame) : (s.offer f).slk.framer = s.slk.framer := by
  unfold State.offer
  split
  · rfl
  · simp

end

section
variable {s : State} {c : RxChar}

theorem State.receive_eq (s : State) (c : RxChar) : ∃ n, huntBound s.slk.framer.kept.length 1 ≤ n + 1 ∧ s.receive c = s.hunt (n + 1) [c] := by
  refine ⟨(s.slk.framer.kept.length + 2) * (s.slk.framer.kept.length + 2) - 1, ?_, ?_⟩
  · unfold huntBound
    have expand (k : Nat) : (k + 2) * (k + 2) = (k + 1) * (k + 1) + 2 * k + 3 := by ring
    have := expand s.slk.framer.kept.length
    omega
  · have positive : 0 < (s.slk.framer.kept.length + 2) * (s.slk.framer.kept.length + 2) := Nat.mul_pos (by omega) (by omega)
    rw [Nat.sub_add_cancel positive]
    rfl

/-- R181: fuel beyond the bound hunts as receiving the characters one after the other does. -/
theorem State.hunt_eq_foldl {b : Nat} : ∀ {n : Nat} {s : State} {cs : List RxChar},
    huntBound s.slk.framer.kept.length cs.length ≤ b → b ≤ n → s.hunt n cs = cs.foldl State.receive s := by
  induction b using Nat.strong_induction_on with
  | _ b ih =>
    intro n s cs bound fuel
    cases cs with
    | nil => exact s.hunt_nil n
    | cons c rest =>
      have enough : 1 ≤ b := by
        refine le_trans ?_ bound
        simp only [huntBound, List.length_cons]
        omega
      obtain ⟨n, rfl⟩ := Nat.exists_eq_succ_of_ne_zero (show n ≠ 0 by omega)
      obtain ⟨m, most, received⟩ := s.receive_eq c
      have kept := Framer.before_kept (c := c) (f := s.slk.framer) (speed := s.slk.rate)
      rw [List.foldl_cons, received]
      simp only [List.length_cons] at bound
      -- the next turn, for characters whose bound is below the present one
      have next (u : State) (cs : List RxChar) (m : Nat)
          (less : huntBound u.slk.framer.kept.length cs.length < huntBound s.slk.framer.kept.length (rest.length + 1))
          (fuel : huntBound u.slk.framer.kept.length cs.length ≤ m) : u.hunt m cs = cs.foldl State.receive u :=
        ih _ (lt_of_lt_of_le less bound) le_rfl fuel
      cases acts : (s.slk.framer.before s.slk.rate c).act c with
      | goOn g =>
        have grows := Framer.act_goOn_kept acts
        rw [State.hunt_goOn acts, State.hunt_goOn acts, State.hunt_nil]
        have less : huntBound g.kept.length rest.length < huntBound s.slk.framer.kept.length (rest.length + 1) := by
          have total : g.kept.length + rest.length ≤ s.slk.framer.kept.length + (rest.length + 1) := by omega
          have square := Nat.mul_le_mul total total
          unfold huntBound
          omega
        exact next _ rest n less (by change huntBound g.kept.length rest.length ≤ n; omega)
      | good frame =>
        rw [State.hunt_good acts, State.hunt_good acts, State.hunt_nil]
        have cleared : (({ s with slk.framer := .hunting } : State).offer frame).slk.framer.kept.length = 0 := by
          rw [State.offer_framer]
          rfl
        have less : huntBound 0 rest.length < huntBound s.slk.framer.kept.length (rest.length + 1) := huntBound_drop (by omega)
        exact next _ rest n (by rw [cleared]; exact less) (by rw [cleared]; omega)
      | bad =>
        rw [State.hunt_bad acts, State.hunt_bad acts, List.append_nil]
        have cleared : (({ s with slk.framer := .hunting } : State).bump .downCrc).slk.framer.kept.length = 0 := by
          simp [Framer.hunting]
        have again : (((s.slk.framer.before s.slk.rate c).kept ++ [c]).drop 1).length ≤ s.slk.framer.kept.length := by
          simp only [List.length_drop, List.length_append, List.length_singleton]
          omega
        have less : huntBound 0 (((s.slk.framer.before s.slk.rate c).kept ++ [c]).drop 1 ++ rest).length <
            huntBound s.slk.framer.kept.length (rest.length + 1) := by
          rw [List.length_append]
          exact huntBound_drop (by omega)
        have first : huntBound 0 (((s.slk.framer.before s.slk.rate c).kept ++ [c]).drop 1).length < huntBound s.slk.framer.kept.length 1 :=
          huntBound_drop (by omega)
        have wide : huntBound s.slk.framer.kept.length 1 ≤ huntBound s.slk.framer.kept.length (rest.length + 1) :=
          huntBound_mono (by omega) (by omega)
        rw [next _ _ n (by rw [cleared]; exact less) (by rw [cleared]; omega),
          next _ _ m (by rw [cleared]; omega) (by rw [cleared]; omega), List.foldl_append]

theorem State.receive_goOn {g : Framer} (goes : (s.slk.framer.before s.slk.rate c).act c = .goOn g) :
    s.receive c = { s with slk.framer := g } := by
  obtain ⟨n, _, e⟩ := s.receive_eq c
  rw [e, State.hunt_goOn goes, State.hunt_nil]

theorem State.receive_good {frame : DownFrame} (good : (s.slk.framer.before s.slk.rate c).act c = .good frame) :
    s.receive c = ({ s with slk.framer := .hunting } : State).offer frame := by
  obtain ⟨n, _, e⟩ := s.receive_eq c
  rw [e, State.hunt_good good, State.hunt_nil]

/-- R181: a bad frame is counted, and the characters kept behind its start character are received again. -/
theorem State.receive_bad (bad : (s.slk.framer.before s.slk.rate c).act c = .bad) :
    s.receive c = (((s.slk.framer.before s.slk.rate c).kept ++ [c]).drop 1).foldl State.receive
      (({ s with slk.framer := .hunting } : State).bump .downCrc) := by
  obtain ⟨n, enough, e⟩ := s.receive_eq c
  have kept := Framer.before_kept (c := c) (f := s.slk.framer) (speed := s.slk.rate)
  have cleared : (({ s with slk.framer := .hunting } : State).bump .downCrc).slk.framer.kept.length = 0 := by simp [Framer.hunting]
  rw [e, State.hunt_bad bad, List.append_nil]
  refine State.hunt_eq_foldl le_rfl ?_
  rw [cleared]
  have less : huntBound 0 (((s.slk.framer.before s.slk.rate c).kept ++ [c]).drop 1).length < huntBound s.slk.framer.kept.length 1 := by
    refine huntBound_drop ?_
    simp only [List.length_drop, List.length_append, List.length_singleton]
    omega
  omega

end

/-! ### The commands -/

section
variable {s : State} {c : RxChar}

theorem exec_downFrameReceived {frame : DownFrame} (good : (s.slk.framer.before s.slk.rate c).act c = .good frame) :
    exec (.downFrameReceived c) s = .next (s.receive c) := by
  have completes : s.completesFrame c = true := by rw [State.completesFrame, good]
  exact congrArg Host.Outcome.next (if_pos completes)

theorem exec_badDownFrame (bad : (s.slk.framer.before s.slk.rate c).act c = .bad) :
    exec (.badDownFrame c) s = .next (s.receive c) := congrArg Host.Outcome.next (if_pos bad)

theorem State.offer_room {frame : DownFrame} (room : s.slk.down.length < 2) :
    s.offer frame = { s with slk.down := s.slk.down ++ [frame] } := if_pos room

theorem State.offer_full {frame : DownFrame} (full : 2 ≤ s.slk.down.length) : s.offer frame = s.bump .overrun :=
  if_neg (Nat.not_lt.mpr full)

/-- R181: 100 µs behind its last character a frame under reception has lapsed. -/
theorem exec_downFrameAbandon {l : RxChar} {time : Nat} (framing : s.slk.framer.state ≠ .hunt)
    (last : s.slk.framer.kept.getLast? = some l) (late : l.time + s.slk.rate.charTime + 100000 ≤ time) :
    exec (.downFrameAbandon time) s = .next { s with slk.framer := ⟨.hunt, [], 0⟩ } := by
  have lapsed : s.slk.framer.lapsed s.slk.rate (time + 1) = true := by
    have gap : l.time + s.slk.rate.charTime + Config.abandonGap < time + 1 := Nat.lt_succ_of_le late
    unfold Framer.lapsed
    rw [last]
    cases state : s.slk.framer.state
    case hunt => exact absurd state framing
    all_goals exact decide_eq_true gap
  exact congrArg Host.Outcome.next (if_pos lapsed)

end

/-- Settles O41, by the framer's state. -/
theorem framesAreReceivedCharacterByCharacter : Obligations.FramesAreReceivedCharacterByCharacter := by
  unfold Obligations.FramesAreReceivedCharacterByCharacter
  refine fun s => ⟨fun c fresh => ?_, fun c lapsed => ?_, fun l time => exec_downFrameAbandon⟩
  · have before : s.slk.framer.before s.slk.rate c = s.slk.framer := Framer.before_of_fresh fresh
    have acted {r : FrameStep} (acts : s.slk.framer.act c = r) : (s.slk.framer.before s.slk.rate c).act c = r :=
      (congrArg (Framer.act · c) before).trans acts
    have goesOn {g : Framer} (goes : s.slk.framer.act c = .goOn g) :
        exec (.downCharacterReceived c) s = .next { s with slk.framer := g } :=
      congrArg Host.Outcome.next (State.receive_goOn (acted goes))
    refine ⟨fun hunts start high => goesOn (Framer.act_hunt_start hunts start high), fun hunts other => goesOn (Framer.act_hunt_other hunts other),
      fun kind high => goesOn (Framer.act_kind kind high), fun length high zero => ?_, fun length high other fits => ?_,
      fun payload high more => ?_, fun payload high one => ?_, fun check good room => ?_, fun check good full => ?_, fun framing bad => ?_⟩
    · have acts := Framer.act_length length high (by rw [zero]; decide)
      rw [if_pos zero, zero] at acts
      exact goesOn acts
    · have acts := Framer.act_length length high fits
      rw [if_neg other] at acts
      exact goesOn acts
    · have acts := Framer.act_payload payload high
      rw [if_neg (by omega)] at acts
      exact goesOn acts
    · have acts := Framer.act_payload payload high
      rw [one] at acts
      exact goesOn acts
    · have acts := Framer.act_good check good
      have received := State.receive_good (acted acts)
      rw [State.offer_room (s := { s with slk.framer := .hunting }) room] at received
      exact ⟨(exec_downFrameReceived (acted acts)).trans (congrArg _ received), congrArg Host.Outcome.next received⟩
    · have acts := Framer.act_good check good
      have received := State.receive_good (acted acts)
      rw [State.offer_full (s := { s with slk.framer := .hunting }) full] at received
      exact ⟨(exec_downFrameReceived (acted acts)).trans (congrArg _ received), congrArg Host.Outcome.next received⟩
    · have acts := Framer.act_bad framing bad
      have received := State.receive_bad (acted acts)
      rw [before] at received
      exact ⟨(exec_badDownFrame (acted acts)).trans (congrArg _ received), congrArg Host.Outcome.next received⟩
  · have before : s.slk.framer.before s.slk.rate c = .hunting := Framer.before_of_lapsed lapsed
    have afresh : Framer.hunting.before s.slk.rate c = .hunting := Framer.before_of_fresh rfl
    obtain ⟨g, goes⟩ : ∃ g, Framer.hunting.act c = .goOn g := by
      by_cases start : c.value = 0xA5 ∧ c.stopHigh = true
      · exact ⟨_, Framer.act_hunt_start rfl start.1 start.2⟩
      · refine ⟨_, Framer.act_hunt_other rfl ?_⟩
        rwa [not_and_or, Bool.not_eq_true] at start
    have one : s.receive c = _ := State.receive_goOn ((congrArg (Framer.act · c) before).trans goes)
    have other : ({ s with slk.framer := .hunting } : State).receive c = _ := State.receive_goOn ((congrArg (Framer.act · c) afresh).trans goes)
    exact congrArg Host.Outcome.next (one.trans other.symm)

end Sys2Proof.Machine
end

section
/-!
PROOFS. A charger that does not drive the coil, while the pause reasons change: it goes from WAIT to PAUSED, from PAUSED to WAIT, or
stays (R147, R148); what a stop of the driver brings, on the way to any such state (R128, R135); and the statement about the pause
reasons and the pen claim (O33).
-/

namespace Sys2Proof.Machine

/-! ### A charger that does not drive -/

/-- R148: the charger's record with the timers of WAIT, IDENT and CHARGE stopped. -/
def Pch.cleared (p : Pch) : Pch :=
  { p with
    waitTimer := none, burstTimer := none, stageTimer := none, packetTimer := none, waiting := none, checkTicks := none }

/-- R147, R148: the record of a charger that does not drive, after a change of the pause reasons. -/
def Pch.reconsidered (p : Pch) (q : Pauses) (interval : Nat) : Pch :=
  if q = p.pauses then p
  else if p.pauses.raises q = true ∧ p.state = .wait then { p.cleared with pauses := q, state := .paused }
  else if p.state = .paused ∧ q.none = true then
    { p with pauses := q, attempts := 0, state := .wait, waitTimer := some (.start interval) }
  else { p with pauses := q }

section
variable {s : State} (idle : s.pch.state.drives = false) (stopped : s.pch.driver.running = false)
include idle stopped

/-- R128: between states in which the driver stands still a change of state is that alone. -/
theorem State.enterCharger_idle {c : ChargerState} (rests : c.drives = false) : s.enterCharger c = { s with pch.state := c } := by
  rcases s.enterCharger_cases c with ⟨drove, _⟩ | ⟨_, e⟩
  · simp [idle] at drove
  · rw [e]
    rcases ({ s.pch with state := c } : Pch).settle_cases with ⟨drives, _⟩ | ⟨drives, _⟩ | ⟨_, runs, _⟩ | ⟨_, _, still⟩
    · simp [rests] at drives
    · simp [rests] at drives
    · simp [stopped] at runs
    · rw [still]

theorem State.setPausesBy_idle (q : Pauses) :
    ∃ upq, s.setPausesBy State.enterCharger q = { s with pch := s.pch.reconsidered q s.chg.waitInterval, upq := upq } ∧
      ∀ r : Reply, ⟨.reply r, false⟩ ∈ s.upq.entries → ⟨.reply r, false⟩ ∈ upq.entries := by
  unfold Pch.reconsidered
  rcases s.setPausesBy_cases State.enterCharger q with ⟨same, e⟩ | ⟨other, raises, busy, e⟩ | ⟨other, paused, none, e⟩ |
      ⟨other, quiet, stays, e⟩
  · rw [if_pos same]
    exact ⟨s.upq, e, fun _ h => h⟩
  · have waits : s.pch.state = .wait := busy.resolve_right (by simp [idle])
    have change : (s.setPausesBy State.enterCharger q) =
        ({ s with pch := { s.pch.cleared with pauses := q, state := .paused } } : State).penNotice := by
      rw [e]
      exact congrArg State.penNotice (State.enterCharger_idle (s := { s with pch := { s.pch.cleared with pauses := q } }) idle stopped rfl)
    rw [if_neg other, if_pos ⟨raises, waits⟩, change]
    exact ⟨_, rfl, fun r h => Upq.mem_issue _ h (by simp)⟩
  · have change : s.setPausesBy State.enterCharger q = ({ s with
        pch := { s.pch with pauses := q, attempts := 0, state := .wait, waitTimer := some (.start s.chg.waitInterval) } } : State).penNotice := by
      rw [e, State.toWaitBy, State.enterCharger_idle (s := { s with pch := { s.pch with pauses := q, attempts := 0 } }) idle stopped rfl]
      rfl
    rw [if_neg other, if_neg (by simp [paused]), if_pos ⟨paused, none⟩, change]
    exact ⟨_, rfl, fun r h => Upq.mem_issue _ h (by simp)⟩
  · rw [if_neg other, if_neg fun h => quiet ⟨h.1, .inl h.2⟩, if_neg stays, e]
    exact ⟨_, rfl, fun r h => Upq.mem_issue _ h (by simp)⟩

/-- R152, R165: the stage limit handed on by a charger that does not drive; it judges BUDGET and LATCH alone. -/
theorem State.handLimitBy_idle :
    ∃ limit budget latch upq, s.handLimitBy State.enterCharger = { s with
        spm := s.spm.withLimit limit
        pch := s.pch.reconsidered { s.pch.pauses with budget := budget, latch := latch } s.chg.waitInterval
        upq := upq } ∧
      ∀ r : Reply, ⟨.reply r, false⟩ ∈ s.upq.entries → ⟨.reply r, false⟩ ∈ upq.entries := by
  rcases s.rebudgetBy_cases State.enterCharger { s.spm with stageLimit := s.limitInForce } with ⟨_, _, e⟩ | ⟨_, e⟩
  · have same : s.pch.reconsidered s.pch.pauses s.chg.waitInterval = s.pch := if_pos rfl
    refine ⟨s.limitInForce, s.pch.pauses.budget, s.pch.pauses.latch, s.upq, ?_, fun _ h => h⟩
    change s.handLimitBy State.enterCharger = { s with
      spm := s.spm.withLimit s.limitInForce, pch := s.pch.reconsidered s.pch.pauses s.chg.waitInterval }
    rw [same]
    exact e
  · obtain ⟨upq, set, kept⟩ := State.setPausesBy_idle (s := s.limited) idle stopped
      (s.pch.pauses.forClaim (s.spm.withLimit s.limitInForce).penClaim (decide (0 < s.spm.latchClaim)))
    exact ⟨s.limitInForce, _, _, upq, e.trans set, kept⟩

/-- R135: the swap at a stop, for a charger that does not drive. -/
theorem State.swapStopped_idle :
    let globals := chargeGlobals s.tables.charge.pending
    ∃ duty limit budget latch upq, s.swapStopped = { s with
        tables := s.chargeSwapped
        spm := s.spm.withLimit limit
        pch := ({ s.pch with
            stepped := false, driver := s.pch.driver.taken globals.period globals.deadBand duty } : Pch).reconsidered
          { s.pch.pauses with budget := budget, latch := latch } globals.waitInterval
        upq := upq } ∧
      ⟨.reply ⟨0x41, .ok, [], false⟩, false⟩ ∈ upq.entries := by
  intro globals
  let t := s.swapTable .charge
  let duty := clampNat 0 t.dutyCeiling s.pch.driver.dutyB
  let u : State := { t with
    pch := { s.pch with stepped := false, driver := s.pch.driver.taken globals.period globals.deadBand duty } }
  have queued : ⟨.reply ⟨0x41, .ok, [], false⟩, false⟩ ∈ t.upq.entries := by
    simp [t, State.swapTable, State.reply_upq, commitKind]
  obtain ⟨limit, budget, latch, upq, handed, kept⟩ := State.handLimitBy_idle (s := u) idle stopped
  refine ⟨duty, limit, budget, latch, upq, ?_, kept _ queued⟩
  have swap : s.swapStopped = u.handLimitBy State.enterCharger := by
    unfold State.swapStopped
    dsimp only
    rw [Driver.adopt_stopped (d := t.pch.driver) stopped]
    rfl
  exact swap.trans handed

end

/-! ### What a change of the pause reasons leaves of such a charger -/

section
variable (p : Pch) (q : Pauses) (interval : Nat)

theorem Pch.reconsidered_cases :
    (q = p.pauses ∧ p.reconsidered q interval = p) ∨
    (q ≠ p.pauses ∧ p.state = .wait ∧ p.pauses.raises q = true ∧
      p.reconsidered q interval = { p.cleared with pauses := q, state := .paused }) ∨
    (q ≠ p.pauses ∧ p.state = .paused ∧ q.none = true ∧ p.reconsidered q interval =
      { p with pauses := q, attempts := 0, state := .wait, waitTimer := some (.start interval) }) ∨
    (q ≠ p.pauses ∧ ¬(p.pauses.raises q = true ∧ p.state = .wait) ∧ ¬(p.state = .paused ∧ q.none = true) ∧
      p.reconsidered q interval = { p with pauses := q }) := by
  unfold Pch.reconsidered
  split
  · exact .inl ⟨by assumption, rfl⟩
  · split
    · rename_i raised
      exact .inr (.inl ⟨by assumption, raised.2, raised.1, rfl⟩)
    · split
      · rename_i resumes
        exact .inr (.inr (.inl ⟨by assumption, resumes.1, resumes.2, rfl⟩))
      · exact .inr (.inr (.inr ⟨by assumption, by assumption, by assumption, rfl⟩))

/-- What a pause or a resume never touches. -/
structure Pch.ReconsideredAtMost (p r : Pch) : Prop where
  driver : r.driver = p.driver
  pen : r.pen = p.pen
  enable : r.enable = p.enable
  burstKind : r.burstKind = p.burstKind
  fault : r.faultReason = p.faultReason ∧ r.faultCode = p.faultCode
  recheck : r.recheckTimer = p.recheckTimer
  burst : p.burstTimer = none → r.burstTimer = none
  stage : p.stageTimer = none → r.stageTimer = none
  packet : p.packetTimer = none → r.packetTimer = none
  waiting : p.waiting = none → r.waiting = none
  blanking : r.blanking = p.blanking

theorem Pch.reconsidered_atMost : p.ReconsideredAtMost (p.reconsidered q interval) := by
  rcases p.reconsidered_cases q interval with ⟨_, e⟩ | ⟨_, _, _, e⟩ | ⟨_, _, _, e⟩ | ⟨_, _, _, e⟩ <;> rw [e]
  · exact ⟨rfl, rfl, rfl, rfl, ⟨rfl, rfl⟩, rfl, id, id, id, id, rfl⟩
  · exact ⟨rfl, rfl, rfl, rfl, ⟨rfl, rfl⟩, rfl, fun _ => rfl, fun _ => rfl, fun _ => rfl, fun _ => rfl, rfl⟩
  · exact ⟨rfl, rfl, rfl, rfl, ⟨rfl, rfl⟩, rfl, id, id, id, id, rfl⟩
  · exact ⟨rfl, rfl, rfl, rfl, ⟨rfl, rfl⟩, rfl, id, id, id, id, rfl⟩

theorem Pch.reconsidered_pauses : (p.reconsidered q interval).pauses = q := by
  rcases p.reconsidered_cases q interval with ⟨same, e⟩ | ⟨_, _, _, e⟩ | ⟨_, _, _, e⟩ | ⟨_, _, _, e⟩ <;> rw [e]
  exact same.symm

/-- R148: a paused charger stays so while a reason remains, and waits otherwise. -/
theorem Pch.reconsidered_paused {p : Pch} (paused : p.state = .paused) (held : p.pauses.none = false) :
    let r := p.reconsidered q interval
    (q.none = false → r.state = .paused ∧ r.waitTimer = p.waitTimer ∧ r.attempts = p.attempts) ∧
    (q.none = true → r.state = .wait ∧ r.waitTimer = some (.start interval) ∧ r.attempts = 0) := by
  rcases p.reconsidered_cases q interval with ⟨same, e⟩ | ⟨_, waits, _⟩ | ⟨_, _, none, e⟩ | ⟨_, _, stays, e⟩
  · rw [e, same]
    exact ⟨fun _ => ⟨paused, rfl, rfl⟩, fun none => by simp [held] at none⟩
  · simp [paused] at waits
  · rw [e]
    exact ⟨fun some => by simp [none] at some, fun _ => ⟨rfl, rfl, rfl⟩⟩
  · rw [e]
    exact ⟨fun _ => ⟨paused, rfl, rfl⟩, fun none => absurd ⟨paused, none⟩ stays⟩

end

/-! ### A stop of the driver -/

/-- The charger's record after a change to a state that does not drive, before what the stop brings. -/
theorem State.enterCharger_stops (s : State) {c : ChargerState} (rests : c.drives = false) :
    (s.enterCharger c).pch.driver.running = false := by
  rw [(s.enterCharger_pch c).2, Pch.settle_running]
  simp [rests]

/-- R128, R135: a change to a state that does not drive is the bare change, or that with the swap that the stop brings; the swap
reconsiders BUDGET and LATCH. -/
theorem State.toCharger_stops (s : State) {c : ChargerState} (rests : c.drives = false) :
    let t := s.toCharger c
    s.Stopped t ∧ t.bcd = (s.enterCharger c).bcd ∧ t.pch.driver.running = false ∧
    ∃ (p : Pch) (budget latch : Bool), p.ReconsideredAtMost t.pch ∧ p.state = c ∧ p.waiting = (s.enterCharger c).pch.waiting ∧
      p = { s.pch with
        state := c, stepped := p.stepped, driver := p.driver, blanking := p.blanking, waiting := p.waiting } ∧
      t.pch = p.reconsidered { s.pch.pauses with budget := budget, latch := latch } t.chg.waitInterval := by
  intro t
  have state := (s.enterCharger_pch c).1
  have stopped := s.enterCharger_stops rests
  obtain ⟨driver, blanking, waiting, pch, _⟩ := s.enterCharger_pch_eq c
  rcases s.toCharger_cases c with ⟨ran, _, awaits, e⟩ | ⟨still, e⟩
  · obtain ⟨duty, limit, budget, latch, upq, swapped, reply⟩ :=
      State.swapStopped_idle (s := s.enterCharger c) (state.symm ▸ rests) stopped
    rw [swapped] at e
    generalize made : ({ (s.enterCharger c).pch with stepped := false, driver := _ } : Pch) = p at e
    have atMost := p.reconsidered_atMost { (s.enterCharger c).pch.pauses with budget := budget, latch := latch }
      (chargeGlobals (s.enterCharger c).tables.charge.pending).waitInterval
    have running : p.driver.running = false := made ▸ stopped
    have tables : t.tables = s.chargeSwapped := by simp [t, e, State.chargeSwapped]
    have interval : t.chg.waitInterval = (chargeGlobals (s.enterCharger c).tables.charge.pending).waitInterval := by
      simp [State.chg, tables, State.chargeSwapped]
    refine ⟨?_, by simp only [t, e], ?_, p, budget, latch, ?_, made ▸ state, made ▸ rfl, ?_, ?_⟩
    · unfold State.Stopped
      rw [if_pos ⟨ran, awaits⟩]
      have period : t.pch.driver = p.driver := by simp only [t, e, atMost.driver]
      refine ⟨tables, by simp only [t, e]; exact reply, ?_, ?_, by simp [t, e, Spm.withLimit], by simp only [t, e]; rfl⟩
      · rw [period, ← made, State.chg, tables]
        simp [Driver.taken, State.chargeSwapped]
      · rw [period, ← made, State.chg, tables]
        simp [Driver.taken, State.chargeSwapped]
    · change (s.toCharger c).pch.driver.running = false
      rw [e]
      exact (congrArg Driver.running atMost.driver).trans running
    · change p.ReconsideredAtMost (s.toCharger c).pch
      rw [e]
      exact atMost
    · rw [← made, pch]
    · rw [interval]
      change (s.toCharger c).pch = _
      rw [e, pch]
  · have same : t.pch = (s.enterCharger c).pch := congrArg State.pch e
    refine ⟨?_, congrArg State.bcd e, same ▸ stopped, (s.enterCharger c).pch, s.pch.pauses.budget, s.pch.pauses.latch, ?_, state,
      rfl, ?_, ?_⟩
    · unfold State.Stopped
      rw [if_neg fun h => still ⟨h.1, stopped, h.2⟩]
      simp [t, e]
    · rw [same]
      exact ⟨rfl, rfl, rfl, rfl, ⟨rfl, rfl⟩, rfl, id, id, id, id, rfl⟩
    · rw [pch]
    · rw [same]
      exact (if_pos (by rw [pch])).symm

/-! ### The reasons that the claim does not judge -/

/-- Two sets of pause reasons that differ in BUDGET and LATCH at most. -/
def Pauses.Agrees (p q : Pauses) : Prop := q.thermal = p.thermal ∧ q.supply = p.supply ∧ q.sleep = p.sleep

theorem Pauses.Agrees.refl (p : Pauses) : p.Agrees p := ⟨rfl, rfl, rfl⟩

theorem Pauses.Agrees.trans {p q r : Pauses} (h : p.Agrees q) (h' : q.Agrees r) : p.Agrees r :=
  ⟨h'.1.trans h.1, h'.2.1.trans h.2.1, h'.2.2.trans h.2.2⟩

theorem State.setPausesBy_agrees (go : State → ChargerState → State) (change : ∀ (s : State) c, s.pch.pauses.Agrees (go s c).pch.pauses)
    (s : State) (q : Pauses) : q.Agrees (s.setPausesBy go q).pch.pauses := by
  rcases s.setPausesBy_cases go q with ⟨rfl, e⟩ | ⟨_, _, _, e⟩ | ⟨_, _, _, e⟩ | ⟨_, _, _, e⟩ <;> rw [e]
  · exact .refl _
  · exact change { s with
      pch.pauses := q, pch.waitTimer := none, pch.burstTimer := none, pch.stageTimer := none, pch.packetTimer := none
      pch.waiting := none, pch.checkTicks := none } .paused
  · exact change { s with pch.pauses := q, pch.attempts := 0 } .wait
  · exact .refl _

theorem State.rebudgetBy_agrees (go : State → ChargerState → State) (change : ∀ (s : State) c, s.pch.pauses.Agrees (go s c).pch.pauses)
    (s : State) (p : Spm) : s.pch.pauses.Agrees (s.rebudgetBy go p).pch.pauses := by
  rcases s.rebudgetBy_cases go p with ⟨_, _, e⟩ | ⟨_, e⟩ <;> rw [e]
  · exact .refl _
  · have judged : s.pch.pauses.Agrees (s.pch.pauses.forClaim p.claim (decide (0 < p.latchClaim))) := ⟨rfl, rfl, rfl⟩
    exact judged.trans (State.setPausesBy_agrees go change _ _)

theorem State.enterCharger_agrees (s : State) (c : ChargerState) : s.pch.pauses.Agrees (s.enterCharger c).pch.pauses := by
  rw [s.enterCharger_pauses]
  exact .refl _

/-- R135: the swap at a stop reconsiders BUDGET and LATCH alone. -/
theorem State.toCharger_agrees (s : State) (c : ChargerState) : s.pch.pauses.Agrees (s.toCharger c).pch.pauses := by
  have entered := s.enterCharger_agrees c
  rcases s.toCharger_cases c with ⟨_, _, _, e⟩ | ⟨_, e⟩ <;> rw [e]
  · exact entered.trans (State.rebudgetBy_agrees _ State.enterCharger_agrees _ _)
  · exact entered

theorem State.setPauses_agrees (s : State) (q : Pauses) : q.Agrees (s.setPauses q).pch.pauses :=
  State.setPausesBy_agrees _ State.toCharger_agrees s q

/-! ### Without a swap -/

theorem State.penNotice_pch (s : State) : s.penNotice.pch = s.pch := rfl

theorem State.penNotice_tables (s : State) : s.penNotice.tables = s.tables := rfl

section
variable {s : State} (calm : s.Calm)
include calm

/-- A state with the tables of a calm one, whose driver runs at most if that one's does, is calm. -/
theorem State.Calm.of_eq {t : State} (running : t.pch.driver.running = s.pch.driver.running) (tables : t.tables = s.tables) : t.Calm := by
  unfold State.Calm
  rw [running, tables]
  exact calm

theorem State.setPausesBy_calm_spm (q : Pauses) : (s.setPauses q).spm = s.spm := by
  have toCharger (t : State) (c : ChargerState) (running : t.pch.driver.running = s.pch.driver.running) (tables : t.tables = s.tables) :
      (t.toCharger c).spm = t.spm := by
    rw [State.toCharger_calm (calm.of_eq running tables)]
    simp
  rcases s.setPausesBy_cases State.toCharger q with ⟨_, e⟩ | ⟨_, _, _, e⟩ | ⟨_, _, _, e⟩ | ⟨_, _, _, e⟩ <;>
    rw [State.setPauses, e]
  · exact toCharger { s with pch := { s.pch.cleared with pauses := q } } .paused rfl rfl
  · exact toCharger { s with pch := { s.pch with pauses := q, attempts := 0 } } .wait rfl rfl
  · rfl

/-- R147, R165: the claim and what it is judged to be. -/
theorem State.rebudget_calm (p : Spm) :
    let claim := min p.stageLimit (min p.supply p.cap - p.latchClaim)
    let t := s.rebudget p
    t.spm.stageLimit = p.stageLimit ∧ t.pch.pauses =
      if claim = s.spm.penClaim ∧ (0 < p.latchClaim ↔ 0 < s.spm.latchClaim) then s.pch.pauses
      else { s.pch.pauses with
        budget := decide (claim < 10 ∧ p.latchClaim = 0), latch := decide (claim < 10 ∧ 0 < p.latchClaim) } := by
  intro claim t
  rcases s.rebudgetBy_cases State.toCharger p with ⟨same, holds, e⟩ | ⟨moves, e⟩
  · have stays : t = { s with spm := { p with penClaim := p.claim } } := e
    rw [if_pos ⟨same, holds⟩, stays]
    exact ⟨rfl, rfl⟩
  · let u : State := { s with spm := { p with penClaim := p.claim } }
    let q := s.pch.pauses.forClaim p.claim (decide (0 < p.latchClaim))
    have sets : t = u.setPauses q := e
    have calm' : u.Calm := calm
    have judged : q = { s.pch.pauses with
        budget := decide (claim < 10 ∧ p.latchClaim = 0), latch := decide (claim < 10 ∧ 0 < p.latchClaim) } := by
      have claims : p.claim = claim := rfl
      unfold q Pauses.forClaim
      rw [claims]
      by_cases holds : 0 < p.latchClaim
      · simp [holds, Nat.pos_iff_ne_zero.mp holds]
      · simp [Nat.eq_zero_of_not_pos holds]
    have changed : ¬(claim = s.spm.penClaim ∧ (0 < p.latchClaim ↔ 0 < s.spm.latchClaim)) := moves
    rw [if_neg changed, sets]
    have spm : (u.setPauses q).spm = u.spm := State.setPausesBy_calm_spm calm' q
    have limit : (u.setPauses q).spm.stageLimit = p.stageLimit := by rw [spm]
    exact ⟨limit, (State.setPauses_pauses calm' q).trans judged⟩

/-- R147: the last reason cleared takes a paused charger to WAIT. -/
theorem State.setPauses_resumes (paused : s.pch.state = .paused) {q : Pauses} (other : q ≠ s.pch.pauses) (none : q.none = true) :
    let t := s.setPauses q
    t.pch.state = .wait ∧ t.pch.waitTimer = some ⟨0, s.chg.waitInterval⟩ ∧ t.pch.attempts = 0 ∧ s.OnlyIn [.pch, .upq] t := by
  have idle : s.pch.state.drives = false := by simp [paused, ChargerState.drives]
  let u : State := { s with pch := { s.pch with pauses := q, attempts := 0 } }
  have entered : u.toCharger .wait = { u with pch := ({ u.pch with state := .wait } : Pch).settle } := by
    rw [State.toCharger_calm (s := u) calm]
    rcases u.enterCharger_cases .wait with ⟨drove, _⟩ | ⟨_, e⟩
    · simp [u, idle] at drove
    · exact e
  have resumed : s.setPauses q = (({ s with
      pch := { ({ u.pch with state := .wait } : Pch).settle with waitTimer := some (.start s.chg.waitInterval) } } : State).penNotice) := by
    rcases s.setPausesBy_cases State.toCharger q with ⟨same, _⟩ | ⟨_, _, busy, _⟩ | ⟨_, _, _, e⟩ | ⟨_, _, stays, _⟩
    · exact absurd same other
    · simp [paused, ChargerState.drives] at busy
    · rw [State.setPauses, e]
      change (u.toWaitBy State.toCharger) = _
      rw [State.toWaitBy, entered]
      rfl
    · exact absurd ⟨paused, none⟩ stays
  rw [resumed]
  refine ⟨?_, rfl, ?_, ?_⟩
  · rw [State.penNotice_pch, Pch.settle_eq]
  · rw [State.penNotice_pch, Pch.settle_eq]
  · intro p outside
    cases p <;> first | rfl | exact absurd (by decide) outside

end

/-! ### A reason raised -/

/-- R148, R135: a reason raised in WAIT, IDENT or CHARGE pauses the charger, by way of the swap that the stop brings. -/
theorem State.setPauses_raised {s : State} {q : Pauses} (raises : s.pch.pauses.raises q = true)
    (busy : s.pch.state = .wait ∨ s.pch.state.drives = true) :
    let t := s.setPauses q
    t.pch.burstTimer = none ∧ t.pch.stageTimer = none ∧ t.pch.packetTimer = none ∧ t.pch.waiting = none ∧
    t.pch.pen = s.pch.pen ∧ t.pch.driver.running = false ∧ s.Stopped t ∧
    (t.pch.pauses.none = false → t.pch.state = .paused ∧ t.pch.waitTimer = none ∧ t.pch.attempts = s.pch.attempts) ∧
    (t.pch.pauses.none = true →
      t.pch.state = .wait ∧ t.pch.waitTimer = some ⟨0, t.chg.waitInterval⟩ ∧ t.pch.attempts = 0) := by
  have other : q ≠ s.pch.pauses := by
    rintro rfl
    simp [Pauses.raises] at raises
  have held : q.none = false := by
    simp only [Pauses.raises, Bool.or_eq_true, Bool.and_eq_true] at raises
    simp only [Pauses.none, Bool.not_eq_false', Bool.or_eq_true]
    tauto
  let u : State := { s with pch := { s.pch.cleared with pauses := q } }
  have goes : s.setPauses q = (u.toCharger .paused).penNotice := by
    rcases s.setPausesBy_cases State.toCharger q with ⟨same, _⟩ | ⟨_, _, _, e⟩ | ⟨_, paused, _⟩ | ⟨_, quiet, _⟩
    · exact absurd same other
    · exact e
    · rcases busy with waits | drives
      · simp [paused] at waits
      · simp [paused, ChargerState.drives] at drives
    · exact absurd ⟨raises, busy⟩ quiet
  obtain ⟨stopped, _, running, p, budget, latch, atMost, state, waiting, made, reconsidered⟩ := u.toCharger_stops (c := .paused) rfl
  have quiet : p.waiting = none := by
    obtain ⟨_, _, w, pch, discarded⟩ := u.enterCharger_pch_eq .paused
    rw [waiting, pch]
    exact discarded.elim id id
  have pauses : p.pauses = q := congrArg Pch.pauses made
  have pen : p.pen = s.pch.pen := by rw [made]; rfl
  have tried : p.attempts = s.pch.attempts := by rw [made]; rfl
  obtain ⟨holds, free⟩ := Pch.reconsidered_paused { u.pch.pauses with budget := budget, latch := latch }
    (u.toCharger .paused).chg.waitInterval state (pauses ▸ held)
  have set := p.reconsidered_pauses { u.pch.pauses with budget := budget, latch := latch } (u.toCharger .paused).chg.waitInterval
  rw [← reconsidered] at holds free set
  rw [← set] at holds free
  intro t
  have record : t.pch = (u.toCharger .paused).pch := by simp only [t, goes, State.penNotice_pch]
  have image : t.chg = (u.toCharger .paused).chg := by simp only [t, goes, State.chg, State.penNotice_tables]
  rw [record, image]
  refine ⟨atMost.burst (congrArg Pch.burstTimer made), atMost.stage (congrArg Pch.stageTimer made),
    atMost.packet (congrArg Pch.packetTimer made), atMost.waiting quiet, atMost.pen.trans pen, running, ?_,
    fun some => ?_, free⟩
  · have after : s.Stopped (u.toCharger .paused) := stopped
    change s.Stopped (s.setPauses q)
    rw [goes]
    exact after.penNotice
  · obtain ⟨paused, timer, attempts⟩ := holds some
    exact ⟨paused, timer.trans (congrArg Pch.waitTimer made), attempts.trans tried⟩

/-- R147: where no reason is raised that pauses and none is left to resume by, the set alone changes. -/
theorem State.setPauses_stays {s : State} {q : Pauses} (other : q ≠ s.pch.pauses)
    (stays : s.pch.state = .off ∨ s.pch.state = .done ∨ s.pch.state = .fault ∨ (s.pch.state = .paused ∧ q.none = false) ∨
      (s.pch.state ≠ .paused ∧ s.pch.pauses.raises q = false)) :
    s.setPauses q = ({ s with pch.pauses := q } : State).penNotice := by
  rcases s.setPausesBy_cases State.toCharger q with ⟨same, _⟩ | ⟨_, raises, busy, _⟩ | ⟨_, paused, none, _⟩ | ⟨_, _, _, e⟩
  · exact absurd same other
  · rcases stays with state | state | state | ⟨state, _⟩ | ⟨_, quiet⟩
    · simp [state, ChargerState.drives] at busy
    · simp [state, ChargerState.drives] at busy
    · simp [state, ChargerState.drives] at busy
    · simp [state, ChargerState.drives] at busy
    · simp [raises] at quiet
  · rcases stays with state | state | state | ⟨_, held⟩ | ⟨state, _⟩
    · simp [paused] at state
    · simp [paused] at state
    · simp [paused] at state
    · simp [none] at held
    · exact absurd paused state
  · exact e

/-- Settles O33: the claim by what the budget record follows, the reasons by the branches of their change. -/
theorem reasonsPauseAndResumeTheCharger : Obligations.ReasonsPauseAndResumeTheCharger := by
  unfold Obligations.ReasonsPauseAndResumeTheCharger
  intro stopping s
  refine ⟨fun p => ⟨s.rebudget_spm p, fun calm => State.rebudget_calm calm p⟩, rfl, fun _ => rfl, fun g => ⟨rfl, fun r => ⟨?_, ?_, ?_⟩⟩,
    fun q => ?_, fun q raises busy => ?_, fun q calm paused other none => State.setPauses_resumes calm paused other none,
    fun q other stays => State.setPauses_stays other stays⟩
  · intro external
    simp [supplyTerm, external]
  · intro internal full
    simp [supplyTerm, internal, full]
  · intro internal low
    simp [supplyTerm, internal, Nat.not_le.mpr low]
  · obtain ⟨thermal, supply, sleep⟩ := s.setPauses_agrees q
    exact ⟨thermal, supply, sleep, fun calm => State.setPauses_pauses calm q, fun same => if_pos same⟩
  · have drives : s.pch.state = .wait ∨ s.pch.state.drives = true := by
      rcases busy with state | state | state
      · exact .inl state
      · exact .inr (by rw [state]; rfl)
      · exact .inr (by rw [state]; rfl)
    obtain ⟨burst, stage, packet, waiting, pen, running, stopped, holds, free⟩ := State.setPauses_raised raises drives
    exact ⟨burst, stage, packet, waiting, pen, running, stopped, holds, free,
      State.setPausesBy_onlyIn _ State.toCharger_onlyIn s q⟩

end Sys2Proof.Machine
end

section
/-!
PROOFS. The charger's own timers (R139, R141, R143, R146, R149): the entry to IDENT, a burst that fails, and the statement about the five
expiries (O30).
-/

namespace Sys2Proof.Machine

/-! ### The entry to IDENT -/

/-- R140: what an entry to IDENT with a burst of a kind leaves. -/
structure State.Identifies (s : State) (kind : BurstKind) (t : State) : Prop where
  state : t.pch.state = .ident
  kind : t.pch.burstKind = kind
  mark : t.pch.penIdMark = false
  burst : t.pch.burstTimer = some ⟨0, s.chg.identBurst⟩
  wait : t.pch.waitTimer = none
  recheck : t.pch.recheckTimer = none
  packet : t.pch.packetTimer = none
  waiting : t.pch.waiting = none
  duty : t.pch.driver.dutyB = (s.stage 0).dutyMin
  pen : t.pch.pen = s.pch.pen
  mode : t.bcd.mode = .resonance
  only : s.OnlyIn [.cnv, .pch, .bcd, .upq] t

/-- R129: a start of the driver loads the buffered duty and a stop keeps it. -/
theorem Pch.settle_dutyB (p : Pch) : p.settle.driver.dutyB = p.driver.dutyB := by
  rcases p.settle_cases with ⟨_, _, _, e⟩ | ⟨_, _, _, e⟩ | ⟨_, _, e⟩ | ⟨_, _, e⟩ <;> rw [e] <;> rfl

/-- R11, R163: a change of the capture mode touches the converter, the charger's blanking and the capture unit alone. -/
theorem State.capture_onlyIn (s : State) (m : CaptureMode) : s.OnlyIn [.cnv, .pch, .bcd] (s.capture m) := by
  intro p outside
  rcases s.capture_cases m with ⟨_, e⟩ | ⟨_, e⟩ <;> rw [e]
  · rcases ({ s with bcd := s.bcd.cleared m } : State).dataLeft_cases with ⟨_, e⟩ | ⟨_, e⟩ <;> rw [e] <;>
      cases p <;> first | rfl | exact absurd (by decide) outside
  · cases p <;> first | rfl | exact absurd (by decide) outside

theorem State.toIdent_identifies (s : State) (kind : BurstKind) :
    s.Identifies kind (s.toIdent kind) ∧ (s.toIdent kind).pch.attempts = s.pch.attempts := by
  let p : Pch :=
    { s.pch with
      state := .ident, burstKind := kind, penIdMark := false, burstTimer := some (.start s.chg.identBurst)
      waitTimer := none, recheckTimer := none, packetTimer := none, waiting := none, checkTicks := some 0
      driver := s.pch.driver.writeDuty (s.stage 0).dutyMin }
  let u : State := { s with pch := p.settle }
  have record : (s.toIdent kind).pch = { p.settle with blanking := (u.capture .resonance).pch.blanking } := u.capture_pch .resonance
  have settled : p.settle = { p with driver := p.settle.driver } := p.settle_eq
  have bcd : (s.toIdent kind).bcd = s.bcd.cleared .resonance := u.capture_bcd .resonance
  have only : s.OnlyIn [.cnv, .pch, .bcd, .upq] (s.toIdent kind) := by
    have captured := u.capture_onlyIn .resonance
    intro part outside
    have same := captured part
    cases part <;> first | exact absurd (by decide) outside | exact same (by decide)
  have duty : p.settle.driver.dutyB = (s.stage 0).dutyMin := p.settle_dutyB
  rw [settled] at record
  exact ⟨⟨congrArg Pch.state record, congrArg Pch.burstKind record, congrArg Pch.penIdMark record, congrArg Pch.burstTimer record,
    congrArg Pch.waitTimer record, congrArg Pch.recheckTimer record, congrArg Pch.packetTimer record, congrArg Pch.waiting record,
    (congrArg (fun q : Pch => q.driver.dutyB) record).trans duty, by rw [record], congrArg Bcd.mode bcd, only⟩,
    by rw [record]⟩

/-! ### Changes of a charger that does not drive -/

section
variable {s : State} (idle : s.pch.state.drives = false) (stopped : s.pch.driver.running = false)
include idle stopped

/-- A driver that stands still brings no swap. -/
theorem State.toCharger_idle {c : ChargerState} (rests : c.drives = false) : s.toCharger c = { s with pch.state := c } :=
  (State.toCharger_calm (.inl stopped) c).trans (State.enterCharger_idle idle stopped rests)

theorem State.toFault_idle (r : FaultReason) (code : Option Byte) : s.toFault r code = ({ s with
    pch := { s.pch.stopTimers with state := .fault, faultReason := some r, faultCode := code } } : State).penNotice := by
  rw [State.toFault, State.toCharger_idle idle stopped rfl]
  rfl

theorem State.toWait_idle : s.toWait = ({ s with
    pch := { s.pch with state := .wait, waitTimer := some (.start s.chg.waitInterval) } } : State).penNotice := by
  rw [State.toWait, State.toWaitBy, State.toCharger_idle idle stopped rfl]
  rfl

theorem State.toPaused_idle : s.toPaused = { s with pch := { s.pch.cleared with state := .paused } } :=
  State.toCharger_idle (s := { s with pch := s.pch.cleared }) idle stopped rfl

end

/-- What a stop brings stands while the tables, the budget record, the driver and the replies stand. -/
theorem State.Stopped.mono {s t u : State} (h : s.Stopped t) (tables : u.tables = t.tables) (spm : u.spm = t.spm)
    (driver : u.pch.driver = t.pch.driver) (replies : t.KeepsReplies u) : s.Stopped u := by
  have chg : u.chg = t.chg := by rw [State.chg, tables, State.chg]
  unfold State.Stopped at h ⊢
  split at h
  · obtain ⟨swapped, reply, period, dead, only, claim⟩ := h
    rw [if_pos (by assumption), tables, spm, driver, chg]
    exact ⟨swapped, replies _ reply, period, dead, only, claim⟩
  · rw [if_neg (by assumption), tables, spm]
    exact h

/-! ### A burst that fails -/

/-- R141: the burst ends before it is judged. -/
def State.burstEnded (s : State) : State :=
  ({ s with pch.burstTimer := none, pch.checkTicks := none, pch.burstKind := .full } : State).toCharger .wait

theorem State.burstEnded_spec {s : State} (drove : s.pch.state.drives = true) :
    let t := s.burstEnded
    t.pch.attempts = s.pch.attempts ∧ t.pch.burstTimer = none ∧ t.pch.burstKind = .full ∧ t.bcd.mode = .off ∧
    t.pch.driver.running = false ∧ t.pch.state.drives = false ∧ t.pch.pen = s.pch.pen ∧ s.Stopped t ∧ s.OnlyIn chargerParts t := by
  let u : State := { s with pch.burstTimer := none, pch.checkTicks := none, pch.burstKind := .full }
  obtain ⟨stopped, bcd, running, p, budget, latch, atMost, state, _, made, reconsidered⟩ := u.toCharger_stops (c := .wait) rfl
  have mode : (u.toCharger .wait).bcd.mode = .off := bcd ▸ State.enterCharger_mode (s := u) drove rfl
  have only : s.OnlyIn chargerParts (u.toCharger .wait) := by
    intro part outside
    have same := u.toCharger_onlyIn .wait part outside
    cases part <;> first | exact absurd (by decide) outside | exact same
  have tried : p.attempts = s.pch.attempts := by rw [made]
  have ended : p.burstTimer = none := by rw [made]
  have kind : p.burstKind = .full := by rw [made]
  have pen : p.pen = s.pch.pen := by rw [made]
  have judged : (u.toCharger .wait).pch.attempts = p.attempts ∧ (u.toCharger .wait).pch.state.drives = false := by
    rw [reconsidered]
    rcases p.reconsidered_cases _ _ with ⟨_, e⟩ | ⟨_, _, _, e⟩ | ⟨_, paused, _⟩ | ⟨_, _, _, e⟩
    · rw [e, state]
      exact ⟨rfl, rfl⟩
    · rw [e]
      exact ⟨rfl, rfl⟩
    · simp [state] at paused
    · rw [e]
      exact ⟨rfl, congrArg ChargerState.drives state⟩
  exact ⟨judged.1.trans tried, atMost.burst ended, atMost.burstKind.trans kind, mode, running, judged.2, atMost.pen.trans pen, stopped, only⟩

/-- R141: the attempt counted, up to 7. -/
def State.attempted (s : State) : State :=
  { s.burstEnded with pch.attempts := min (s.burstEnded.pch.attempts + 1) 7 }

theorem State.burstFailed_eq (s : State) : s.burstFailed =
    if s.attempted.chg.identAttempts ≤ s.attempted.pch.attempts then s.attempted.toFault .noPen
    else if s.attempted.pch.pauses.none then s.attempted.toWait else s.attempted.toPaused := rfl

/-- R139, R141, R148, R150: a failed burst ends in FAULT, in WAIT or in PAUSED; each is reached without a further stop of the driver. -/
theorem State.burstFailed_goes {s : State} (drove : s.pch.state.drives = true) :
    let u := s.attempted
    ∃ p upq, s.burstFailed = { u with pch := p, upq := upq } ∧ u.KeepsReplies { u with pch := p, upq := upq } ∧
      p.attempts = u.pch.attempts ∧ p.burstTimer = none ∧ p.burstKind = u.pch.burstKind ∧ p.driver = u.pch.driver ∧
      p.pen = u.pch.pen ∧ p.pauses = u.pch.pauses ∧
      (u.chg.identAttempts ≤ u.pch.attempts → p.state = .fault ∧ p.faultReason = some .noPen) ∧
      (u.pch.attempts < u.chg.identAttempts → u.pch.pauses.none = true →
        p.state = .wait ∧ p.waitTimer = some ⟨0, u.chg.waitInterval⟩) ∧
      (u.pch.attempts < u.chg.identAttempts → u.pch.pauses.none = false → p.state = .paused) := by
  intro u
  obtain ⟨_, ended, _, _, running, idle, _⟩ := State.burstEnded_spec drove
  rw [s.burstFailed_eq]
  split
  · rename_i spent
    rw [State.toFault_idle (s := s.attempted) idle running]
    exact ⟨_, _, rfl, State.notice_keepsReplies _ _, rfl, rfl, rfl, rfl, rfl, rfl, fun _ => ⟨rfl, rfl⟩,
      fun some => absurd spent (Nat.not_le.mpr some), fun some => absurd spent (Nat.not_le.mpr some)⟩
  · rename_i some
    split
    · rename_i free
      rw [State.toWait_idle (s := s.attempted) idle running]
      exact ⟨_, _, rfl, State.notice_keepsReplies _ _, rfl, ended, rfl, rfl, rfl, rfl, fun spent => absurd spent some,
        fun _ _ => ⟨rfl, rfl⟩, fun _ held => by simp [u, held] at free⟩
    · rename_i held
      rw [State.toPaused_idle (s := s.attempted) idle running]
      exact ⟨_, _, rfl, .of_eq rfl, rfl, rfl, rfl, rfl, rfl, rfl, fun spent => absurd spent some,
        fun _ free => absurd free held, fun _ _ => rfl⟩

theorem State.burstFailed_spec {s : State} (drove : s.pch.state.drives = true) :
    let n := min (s.pch.attempts + 1) 7
    let t := s.burstFailed
    t.pch.attempts = n ∧ t.pch.burstTimer = none ∧ t.pch.burstKind = .full ∧ t.bcd.mode = .off ∧ t.pch.driver.running = false ∧
    t.pch.pen = s.pch.pen ∧ s.Stopped t ∧ s.OnlyIn chargerParts t ∧
    (t.chg.identAttempts ≤ n → t.pch.state = .fault ∧ t.pch.faultReason = some .noPen) ∧
    (n < t.chg.identAttempts → t.pch.pauses.none = true → t.pch.state = .wait ∧ t.pch.waitTimer = some ⟨0, t.chg.waitInterval⟩) ∧
    (n < t.chg.identAttempts → t.pch.pauses.none = false → t.pch.state = .paused) := by
  obtain ⟨tried, _, kind, mode, running, _, pen, stopped, only⟩ := State.burstEnded_spec drove
  obtain ⟨p, upq, goes, replies, attempts, ended, kind', driver, pen', pauses, fault, wait, paused⟩ := State.burstFailed_goes drove
  have n : s.attempted.pch.attempts = min (s.pch.attempts + 1) 7 := congrArg (fun a => min (a + 1) 7) tried
  rw [n] at fault wait paused attempts
  intro m t
  have after : s.Stopped t := by
    rw [show t = _ from goes]
    exact stopped.mono rfl rfl driver replies
  have frame : s.OnlyIn chargerParts t := by
    intro part outside
    have same := only part outside
    rw [show t = _ from goes]
    cases part <;> first | exact absurd (by decide) outside | exact same
  have record : t.pch = p := congrArg State.pch goes
  have image : t.chg = s.attempted.chg := by rw [show t = _ from goes]; rfl
  have capture : t.bcd = s.burstEnded.bcd := by rw [show t = _ from goes]; rfl
  rw [record, image, capture, pauses]
  exact ⟨attempts, ended, kind'.trans kind, mode, (congrArg Driver.running driver).trans running, pen'.trans pen, after, frame,
    fault, wait, paused⟩

/-! ### The statement -/

/-- R143, R150: the stage's time has run out. -/
theorem State.toFault_timers (s : State) (r : FaultReason) (code : Option Byte) :
    (s.toFault r code).pch.stageTimer = none ∧ (s.toFault r code).pch.packetTimer = none ∧ (s.toFault r code).pch.waiting = none :=
  ⟨rfl, rfl, rfl⟩

theorem State.packetTimedOut_few {s : State} (few : s.pch.timeouts + 1 < 3) : s.packetTimedOut = { s with
    pch.timeouts := s.pch.timeouts + 1, pch.packetTimer := some ⟨0, s.chg.packetTimeout⟩ } := by
  have counts : min (s.pch.timeouts + 1) Config.packetTimeouts = s.pch.timeouts + 1 := min_eq_left few.le
  unfold State.packetTimedOut
  dsimp only
  rw [counts]
  exact if_neg (Nat.ne_of_lt few)

/-- R146: the third timeout in a row begins a new identification. -/
theorem State.packetTimedOut_identifies {s : State} (third : 3 ≤ s.pch.timeouts + 1) :
    s.Identifies .full s.packetTimedOut ∧ s.packetTimedOut.pch.attempts = 0 := by
  have counts : min (s.pch.timeouts + 1) Config.packetTimeouts = 3 := min_eq_right third
  let u : State := { s with pch.timeouts := 3, pch.packetTimer := some (.start s.chg.packetTimeout), pch.attempts := 0 }
  have goes : s.packetTimedOut = u.toIdent .full := by
    unfold State.packetTimedOut
    dsimp only
    rw [counts]
    exact if_pos rfl
  obtain ⟨⟨state, kind, mark, burst, wait, recheck, packet, waiting, duty, pen, mode, only⟩, attempts⟩ := u.toIdent_identifies .full
  rw [goes]
  refine ⟨⟨state, kind, mark, burst, wait, recheck, packet, waiting, duty, pen, mode, ?_⟩, attempts⟩
  intro part outside
  have same := only part outside
  cases part <;> first | exact absurd (by decide) outside | exact same

/-- Settles O30: each expiry by the entry, the fault or the failed burst it leads to. -/
theorem chargerTimersMoveTheCharger : Obligations.ChargerTimersMoveTheCharger := by
  unfold Obligations.ChargerTimersMoveTheCharger
  intro stopping inIdent s
  have ident {kind : BurstKind} {t : State} (h : s.Identifies kind t) : inIdent s kind t :=
    ⟨h.state, h.kind, h.mark, h.burst, h.wait, h.recheck, h.packet, h.waiting, h.duty, h.pen, h.mode, h.only⟩
  refine ⟨fun wait done => ?_, fun burst done => ?_, fun charge done => ?_, fun charge done => ⟨fun few => ?_, fun third => ?_⟩,
    fun rests done => ⟨fun free => ?_, fun held => ?_⟩⟩
  · obtain ⟨identifies, attempts⟩ := s.toIdent_identifies .full
    exact ⟨_, congrArg Host.Outcome.next (if_pos ⟨wait, done⟩), ident identifies, attempts⟩
  · exact ⟨_, congrArg Host.Outcome.next (if_pos ⟨burst, done⟩), State.burstFailed_spec (by rw [burst]; rfl)⟩
  · obtain ⟨state, reason, mode, running, stopped⟩ := State.toFault_drove (s := s) (by rw [charge]; rfl) .stageTime none
    obtain ⟨stage, packet, waiting⟩ := s.toFault_timers .stageTime none
    exact ⟨_, congrArg Host.Outcome.next (if_pos ⟨charge, done⟩), state, reason, stage, packet, waiting, running, mode, stopped,
      s.toFault_onlyIn _ _⟩
  · exact congrArg Host.Outcome.next ((if_pos ⟨charge, done⟩).trans (State.packetTimedOut_few few))
  · obtain ⟨identifies, attempts⟩ := State.packetTimedOut_identifies third
    exact ⟨_, congrArg Host.Outcome.next (if_pos ⟨charge, done⟩), ident identifies, attempts⟩
  · exact ⟨_, congrArg Host.Outcome.next ((if_pos ⟨rests, done⟩).trans (if_pos free)), ident (s.toIdent_identifies .recheck).1⟩
  · exact congrArg Host.Outcome.next ((if_pos ⟨rests, done⟩).trans (if_neg (by simp [held])))

end Sys2Proof.Machine
end

section
/-!
PROOFS. The resonance measurement (R140, R154): its rising edges, the judgement of the interval, and the statement about them (O31).
-/

namespace Sys2Proof.Machine

section
variable {s : State} {stamp : Stamp}

/-- R154: a rising edge that the capture unit takes. -/
theorem exec_resonanceRisingEdge (mode : s.bcd.mode = .resonance) (clear : s.pch.blanking ≠ .inForce) (few : s.bcd.edges < 16) :
    exec (.resonanceRisingEdge stamp) s = .next (({ s with bcd.driveCount := stamp } : State).risingEdge stamp) := by
  have takes : ({ s with bcd.driveCount := stamp } : State).takesRising = true := by
    simp [State.takesRising, mode, clear, few]
  exact congrArg Host.Outcome.next (if_pos takes)

/-- R140, R154: the rising edge that ends the interval. -/
theorem exec_resonanceInterval (mode : s.bcd.mode = .resonance) (clear : s.pch.blanking ≠ .inForce) (last : s.bcd.edges = 15)
    {start : Stamp} (started : s.bcd.startStamp = some start) :
    exec (.resonanceInterval stamp) s = .next (({ s with bcd.driveCount := stamp } : State).risingEdge stamp) := by
  have takes : (s.takesRising && s.bcd.startStamp.isSome && decide (s.bcd.edges = 15)) = true := by
    simp [State.takesRising, mode, clear, last, started]
  exact congrArg Host.Outcome.next (if_pos takes)

theorem State.risingEdge_first (fresh : s.bcd.startStamp = none) :
    s.risingEdge stamp = { s with bcd.startStamp := some stamp, bcd.edges := 0 } := by
  simp only [State.risingEdge, fresh]

theorem State.risingEdge_next {start : Stamp} (started : s.bcd.startStamp = some start) (few : s.bcd.edges + 1 < 16) :
    s.risingEdge stamp = { s with bcd.edges := s.bcd.edges + 1 } := by
  simp only [State.risingEdge, started, if_neg (Nat.ne_of_lt few)]

theorem State.risingEdge_last {start : Stamp} (started : s.bcd.startStamp = some start) (last : s.bcd.edges = 15) :
    s.risingEdge stamp = ({ s with bcd.edges := 16 } : State).judgeInterval ((stamp.toNat + 65536 - start.toNat) % 65536) := by
  have interval : (stamp - start).toNat = (stamp.toNat + 65536 - start.toNat) % 65536 := by
    rw [BitVec.toNat_sub]
    congr 1
    have := start.isLt
    omega
  simp only [State.risingEdge, started, last, interval, if_true]

/-- R140, R153: an interval within the window takes the capture unit to EDGE. -/
theorem State.judgeInterval_passes {ticks : Nat} (low : s.chg.resonanceLo ≤ ticks) (high : ticks ≤ s.chg.resonanceHi) :
    let t := s.judgeInterval ticks
    t.bcd = s.bcd.cleared .edge ∧ t.pch = { s.pch with checkTicks := none, blanking := t.pch.blanking } ∧
    s.OnlyIn [.cnv, .pch, .bcd] t := by
  let u : State := { s with pch.checkTicks := none }
  have passes : s.judgeInterval ticks = u.capture .edge := if_pos ⟨low, high⟩
  rw [passes]
  refine ⟨u.capture_bcd .edge, u.capture_pch .edge, ?_⟩
  intro p outside
  have same := u.capture_onlyIn .edge p outside
  cases p <;> first | exact absurd (by decide) outside | exact same

theorem State.judgeInterval_fails {ticks : Nat} (out : ticks < s.chg.resonanceLo ∨ s.chg.resonanceHi < ticks) :
    s.judgeInterval ticks = s.toFault .foreignObject := if_neg (by omega)

end

/-- Settles O31: the measurement edge by edge, and the fault by what an entry to FAULT brings. -/
theorem resonanceDecidesTheBurst : Obligations.ResonanceDecidesTheBurst := by
  unfold Obligations.ResonanceDecidesTheBurst
  intro foreign s
  have fault (u : State) (drove : u.pch.state.drives = true) :
      u.Stopped (u.toFault .foreignObject) ∧ ((u.toFault .foreignObject).pch.state = .fault ∧
        (u.toFault .foreignObject).pch.faultReason = some .foreignObject ∧
        (u.toFault .foreignObject).pch.driver.running = false ∧ (u.toFault .foreignObject).bcd.mode = .off) := by
    obtain ⟨state, reason, mode, running, stopped⟩ := State.toFault_drove drove .foreignObject none
    exact ⟨stopped, state, reason, running, mode⟩
  refine ⟨fun stamp mode clear few => ⟨fun fresh => ?_, fun start started few => ?_, fun start started last => ?_⟩,
    fun n ident mode ticks late => ?_⟩
  · exact (exec_resonanceRisingEdge mode clear few).trans (congrArg _ (State.risingEdge_first fresh))
  · exact (exec_resonanceRisingEdge mode clear (by omega)).trans (congrArg _ (State.risingEdge_next started few))
  · let u : State := { s with bcd.driveCount := stamp, bcd.edges := 16 }
    have goes := exec_resonanceInterval (stamp := stamp) mode clear last started
    have judges : ({ s with bcd.driveCount := stamp } : State).risingEdge stamp =
        u.judgeInterval ((stamp.toNat + 65536 - start.toNat) % 65536) := State.risingEdge_last started last
    refine ⟨goes.trans (exec_resonanceRisingEdge mode clear few).symm, fun low high => ?_, fun out drove => ?_⟩
    · obtain ⟨bcd, pch, only⟩ := State.judgeInterval_passes (s := u) low high
      refine ⟨_, goes.trans (congrArg _ judges), congrArg Bcd.mode bcd, congrArg Bcd.startStamp bcd, pch, ?_⟩
      intro p outside
      have same := only p outside
      cases p <;> first | exact absurd (by decide) outside | exact same
    · obtain ⟨stopped, state, reason, running, off⟩ := fault u drove
      refine ⟨_, goes.trans (congrArg _ (judges.trans (State.judgeInterval_fails (s := u) out))), state, reason, running, off, stopped, ?_⟩
      intro p outside
      have same := u.toFault_onlyIn .foreignObject none p outside
      cases p <;> first | exact absurd (by decide) outside | exact same
  · obtain ⟨stopped, state, reason, running, off⟩ := fault s (by rw [ident]; rfl)
    have expires : exec .resonanceTimeout s = .next (s.toFault .foreignObject) := by
      have falls : s.pch.state = .ident ∧ s.bcd.mode = .resonance ∧ Config.resonanceTicks ≤ n := ⟨ident, mode, late⟩
      simp only [exec, execResonanceTimeout, ticks, if_pos falls]
    exact ⟨_, expires, state, reason, running, off, stopped, s.toFault_onlyIn _ _⟩

end Sys2Proof.Machine
end

section
/-!
PROOFS. A valid packet that is delivered (R141, R143, R144, R146, R149, R150, R161): the stage a battery level chooses, the entry to
DONE, what each kind of packet does, and the statement about them (O35).
-/

namespace Sys2Proof.Machine

/-! ### The chosen stage -/

theorem filter_range_getLastD (q : Nat → Bool) (n : Nat) : ((List.range (n + 1)).filter q).getLastD 0 =
    if q n then n else ((List.range n).filter q).getLastD 0 := by
  rw [List.range_succ, List.filter_append]
  by_cases top : q n
  · simp [top]
  · simp [top]

/-- The last number below a bound that meets a condition, and 0 where none does. -/
theorem filter_range_last (q : Nat → Bool) (n : Nat) :
    (∀ i, i < n → q i = true → (∀ j, j < n → q j = true → j ≤ i) → ((List.range n).filter q).getLastD 0 = i) ∧
    ((∀ i, i < n → q i = false) → ((List.range n).filter q).getLastD 0 = 0) := by
  induction n with
  | zero => exact ⟨fun i below => by omega, fun _ => rfl⟩
  | succ n ih =>
    obtain ⟨last, none⟩ := ih
    rw [filter_range_getLastD]
    constructor
    · intro i below meets top
      by_cases highest : q n = true
      · rw [if_pos highest]
        have := top n (Nat.lt_succ_self n) highest
        omega
      · rw [if_neg highest]
        have other : i ≠ n := by
          rintro rfl
          exact highest meets
        exact last i (by omega) meets fun j under holds => top j (by omega) holds
    · intro fails
      rw [if_neg (by simp [fails n (Nat.lt_succ_self n)])]
      exact none fun i below => fails i (by omega)

theorem chosenStage_last {img : Image} {level i : Nat} (within : i < (chargeGlobals img).stageCount)
    (reached : (stageRow img i).levelLo ≤ level)
    (last : ∀ j, j < (chargeGlobals img).stageCount ∧ (stageRow img j).levelLo ≤ level → j ≤ i) : chosenStage img level = i :=
  (filter_range_last (fun i => decide ((stageRow img i).levelLo ≤ level)) _).1 i within (decide_eq_true reached)
    fun j below reaches => last j ⟨below, of_decide_eq_true reaches⟩

theorem chosenStage_none {img : Image} {level : Nat}
    (none : ∀ i, ¬(i < (chargeGlobals img).stageCount ∧ (stageRow img i).levelLo ≤ level)) : chosenStage img level = 0 :=
  (filter_range_last (fun i => decide ((stageRow img i).levelLo ≤ level)) _).2
    fun i below => decide_eq_false fun reaches => none i ⟨below, reaches⟩

/-! ### A charger that comes to rest -/

theorem Pch.reconsidered_rests {p : Pch} (rests : p.state.Rests) (q : Pauses) (interval : Nat) :
    p.reconsidered q interval = { p with pauses := q } := by
  rcases p.reconsidered_cases q interval with ⟨rfl, e⟩ | ⟨_, waits, _⟩ | ⟨_, paused, _⟩ | ⟨_, _, _, e⟩
  · exact e
  · rcases rests with r | r | r <;> simp [r] at waits
  · rcases rests with r | r | r <;> simp [r] at paused
  · exact e

/-- R128, R135, R153: of the charger's record an entry to rest touches these. -/
theorem State.toCharger_rests_pch (s : State) {c : ChargerState} (rests : c.Rests) :
    let t := s.toCharger c
    t.pch = { s.pch with
      state := c, stepped := t.pch.stepped, driver := t.pch.driver, blanking := t.pch.blanking, waiting := t.pch.waiting
      pauses := t.pch.pauses } := by
  intro t
  obtain ⟨_, _, _, p, budget, latch, _, state, _, made, reconsidered⟩ := s.toCharger_stops rests.drives_eq
  have record : t.pch = { p with pauses := { s.pch.pauses with budget := budget, latch := latch } } :=
    reconsidered.trans (Pch.reconsidered_rests (state.symm ▸ rests) _ _)
  rw [record, made]

/-- What a stop brings is read off the tables, the budget record and whether the driver ran. -/
theorem State.Stopped.left {s t u : State} (h : u.Stopped t) (tables : u.tables = s.tables) (spm : u.spm = s.spm)
    (running : u.pch.driver.running = s.pch.driver.running) : s.Stopped t := by
  have swapped : u.chargeSwapped = s.chargeSwapped := by rw [State.chargeSwapped, tables, State.chargeSwapped]
  unfold State.Stopped at h ⊢
  rw [tables, running, spm, swapped] at h
  exact h

/-- R149: a charge that is done. -/
structure State.Finishes (s t : State) : Prop where
  state : t.pch.state = .done
  attempts : t.pch.attempts = 0
  recheck : t.pch.recheckTimer = some ⟨0, t.chg.recheckInterval * 1000⟩
  waiting : t.pch.waiting = none
  running : t.pch.driver.running = false
  stopped : s.Stopped t

theorem State.toDone_finishes (s : State) : s.Finishes s.toDone := by
  obtain ⟨state, running, _, stopped⟩ := s.toCharger_rests (c := .done) (.inr (.inl rfl))
  exact ⟨state, rfl, rfl, rfl, running, stopped.mono rfl rfl rfl ((State.notice_keepsReplies _ _).trans (.of_eq rfl))⟩

theorem State.Finishes.left {s t u : State} (h : u.Finishes t) (tables : u.tables = s.tables) (spm : u.spm = s.spm)
    (running : u.pch.driver.running = s.pch.driver.running) : s.Finishes t :=
  { h with stopped := h.stopped.left tables spm running }

/-! ### A packet that is recorded -/

/-- R146, R161: the packet recorded, the pen's age 0, and in CHARGE the packet timer started again and its count cleared. -/
def State.recorded (s : State) (p : PenRecord) (kind value : Byte) : State :=
  { s with
    bcd := { s.bcd with last := some ⟨kind, value, s.ticks⟩ }
    pch := { s.pch with
      pen := some { p with age := some 0 }
      packetTimer := if s.pch.state = .charge then some (.start s.chg.packetTimeout) else s.pch.packetTimer
      timeouts := if s.pch.state = .charge then 0 else s.pch.timeouts } }

/-- R152: a field of the pen record changed, with or without its notice. -/
theorem State.setPen_pch (s : State) (p : PenRecord) : (s.setPen p).pch = { s.pch with pen := some p } := by
  unfold State.setPen
  dsimp only
  split
  · split
    · rfl
    · rfl
  · rfl

section
variable {s : State} {p : PenRecord}

theorem State.packetRecorded_eq (present : s.pch.pen = some p) (kind value : Byte) :
    s.packetRecorded kind value = s.recorded p kind value := by
  unfold State.packetRecorded State.recorded
  rw [present]
  dsimp only
  split <;> rfl

theorem State.recorded_stageInForce (present : s.pch.pen = some p) (kind value : Byte) :
    (s.recorded p kind value).stageInForce = s.stageInForce := by
  have names : (s.recorded p kind value).pch.pen.bind PenRecord.stage = s.pch.pen.bind PenRecord.stage := by
    rw [present]
    rfl
  unfold State.stageInForce
  rw [names]
  rfl

/-- R141, R152: the recorded packet's field in the pen record. -/
theorem State.recorded_setPen (kind value : Byte) (q : PenRecord) :
    let u := (s.recorded p kind value).setPen q
    u.pch = { (s.recorded p kind value).pch with pen := some q } ∧ u.tables = s.tables ∧ u.spm = s.spm :=
  ⟨State.setPen_pch _ _, by simp [State.recorded], by simp [State.recorded]⟩

/-- R144: the stage in force is that of the record, whatever else of it changes. -/
theorem State.stageInForce_congr {u : State} (waiting : u.pch.waiting = s.pch.waiting) (state : u.pch.state = s.pch.state)
    (stage : u.pch.pen.bind PenRecord.stage = s.pch.pen.bind PenRecord.stage) : u.stageInForce = s.stageInForce := by
  unfold State.stageInForce
  rw [waiting, state, stage]

end

section
variable {s : State} {p : PenRecord} {v : Byte} (present : s.pch.pen = some p) (drives : s.pch.state.drives = true)
include present drives

/-- R161: the packet acts on what its record left, by its kind. -/
theorem State.deliver_acts (kind : Byte) :
    let t := s.recorded p kind v
    s.deliver kind v =
      if kind = 1 then
        let u := t.setPen { p with age := some 0, identity := some v }
        if u.pch.state = .ident ∧ u.pch.burstKind = .full then { u with pch.penIdMark := true } else u
      else if kind = 2 then
        let u := t.setPen { p with age := some 0, battery := some (min v.toNat 100) }
        if u.pch.state = .ident then u.batteryInIdent (min v.toNat 100) else u.batteryInCharge (min v.toNat 100)
      else if kind = 3 then if s.pch.state = .charge then t.adjust (signedOf [v]) else t
      else if kind = 4 then t.toDone
      else if kind = 5 then t.toFault .penFault (some v)
      else t := by
  intro t
  have pen : t.pch.pen = some { p with age := some 0 } := rfl
  have drives' : t.pch.state.drives = true := drives
  rw [State.deliver_eq, State.packetRecorded_eq present]
  change t.packetActs kind v = _
  unfold State.packetActs
  rw [pen, drives']
  rfl

theorem State.deliver_identity :
    (s.deliver 1 v).pch.pen = some { p with age := some 0, identity := some v } ∧
    (s.deliver 1 v).pch.penIdMark = if s.pch.state = .ident ∧ s.pch.burstKind = .full then true else s.pch.penIdMark := by
  let u := (s.recorded p 1 v).setPen { p with age := some 0, identity := some v }
  obtain ⟨pch, _⟩ := State.recorded_setPen (s := s) (p := p) 1 v { p with age := some 0, identity := some v }
  have pen : u.pch.pen = some { p with age := some 0, identity := some v } := congrArg Pch.pen pch
  have state : u.pch.state = s.pch.state := by rw [pch]; rfl
  have kind : u.pch.burstKind = s.pch.burstKind := by rw [pch]; rfl
  have mark : u.pch.penIdMark = s.pch.penIdMark := by rw [pch]; rfl
  have goes : s.deliver 1 v = if u.pch.state = .ident ∧ u.pch.burstKind = .full then { u with pch.penIdMark := true } else u :=
    (State.deliver_acts present drives 1).trans (if_pos rfl)
  rw [goes, state, kind]
  split
  · exact ⟨pen, rfl⟩
  · exact ⟨pen, mark⟩

/-! #### A battery level -/

/-- R141, R143: the packet acts by the charger's state, with the level in the pen record. -/
theorem State.deliver_battery :
    let u := (s.recorded p 2 v).setPen { p with age := some 0, battery := some (min v.toNat 100) }
    s.deliver 2 v =
      if s.pch.state = .ident then u.batteryInIdent (min v.toNat 100) else u.batteryInCharge (min v.toNat 100) := by
  intro u
  obtain ⟨pch, _⟩ := State.recorded_setPen (s := s) (p := p) 2 v { p with age := some 0, battery := some (min v.toNat 100) }
  have state : u.pch.state = s.pch.state := by rw [pch]; rfl
  have goes : s.deliver 2 v =
      if u.pch.state = .ident then u.batteryInIdent (min v.toNat 100) else u.batteryInCharge (min v.toNat 100) :=
    (State.deliver_acts present drives 2).trans ((if_neg (by decide)).trans (if_pos rfl))
  rw [goes, state]

end

section
variable {s : State}

theorem State.toDone_pen : s.toDone.pch.pen = s.pch.pen := (s.toCharger_keepsSleep .done).1

theorem State.batteryInIdent_pen (b : Nat) : (s.batteryInIdent b).pch.pen = s.pch.pen := by
  unfold State.batteryInIdent
  split <;> split
  · rfl
  · rfl
  · rfl
  · exact State.toDone_pen

theorem State.batteryInCharge_pen (b : Nat) : (s.batteryInCharge b).pch.pen = s.pch.pen := by
  unfold State.batteryInCharge
  dsimp only
  split
  · rfl
  split
  · rfl
  · exact State.toDone_pen

/-- R141: the level is taken by a FULL burst with the pen's mark, and by a RECHECK burst below the recharge level. -/
theorem State.batteryInIdent_awaits {b : Nat}
    (taken : (s.pch.burstKind = .full ∧ s.pch.penIdMark = true) ∨ (s.pch.burstKind = .recheck ∧ b < s.chg.rechargeLevel)) :
    s.batteryInIdent b = s.awaitCharge b := by
  unfold State.batteryInIdent
  rcases taken with ⟨kind, mark⟩ | ⟨kind, low⟩
  · rw [kind]
    exact if_pos mark
  · rw [kind]
    exact if_pos low

theorem State.batteryInIdent_unmarked {b : Nat} (kind : s.pch.burstKind = .full) (mark : s.pch.penIdMark = false) :
    s.batteryInIdent b = s := by
  unfold State.batteryInIdent
  rw [kind]
  exact if_neg (by simp [mark])

theorem State.batteryInIdent_done {b : Nat} (kind : s.pch.burstKind = .recheck) (high : s.chg.rechargeLevel ≤ b) :
    s.batteryInIdent b = ({ s with pch.burstTimer := none } : State).toDone := by
  unfold State.batteryInIdent
  rw [kind]
  exact if_neg (Nat.not_lt.mpr high)

/-- R143: below the band's top the level does nothing. -/
theorem State.batteryInCharge_low {b : Nat} (low : b < (s.stage s.stageInForce).levelHi) : s.batteryInCharge b = s := if_pos low

theorem State.batteryInCharge_next {b : Nat} (high : (s.stage s.stageInForce).levelHi ≤ b)
    (more : s.stageInForce + 1 < s.chg.stageCount) : s.batteryInCharge b = { s with
      pch.waiting := some ⟨s.stageInForce + 1, false⟩
      pch.driver := s.pch.driver.writeDuty (s.clampDuty (s.stageInForce + 1) s.pch.driver.dutyB) } :=
  (if_neg (Nat.not_lt.mpr high)).trans (if_pos more)

theorem State.batteryInCharge_done {b : Nat} (high : (s.stage s.stageInForce).levelHi ≤ b)
    (last : s.chg.stageCount ≤ s.stageInForce + 1) : s.batteryInCharge b = s.toDone :=
  (if_neg (Nat.not_lt.mpr high)).trans (if_neg (Nat.not_lt.mpr last))

/-! ### The packet timer -/

/-- R146: in CHARGE the packet timer has started again, and its count is cleared. -/
def Pch.Restarted (p : Pch) (timeout : Nat) : Prop := p.timeouts = 0 ∧ (p.state = .charge → p.packetTimer = some ⟨0, timeout⟩)

theorem State.toDone_restarted (clear : s.pch.timeouts = 0) (timeout : Nat) : s.toDone.pch.Restarted timeout := by
  have record := s.toCharger_rests_pch (c := .done) (.inr (.inl rfl))
  have timeouts : s.toDone.pch.timeouts = s.pch.timeouts := by
    change (s.toCharger .done).pch.timeouts = _
    rw [record]
  have state : s.toDone.pch.state = .done := s.toDone_finishes.state
  exact ⟨timeouts.trans clear, fun charge => by simp [state] at charge⟩

theorem State.toFault_restarted (clear : s.pch.timeouts = 0) (r : FaultReason) (code : Option Byte) (timeout : Nat) :
    (s.toFault r code).pch.Restarted timeout := by
  have record := s.toCharger_rests_pch (c := .fault) (.inr (.inr rfl))
  have timeouts : (s.toFault r code).pch.timeouts = s.pch.timeouts := by
    change (s.toCharger .fault).pch.timeouts = _
    rw [record]
  have state : (s.toFault r code).pch.state = .fault := (s.toCharger_rests (c := .fault) (.inr (.inr rfl))).1
  exact ⟨timeouts.trans clear, fun charge => by simp [state] at charge⟩

theorem State.batteryInCharge_restarted {timeout : Nat} (restarted : s.pch.Restarted timeout) (b : Nat) :
    (s.batteryInCharge b).pch.Restarted timeout := by
  unfold State.batteryInCharge
  dsimp only
  split
  · exact restarted
  split
  · exact restarted
  · exact State.toDone_restarted restarted.1 timeout

/-- R146, R161: whatever a valid packet in CHARGE brings, the packet timer starts again and its count is cleared. -/
theorem State.deliver_restarted {p : PenRecord} (present : s.pch.pen = some p) (charge : s.pch.state = .charge) (kind v : Byte) :
    (s.deliver kind v).pch.Restarted s.chg.packetTimeout := by
  let t := s.recorded p kind v
  have restarted : t.pch.Restarted s.chg.packetTimeout :=
    ⟨if_pos charge, fun _ => if_pos charge⟩
  have told (q : PenRecord) : (t.setPen q).pch.Restarted s.chg.packetTimeout := by
    rw [(State.recorded_setPen (s := s) (p := p) kind v q).1]
    exact restarted
  have apart (q : PenRecord) : ¬(t.setPen q).pch.state = .ident := by
    rw [(State.recorded_setPen (s := s) (p := p) kind v q).1]
    change ¬s.pch.state = .ident
    simp [charge]
  rw [State.deliver_acts present (by rw [charge]; rfl)]
  dsimp only
  split
  · split
    · exact told _
    · exact told _
  split
  · rw [if_neg (apart _)]
    exact State.batteryInCharge_restarted (told _) _
  split
  · exact restarted
  split
  · exact State.toDone_restarted restarted.1 _
  split
  · exact State.toFault_restarted restarted.1 _ _ _
  · exact restarted

end

/-! ### The statement -/

section
variable {s : State} {p : PenRecord} {v : Byte} (present : s.pch.pen = some p) (drives : s.pch.state.drives = true)
include present drives

omit drives in
/-- The state in which a battery level acts: the record alone differs from the one before the packet. -/
theorem State.levelTold :
    let u := (s.recorded p 2 v).setPen { p with age := some 0, battery := some (min v.toNat 100) }
    (u.pch.state = s.pch.state ∧ u.pch.burstKind = s.pch.burstKind ∧ u.pch.penIdMark = s.pch.penIdMark ∧
      u.pch.waiting = s.pch.waiting ∧ u.pch.driver = s.pch.driver ∧
      u.pch.pen = some { p with age := some 0, battery := some (min v.toNat 100) }) ∧
    u.tables = s.tables ∧ u.spm = s.spm ∧ u.stageInForce = s.stageInForce := by
  intro u
  obtain ⟨pch, tables, spm⟩ :=
    State.recorded_setPen (s := s) (p := p) 2 v { p with age := some 0, battery := some (min v.toNat 100) }
  have record : u.pch = { (s.recorded p 2 v).pch with pen := some { p with age := some 0, battery := some (min v.toNat 100) } } := pch
  have same : u.pch.state = s.pch.state ∧ u.pch.burstKind = s.pch.burstKind ∧ u.pch.penIdMark = s.pch.penIdMark ∧
      u.pch.waiting = s.pch.waiting ∧ u.pch.driver = s.pch.driver ∧
      u.pch.pen = some { p with age := some 0, battery := some (min v.toNat 100) } := by
    rw [record]
    exact ⟨rfl, rfl, rfl, rfl, rfl, rfl⟩
  have stage : u.pch.pen.bind PenRecord.stage = s.pch.pen.bind PenRecord.stage := by
    rw [record, present]
    rfl
  have waiting : u.pch.waiting = s.pch.waiting := by rw [record]; rfl
  have state : u.pch.state = s.pch.state := by rw [record]; rfl
  exact ⟨same, tables, spm, State.stageInForce_congr waiting state stage⟩

theorem State.deliver_battery_pen :
    (s.deliver 2 v).pch.pen = some { p with age := some 0, battery := some (min v.toNat 100) } := by
  obtain ⟨⟨_, _, _, _, _, pen⟩, _⟩ := State.levelTold (v := v) present
  rw [State.deliver_battery present drives]
  split
  · exact (State.batteryInIdent_pen _).trans pen
  · exact (State.batteryInCharge_pen _).trans pen

theorem State.deliver_level_awaits (ident : s.pch.state = .ident)
    (taken : (s.pch.burstKind = .full ∧ s.pch.penIdMark = true) ∨
      (s.pch.burstKind = .recheck ∧ min v.toNat 100 < s.chg.rechargeLevel)) :
    let stage := chosenStage s.tables.charge.active (min v.toNat 100)
    (s.deliver 2 v).pch.waiting = some ⟨stage, true⟩ ∧ (s.deliver 2 v).pch.burstTimer = none ∧
    (s.deliver 2 v).pch.driver.dutyB = (s.stage stage).dutyMin ∧ (s.deliver 2 v).pch.state = .ident := by
  let u := (s.recorded p 2 v).setPen { p with age := some 0, battery := some (min v.toNat 100) }
  obtain ⟨⟨state, kind, mark, _, _, _⟩, tables, _⟩ := State.levelTold (v := v) present
  obtain ⟨chg, stages, _⟩ := State.chargeReads_of_tables tables
  have goes : s.deliver 2 v = u.awaitCharge (min v.toNat 100) := by
    rw [State.deliver_battery present drives, if_pos ident]
    exact State.batteryInIdent_awaits (by rw [kind, mark, chg]; exact taken)
  have chosen : chosenStage u.tables.charge.active (min v.toNat 100) = chosenStage s.tables.charge.active (min v.toNat 100) := by
    rw [tables]
  have waits : (u.awaitCharge (min v.toNat 100)).pch.waiting =
      some ⟨chosenStage u.tables.charge.active (min v.toNat 100), true⟩ := rfl
  have duty : (u.awaitCharge (min v.toNat 100)).pch.driver.dutyB =
      (u.stage (chosenStage u.tables.charge.active (min v.toNat 100))).dutyMin := rfl
  rw [chosen] at waits duty
  rw [stages] at duty
  rw [goes]
  exact ⟨waits, rfl, duty, state.trans ident⟩

theorem State.deliver_level_next (charge : s.pch.state = .charge) (high : (s.stage s.stageInForce).levelHi ≤ min v.toNat 100)
    (more : s.stageInForce + 1 < s.chg.stageCount) :
    (s.deliver 2 v).pch.waiting = some ⟨s.stageInForce + 1, false⟩ ∧ (s.deliver 2 v).pch.state = .charge ∧
    (s.deliver 2 v).pch.driver.dutyB = s.clampDuty (s.stageInForce + 1) s.pch.driver.dutyB := by
  let u := (s.recorded p 2 v).setPen { p with age := some 0, battery := some (min v.toNat 100) }
  obtain ⟨⟨state, _, _, _, driver, _⟩, tables, _, inForce⟩ := State.levelTold (v := v) present
  obtain ⟨chg, stages, clamp, _⟩ := State.chargeReads_of_tables tables
  have goes : s.deliver 2 v = u.batteryInCharge (min v.toNat 100) :=
    (State.deliver_battery present drives).trans (if_neg (by simp [charge]))
  rw [goes, State.batteryInCharge_next (s := u) (by rw [stages, inForce]; exact high) (by rw [chg, inForce]; exact more), inForce, clamp,
    driver]
  exact ⟨rfl, state.trans charge, rfl⟩

/-- R141, R143: a level that starts and changes nothing. -/
theorem State.deliver_level_idle
    (quiet : (s.pch.state = .ident ∧ s.pch.burstKind = .full ∧ s.pch.penIdMark = false) ∨
      (s.pch.state = .charge ∧ min v.toNat 100 < (s.stage s.stageInForce).levelHi)) :
    (s.deliver 2 v).pch.waiting = s.pch.waiting ∧ (s.deliver 2 v).pch.state = s.pch.state := by
  let u := (s.recorded p 2 v).setPen { p with age := some 0, battery := some (min v.toNat 100) }
  obtain ⟨⟨state, kind, mark, waiting, _, _⟩, tables, _, inForce⟩ := State.levelTold (v := v) present
  obtain ⟨_, stages, _, _⟩ := State.chargeReads_of_tables tables
  have goes : s.deliver 2 v = u := by
    rw [State.deliver_battery present drives]
    rcases quiet with ⟨ident, full, unmarked⟩ | ⟨charge, low⟩
    · rw [if_pos ident]
      exact State.batteryInIdent_unmarked (kind.trans full) (mark.trans unmarked)
    · rw [if_neg (by simp [charge])]
      exact State.batteryInCharge_low (by rw [stages, inForce]; exact low)
  rw [goes]
  exact ⟨waiting, state⟩

/-- R141, R143, R149: a level that ends the charge. -/
theorem State.deliver_level_done
    (ends : (s.pch.state = .ident ∧ s.pch.burstKind = .recheck ∧ s.chg.rechargeLevel ≤ min v.toNat 100) ∨
      (s.pch.state = .charge ∧ (s.stage s.stageInForce).levelHi ≤ min v.toNat 100 ∧ s.chg.stageCount ≤ s.stageInForce + 1)) :
    s.Finishes (s.deliver 2 v) := by
  let u := (s.recorded p 2 v).setPen { p with age := some 0, battery := some (min v.toNat 100) }
  obtain ⟨⟨_, kind, _, _, driver, _⟩, tables, spm, inForce⟩ := State.levelTold (v := v) present
  obtain ⟨chg, stages, _, _⟩ := State.chargeReads_of_tables tables
  rw [State.deliver_battery present drives]
  rcases ends with ⟨ident, recheck, high⟩ | ⟨charge, high, last⟩
  · rw [if_pos ident, State.batteryInIdent_done (kind.trans recheck) (by rw [chg]; exact high)]
    exact (State.toDone_finishes { u with pch.burstTimer := none }).left tables spm (congrArg Driver.running driver)
  · rw [if_neg (by simp [charge]), State.batteryInCharge_done (by rw [stages, inForce]; exact high) (by rw [chg, inForce]; exact last)]
    exact u.toDone_finishes.left tables spm (congrArg Driver.running driver)

theorem State.deliver_adjust : s.deliver 3 v =
    if s.pch.state = .charge then (s.recorded p 3 v).adjust v.toInt else s.recorded p 3 v := by
  rw [State.deliver_acts present drives, if_neg (by decide), if_neg (by decide), if_pos rfl, signedOf_one]

theorem State.deliver_end : s.deliver 4 v = (s.recorded p 4 v).toDone := by
  rw [State.deliver_acts present drives, if_neg (by decide), if_neg (by decide), if_neg (by decide), if_pos rfl]

theorem State.deliver_penFault : s.deliver 5 v = (s.recorded p 5 v).toFault .penFault (some v) := by
  rw [State.deliver_acts present drives, if_neg (by decide), if_neg (by decide), if_neg (by decide), if_neg (by decide), if_pos rfl]

/-- R144: the duty a step value higher or lower, within the clamp. -/
theorem State.deliver_adjust_charge (charge : s.pch.state = .charge) :
    let asked := (s.pch.driver.dutyB : Int) + max (-8) (min 8 v.toInt) * (s.chg.dutyStep : Int)
    (s.deliver 3 v).pch.driver.dutyB = s.clampDuty s.stageInForce asked.toNat := by
  rw [State.deliver_adjust present drives, if_pos charge, ← State.recorded_stageInForce present 3 v]
  rfl

end

/-- Settles O35: the chosen stage by the last of a filtered range; the packets by what each kind does to the recorded state. -/
theorem packetsActByKindAndState : Obligations.PacketsActByKindAndState := by
  unfold Obligations.PacketsActByKindAndState
  refine ⟨fun img level => ⟨fun i reached last => chosenStage_last reached.1 reached.2 last, fun none => chosenStage_none none⟩,
    fun s p v present drives => ?_⟩
  intro level done
  have finished {t : State} (h : s.Finishes t) : done t := ⟨h.state, h.attempts, h.recheck, h.waiting, h.running, h.stopped⟩
  refine ⟨fun kind => ?_, fun charge kind => State.deliver_restarted present charge kind v, State.deliver_identity present drives,
    State.deliver_battery_pen present drives, fun ident taken => State.deliver_level_awaits present drives ident taken,
    fun ident kind mark => ?_, fun ident kind high => finished (State.deliver_level_done present drives (.inl ⟨ident, kind, high⟩)),
    fun charge low => ?_, fun charge high more => State.deliver_level_next present drives charge high more,
    fun charge high last => finished (State.deliver_level_done present drives (.inr ⟨charge, high, last⟩)),
    fun charge => State.deliver_adjust_charge present drives charge, fun _ _ => rfl, fun ident => ?_, ?_, ?_⟩
  · rcases s.deliver_offAtMost kind v with e | e <;> rw [e]
    rfl
  · obtain ⟨waiting, state⟩ := State.deliver_level_idle (v := v) present drives (.inl ⟨ident, kind, mark⟩)
    exact ⟨waiting, state.trans ident⟩
  · obtain ⟨waiting, state⟩ := State.deliver_level_idle (v := v) present drives (.inr ⟨charge, low⟩)
    exact ⟨waiting, state.trans charge⟩
  · rw [State.deliver_adjust present drives, if_neg (by simp [ident])]
    rfl
  · rw [State.deliver_end present drives]
    exact finished ((s.recorded p 4 v).toDone_finishes.left rfl rfl rfl)
  · obtain ⟨state, reason, _, running, stopped⟩ := State.toFault_drove (s := s.recorded p 5 v) drives .penFault (some v)
    rw [State.deliver_penFault present drives]
    exact ⟨state, reason, rfl, running, stopped.left rfl rfl rfl⟩

end Sys2Proof.Machine
end

section
/-!
PROOFS. The pen's coming and going (R137, R138): the wake source and the activity that both hand over (R170, R171, R177), the PEN notice
that stands with the record, and the statement about them (O34).
-/

namespace Sys2Proof.Machine

/-! ### The budget record but for the limit -/

theorem Spm.LimitedAtMost.refl (p : Spm) : p.LimitedAtMost p := rfl

theorem Spm.LimitedAtMost.trans {p q r : Spm} (h : p.LimitedAtMost q) (h' : q.LimitedAtMost r) : p.LimitedAtMost r := by
  unfold Spm.LimitedAtMost at h h' ⊢
  rw [h']
  conv_lhs => rw [h]

theorem Spm.Follows.limited {p q : Spm} (h : p.Follows q) : p.LimitedAtMost q := by
  unfold Spm.Follows at h
  rw [h]
  rfl

section
variable (s : State)

theorem State.handLimit_limited : s.spm.LimitedAtMost s.handLimit.spm := by
  have follows := (s.rebudget_spm { s.spm with stageLimit := s.limitInForce }).limited
  exact Spm.LimitedAtMost.trans (q := { s.spm with stageLimit := s.limitInForce }) rfl follows

theorem State.toCharger_limited (c : ChargerState) : s.spm.LimitedAtMost (s.toCharger c).spm := by
  rcases s.toCharger_spm c with e | follows
  · rw [e]
    exact .refl _
  · exact follows.limited

theorem State.toWait_limited : s.spm.LimitedAtMost s.toWait.spm := s.toCharger_limited .wait

theorem State.toPaused_limited : s.spm.LimitedAtMost s.toPaused.spm := State.toCharger_limited { s with pch := s.pch.cleared } .paused

theorem State.waitFromOff_limited : s.spm.LimitedAtMost s.waitFromOff.spm := by
  unfold State.waitFromOff
  dsimp only
  split
  · exact State.toWait_limited { s with pch.attempts := 0 }
  · exact State.toPaused_limited { s with pch.attempts := 0 }

theorem State.waitFromOff_queues : s.Queues [.pen] s.waitFromOff := by
  unfold State.waitFromOff
  dsimp only
  split
  · exact (State.toWaitBy_queues (by decide) _ (State.toCharger_queues (by decide)) { s with pch.attempts := 0 }).left rfl
  · exact (State.toCharger_queues (by decide) { s with pch := { s.pch.cleared with attempts := 0 } } .paused).left rfl

end

/-! ### What the wake source and the activity hand over -/

/-- R170, R171, R177: what a wake source with an activity brings. -/
structure State.Handed (s : State) (w : WakeSource) (t : State) : Prop where
  activity : t.spm.activityTimer = 0
  cause : t.spm.wakeCause =
    if s.row.wakeMask.getLsbD w.index = true ∧ (s.spm.system = .asleep ∨ s.spm.system = .waking) then s.spm.wakeCause ||| w.bit
    else s.spm.wakeCause
  first : t.spm.firstPower =
    if (s.row.wakeMask.getLsbD w.index = true ∧ (s.spm.system = .asleep ∨ s.spm.system = .waking)) ∧ s.spm.wakeCause = 0 then
      some s.spm.hub.depth
    else s.spm.firstPower
  system : t.spm.system =
    if s.row.wakeMask.getLsbD w.index = true ∧ s.spm.system = .asleep ∧ s.spm.hub ≠ .deep then .waking
    else if s.spm.system = .advised then .awake else s.spm.system
  hub : t.spm.hub =
    if s.row.wakeMask.getLsbD w.index = true ∧ s.spm.system = .asleep ∧ s.spm.hub ≠ .deep then .run else s.spm.hub
  pulse : s.row.wakeMask.getLsbD w.index = true ∧ s.spm.system = .asleep ∧ s.spm.hub ≠ .deep →
    t.spm.wakeLow = true ∧ t.spm.wakeTimer = some ⟨0, s.policy.wakeWidth⟩ ∧ t.spm.requested = none ∧ t.spm.target = none
  wake : (s.row.wakeMask.getLsbD w.index = true ∧ s.spm.system = .asleep ∧ s.spm.hub ≠ .deep) ∨
      (s.row.wakeMask.getLsbD w.index = true ∧ s.spm.system = .waking) →
    t.upq.Holds (.wake t.spm.wakeCause t.spm.firstPower s.posture)
  clock : s.spm.system = .asleep → s.spm.hub = .deep → t.spm.clock.isSome = true
  withdrawn : s.spm.system = .advised → t.upq.Holds (.sleep .withdrawn none s.posture s.row.depth s.row.idleTimeout)

section
variable {s t u : State} {w : WakeSource}

/-- What follows touches the limit of the budget record, a clock start, and queues PEN notices at most. -/
theorem State.Handed.right (h : s.Handed w t) (clock : t.spm.clock.isSome = true → u.spm.clock.isSome = true)
    (spm : ∃ c, ({ t.spm with clock := c } : Spm).LimitedAtMost u.spm) (queues : t.Queues [.pen] u) : s.Handed w u := by
  obtain ⟨activity, cause, first, system, hub, pulse, wake, started, withdrawn⟩ := h
  obtain ⟨c, limited⟩ := spm
  unfold Spm.LimitedAtMost at limited
  have fields : u.spm.activityTimer = t.spm.activityTimer ∧ u.spm.wakeCause = t.spm.wakeCause ∧ u.spm.firstPower = t.spm.firstPower ∧
      u.spm.system = t.spm.system ∧ u.spm.hub = t.spm.hub ∧ u.spm.wakeLow = t.spm.wakeLow ∧ u.spm.wakeTimer = t.spm.wakeTimer ∧
      u.spm.requested = t.spm.requested ∧ u.spm.target = t.spm.target := by
    refine ⟨?_, ?_, ?_, ?_, ?_, ?_, ?_, ?_, ?_⟩ <;> rw [limited]
  obtain ⟨activity', cause', first', system', hub', low, timer, requested, target⟩ := fields
  refine ⟨activity'.trans activity, cause'.trans cause, first'.trans first, system'.trans system, hub'.trans hub, fun wakes => ?_,
    fun told => ?_, fun asleep deep => clock (started asleep deep), fun advised => ?_⟩
  · rw [low, timer, requested, target]
    exact pulse wakes
  · rw [cause', first']
    exact (queues.holds_iff (by simp [Notice.kind])).mpr (wake told)
  · exact (queues.holds_iff (by simp [Notice.kind])).mpr (withdrawn advised)

/-- A state with the same powers, policy and posture may stand at the beginning. -/
theorem State.Handed.left (h : u.Handed w t) (spm : s.spm.LimitedAtMost u.spm) (row : u.row = s.row) (policy : u.policy = s.policy)
    (posture : u.posture = s.posture) : s.Handed w t := by
  obtain ⟨activity, cause, first, system, hub, pulse, wake, started, withdrawn⟩ := h
  unfold Spm.LimitedAtMost at spm
  have fields : u.spm.wakeCause = s.spm.wakeCause ∧ u.spm.firstPower = s.spm.firstPower ∧ u.spm.system = s.spm.system ∧
      u.spm.hub = s.spm.hub := by
    refine ⟨?_, ?_, ?_, ?_⟩ <;> rw [spm]
  obtain ⟨cause', first', system', hub'⟩ := fields
  rw [row, system', cause'] at cause
  rw [row, system', cause', first', hub'] at first
  rw [row, system', hub'] at system hub pulse
  rw [row, system', hub', posture] at wake
  rw [system', hub'] at started
  rw [system', posture, row] at withdrawn
  rw [policy] at pulse
  exact ⟨activity, cause, first, system, hub, pulse, wake, started, withdrawn⟩

end

/-! ### The wake source -/

section
variable {s : State} {w : WakeSource}

/-- R177: the budget record after a wake source, and the notice of a source that joins. -/
structure State.Woken (s : State) (w : WakeSource) (t : State) : Prop where
  cause : t.spm.wakeCause =
    if s.row.wakeMask.getLsbD w.index = true ∧ (s.spm.system = .asleep ∨ s.spm.system = .waking) then s.spm.wakeCause ||| w.bit
    else s.spm.wakeCause
  first : t.spm.firstPower =
    if (s.row.wakeMask.getLsbD w.index = true ∧ (s.spm.system = .asleep ∨ s.spm.system = .waking)) ∧ s.spm.wakeCause = 0 then
      some s.spm.hub.depth
    else s.spm.firstPower
  system : t.spm.system =
    if s.row.wakeMask.getLsbD w.index = true ∧ s.spm.system = .asleep ∧ s.spm.hub ≠ .deep then .waking else s.spm.system
  hub : t.spm.hub =
    if s.row.wakeMask.getLsbD w.index = true ∧ s.spm.system = .asleep ∧ s.spm.hub ≠ .deep then .run else s.spm.hub
  pulse : s.row.wakeMask.getLsbD w.index = true ∧ s.spm.system = .asleep ∧ s.spm.hub ≠ .deep →
    t.spm.wakeLow = true ∧ t.spm.wakeTimer = some ⟨0, s.policy.wakeWidth⟩ ∧ t.spm.requested = none ∧ t.spm.target = none
  wake : (s.row.wakeMask.getLsbD w.index = true ∧ s.spm.system = .asleep ∧ s.spm.hub ≠ .deep) ∨
      (s.row.wakeMask.getLsbD w.index = true ∧ s.spm.system = .waking) →
    t.upq.Holds (.wake t.spm.wakeCause t.spm.firstPower s.posture)
  clock : s.spm.system = .asleep → s.spm.hub = .deep → t.spm.clock.isSome = true
  row : t.row = s.row
  posture : t.posture = s.posture

theorem State.wakeSource_row : (s.wakeSource w).row = s.row ∧ (s.wakeSource w).posture = s.posture := by
  have pae : (s.wakeSource w).pae = s.pae := by simp
  exact ⟨(s.wakeSource_swapsAtMost w).tables.row pae, congrArg (fun p : Pae => p.record.posture) pae⟩

theorem State.wakeSource_woken (s : State) (w : WakeSource) : s.Woken w (s.wakeSource w) := by
  obtain ⟨row, posture⟩ := State.wakeSource_row (s := s) (w := w)
  rcases s.wakeSource_cases w with ⟨up, e⟩ | ⟨asleep, deep, masked, e⟩ | ⟨asleep, deep, unmasked, e⟩ | ⟨asleep, apart, masked, e⟩ |
      ⟨waking, masked, e⟩ | ⟨awake, advised, apart, unmasked, e⟩
  · have down : ¬(s.spm.system = .asleep ∨ s.spm.system = .waking) := by rcases up with h | h <;> simp [h]
    have awake : s.spm.system ≠ .asleep := fun h => down (.inl h)
    have other : s.spm.system ≠ .waking := fun h => down (.inr h)
    rw [e] at row posture ⊢
    exact ⟨by simp [down], by simp [down], by simp [awake], by simp [awake], fun h => absurd h.2.1 awake,
      fun h => h.elim (fun h => absurd h.2.1 awake) fun h => absurd h.2 other, fun h => absurd h awake, row, posture⟩
  · let j : State := { s with spm := s.spm.join w }
    have started : (s.wakeSource w).spm = _ := (congrArg State.spm e).trans (State.startClock_spm (s := j) deep)
    refine ⟨?_, ?_, ?_, ?_, fun h => absurd deep h.2.2, fun h => ?_, fun _ _ => ?_, row, posture⟩
    · rw [started]
      simp [j, Spm.join, masked, asleep]
    · rw [started]
      simp [j, Spm.join, masked, asleep]
    · rw [started]
      simp [j, Spm.join, deep]
    · rw [started]
      simp [j, Spm.join, deep]
    · rcases h with h | h
      · exact absurd deep h.2.2
      · simp [asleep] at h
    · rw [started]
      rfl
  · have started : (s.wakeSource w).spm = _ := (congrArg State.spm e).trans (State.startClock_spm deep)
    refine ⟨?_, ?_, ?_, ?_, fun h => absurd deep h.2.2, fun h => ?_, fun _ _ => ?_, row, posture⟩
    · rw [started]
      simp [unmasked]
    · rw [started]
      simp [unmasked]
    · rw [started]
      simp [deep]
    · rw [started]
      simp [deep]
    · rcases h with h | h <;> simp [unmasked] at h
    · rw [started]
      rfl
  · obtain ⟨system, hub, cause, first, low, timer, requested, target, _, told, _⟩ :=
      ({ s with spm := s.spm.join w } : State).toWaking_spec
    rw [← e] at system hub cause first low timer requested target told
    have wakes : s.row.wakeMask.getLsbD w.index = true ∧ s.spm.system = .asleep ∧ s.spm.hub ≠ .deep := ⟨masked, asleep, apart⟩
    refine ⟨?_, ?_, ?_, ?_, fun _ => ⟨low, timer, requested, target⟩, fun _ => ?_, fun _ deep => absurd deep apart, row, posture⟩
    · rw [cause, if_pos ⟨masked, .inl asleep⟩]
      rfl
    · rw [first]
      simp [Spm.join, masked, asleep]
    · rw [system, if_pos wakes]
    · rw [hub, if_pos wakes]
    · rw [cause, first]
      exact told
  · have same : (s.wakeSource w).spm = s.spm.join w := congrArg State.spm e
    refine ⟨?_, ?_, ?_, ?_, fun h => ?_, fun _ => ?_, fun asleep => ?_, row, posture⟩
    · rw [same, if_pos ⟨masked, .inr waking⟩]
      rfl
    · rw [same]
      simp [Spm.join, masked, waking]
    · rw [same]
      simp [Spm.join, waking]
    · rw [same]
      simp [Spm.join, waking]
    · simp [waking] at h
    · rw [e]
      exact Upq.issue_holds _ _
    · simp [waking] at asleep
  · have still : ∀ p : Prop, ¬(s.row.wakeMask.getLsbD w.index = true ∧ p) := fun p h => by simp [unmasked] at h
    rw [e] at row posture ⊢
    refine ⟨by rw [if_neg (still _)], ?_, by rw [if_neg (still _)], by rw [if_neg (still _)], fun h => absurd h (still _),
      fun h => h.elim (fun h => absurd h (still _)) fun h => absurd h (still _), fun asleep deep => absurd ⟨asleep, deep⟩ apart, row,
      posture⟩
    rw [if_neg fun h => still _ h.1]

/-! ### The activity -/

theorem State.activity_spm (s : State) : (s.activity false).spm = { s.spm with
    activityTimer := 0, system := if s.spm.system = .advised then .awake else s.spm.system } := by
  by_cases advised : s.spm.system = .advised
  · rw [State.activity_withdraws (by simp) advised, if_pos advised]
  · rw [State.activity_rests (.inl (by simp)) advised, if_neg advised]

theorem State.leaveDeep_started (s : State) (started : s.spm.clock.isSome = true) : s.leaveDeep.spm.clock.isSome = true := by
  unfold State.leaveDeep
  split
  · rcases s.startClock_cases with ⟨_, _, e⟩ | ⟨_, e⟩ <;> rw [e]
    · rfl
    · exact started
  · exact started

/-- R137, R138: the hand-over of a wake source and an activity. -/
def State.handedOver (s : State) (w : WakeSource) : State := (((s.wakeSource w).activity false).judgeSleep).leaveDeep

theorem State.activity_handed (h : s.Woken w t) : s.Handed w (t.activity false) := by
  obtain ⟨cause, first, system, hub, pulse, wake, clock, row, posture⟩ := h
  have spm := t.activity_spm
  have fields : (t.activity false).spm.wakeCause = t.spm.wakeCause ∧ (t.activity false).spm.firstPower = t.spm.firstPower ∧
      (t.activity false).spm.hub = t.spm.hub ∧ (t.activity false).spm.wakeLow = t.spm.wakeLow ∧
      (t.activity false).spm.wakeTimer = t.spm.wakeTimer ∧ (t.activity false).spm.requested = t.spm.requested ∧
      (t.activity false).spm.target = t.spm.target ∧ (t.activity false).spm.clock = t.spm.clock := by
    refine ⟨?_, ?_, ?_, ?_, ?_, ?_, ?_, ?_⟩ <;> rw [spm]
  obtain ⟨cause', first', hub', low, timer, requested, target, clock'⟩ := fields
  have queues := State.activity_queues (kinds := [.sleep]) (by decide) t false
  refine ⟨by rw [spm], cause'.trans cause, first'.trans first, ?_, hub'.trans hub, fun wakes => ?_, fun told => ?_,
    fun asleep deep => clock' ▸ clock asleep deep, fun advised => ?_⟩
  · rw [spm]
    change (if t.spm.system = .advised then _ else t.spm.system) = _
    rw [system]
    split <;> rfl
  · rw [low, timer, requested, target]
    exact pulse wakes
  · rw [cause', first']
    exact (queues.holds_iff (by simp [Notice.kind])).mpr (wake told)
  · have stays : t.spm.system = .advised := by
      rw [system, if_neg (by simp [advised])]
      exact advised
    rw [State.activity_withdraws (by simp) stays, ← posture, ← row]
    exact Upq.issue_holds _ _

theorem State.handedOver_handed (s : State) (w : WakeSource) : s.Handed w (s.handedOver w) := by
  let a := (s.wakeSource w).activity false
  have handed : s.Handed w a := State.activity_handed (s.wakeSource_woken w)
  have judged : s.Handed w a.judgeSleep := by
    have clock : a.judgeSleep.spm.clock = a.spm.clock := by
      have limited := a.judgeSleep_spm.1
      unfold Spm.LimitedAtMost at limited
      rw [limited]
    exact handed.right (fun started => clock ▸ started) ⟨a.spm.clock, a.judgeSleep_spm.1⟩ (State.judgeSleep_queues (by decide) a)
  obtain ⟨c, left⟩ := a.judgeSleep.leaveDeep_spm
  have spm : (s.handedOver w).spm = { a.judgeSleep.spm with clock := c } := left
  exact judged.right (State.leaveDeep_started _) ⟨c, by rw [spm]; exact .refl _⟩ (State.leaveDeep_queues _)

end

/-! ### The PEN notice that stands with the record -/

/-- R152: the PEN notice that waits carries the charger's state, the pause reasons and the pen record as they are. -/
def State.PenTold (s : State) : Prop := s.upq.Holds (.pen s.pch.state s.pch.pauses s.penFields)

theorem State.penNotice_told (s : State) : s.penNotice.PenTold := Upq.issue_holds _ _

/-- What a charger at rest goes through while reasons and powers change: the set of reasons alone, and its PEN notice with it. -/
structure State.Settles (s t : State) : Prop where
  pch : ∃ q, t.pch = { s.pch with pauses := q } ∧ q.thermal = s.pch.pauses.thermal ∧ q.supply = s.pch.pauses.supply
  told : s.PenTold → t.PenTold
  bcd : t.bcd = s.bcd

section
variable {s t u : State}

theorem State.Settles.of_eq (pch : t.pch = s.pch) (bcd : t.bcd = s.bcd) (told : s.PenTold → t.PenTold) : s.Settles t :=
  ⟨⟨s.pch.pauses, pch, rfl, rfl⟩, told, bcd⟩

theorem State.Settles.trans (h : s.Settles t) (h' : t.Settles u) : s.Settles u := by
  obtain ⟨⟨q, pch, thermal, supply⟩, told, bcd⟩ := h
  obtain ⟨⟨r, pch', thermal', supply'⟩, told', bcd'⟩ := h'
  rw [pch] at pch' thermal' supply'
  exact ⟨⟨r, pch', thermal'.trans thermal, supply'.trans supply⟩, fun standing => told' (told standing), bcd'.trans bcd⟩

/-- Notices of other kinds leave the PEN notice. -/
theorem State.PenTold.queues {kinds : List NoticeKind} (other : .pen ∉ kinds) (queues : s.Queues kinds t) (pch : t.pch = s.pch)
    (told : s.PenTold) : t.PenTold := by
  have fields : t.penFields = s.penFields := by rw [State.penFields, pch, State.penFields]
  unfold State.PenTold
  rw [fields, pch]
  exact (queues.holds_iff (by simpa [Notice.kind] using other)).mpr told

section
variable (rests : s.pch.state.Rests)
include rests

theorem State.setPausesBy_settles (go : State → ChargerState → State) {q : Pauses} (thermal : q.thermal = s.pch.pauses.thermal)
    (supply : q.supply = s.pch.pauses.supply) : s.Settles (s.setPausesBy go q) := by
  rcases s.setPausesBy_cases go q with ⟨_, e⟩ | ⟨_, _, busy, _⟩ | ⟨_, paused, _⟩ | ⟨_, _, _, e⟩
  · rw [e]
    exact .of_eq rfl rfl id
  · rcases rests with r | r | r <;> simp [r, ChargerState.drives] at busy
  · rcases rests with r | r | r <;> simp [r] at paused
  · rw [e]
    exact ⟨⟨q, rfl, thermal, supply⟩, fun _ => State.penNotice_told _, rfl⟩

theorem State.judgeSleep_settles : s.Settles s.judgeSleep := State.setPausesBy_settles rests _ rfl rfl

theorem State.handLimit_settles : s.Settles s.handLimit := by
  rcases s.rebudgetBy_cases State.toCharger { s.spm with stageLimit := s.limitInForce } with ⟨_, _, e⟩ | ⟨_, e⟩
  · have stays : s.handLimit = s.limited := e
    rw [stays]
    exact .of_eq rfl rfl id
  · have moves : s.handLimit = s.limited.setPausesBy State.toCharger
        (s.pch.pauses.forClaim s.limited.spm.penClaim (decide (0 < s.spm.latchClaim))) := e
    rw [moves]
    have settles := State.setPausesBy_settles (s := s.limited) rests State.toCharger
      (q := s.pch.pauses.forClaim s.limited.spm.penClaim (decide (0 < s.spm.latchClaim))) rfl rfl
    exact State.Settles.trans (t := s.limited) (.of_eq rfl rfl id) settles

theorem State.Settles.keepsRest (h : s.Settles t) : t.pch.state.Rests := by
  obtain ⟨q, pch, _⟩ := h.pch
  rw [pch]
  exact rests

theorem State.wakeSource_settles (w : WakeSource) : s.Settles (s.wakeSource w) := by
  have noticed {v : State} (pch : v.pch = s.pch) (bcd : v.bcd = s.bcd) (upq : v.upq = s.upq) : s.Settles v.wakeNotice :=
    .of_eq pch bcd (State.PenTold.queues (kinds := [.wake]) (by decide) ((v.notice_queues _ (by simp [Notice.kind])).left upq) pch)
  rcases s.wakeSource_cases w with ⟨_, e⟩ | ⟨_, _, _, e⟩ | ⟨_, _, _, e⟩ | ⟨_, _, _, e⟩ | ⟨_, _, e⟩ | ⟨_, _, _, _, e⟩ <;> rw [e]
  · exact .of_eq rfl rfl id
  · exact .of_eq (by simp) (by simp) (State.PenTold.queues (kinds := []) (by simp) (.of_eq (by simp)) (by simp))
  · exact .of_eq (by simp) (by simp) (State.PenTold.queues (kinds := []) (by simp) (.of_eq (by simp)) (by simp))
  · have woken : s.Settles ({ s with spm := s.spm.join w } : State).intoWaking.wakeNotice :=
      noticed (by simp) (by simp) rfl
    exact woken.trans (State.judgeSleep_settles (woken.keepsRest rests))
  · exact noticed rfl rfl rfl
  · exact .of_eq rfl rfl id

omit rests in
theorem State.activity_settles (s : State) : s.Settles (s.activity false) :=
  .of_eq (by simp) (by simp)
    (State.PenTold.queues (kinds := [.sleep]) (by decide) (State.activity_queues (by decide) s false) (by simp))

omit rests in
theorem State.leaveDeep_settles (s : State) : s.Settles s.leaveDeep :=
  .of_eq (by simp) (by simp) (State.PenTold.queues (kinds := []) (by simp) (State.leaveDeep_queues s) (by simp))

/-- R137, R138: the hand-over leaves a charger at rest but for its pause reasons. -/
theorem State.handedOver_settles (w : WakeSource) : s.Settles (s.handedOver w) := by
  have active := (State.wakeSource_settles rests w).trans (State.activity_settles _)
  exact (active.trans (State.judgeSleep_settles (active.keepsRest rests))).trans (State.leaveDeep_settles _)

end

end

/-! ### An insertion -/

section
variable (s : State)

/-- R137: the fresh pen record, with its stage limit handed on and its notice. -/
def State.penFresh : State := ({ s with pch.pen := some .fresh } : State).handLimit.penNotice

theorem State.penInserted_eq : s.penInserted =
    let u := s.penFresh.handedOver .penInsert
    if u.pch.enable = true ∧ u.pch.state = .off then u.waitFromOff else u := rfl

/-- What lies outside the charger's reach, and the powers, are the same before the hand-over. -/
theorem State.penFresh_before :
    s.spm.LimitedAtMost s.penFresh.spm ∧ s.penFresh.row = s.row ∧ s.penFresh.policy = s.policy ∧ s.penFresh.posture = s.posture := by
  have spm : s.spm.LimitedAtMost s.penFresh.spm := State.handLimit_limited { s with pch.pen := some .fresh }
  have stand : s.TablesStand s.penFresh := (State.limitNoticed_swapsAtMost { s with pch.pen := some .fresh }).tables
  have pae : s.penFresh.pae = s.pae := by simp [State.penFresh]
  refine ⟨spm, stand.row pae, ?_, congrArg (fun p : Pae => p.record.posture) pae⟩
  rcases stand with e | ⟨_, e⟩ <;> rw [State.policy, e] <;> rfl

theorem State.penInserted_handed : s.Handed .penInsert s.penInserted := by
  obtain ⟨spm, row, policy, posture⟩ := s.penFresh_before
  have handed := (s.penFresh.handedOver_handed .penInsert).left spm row policy posture
  rw [s.penInserted_eq]
  dsimp only
  split
  · have limited := (s.penFresh.handedOver .penInsert).waitFromOff_limited
    have clock : (s.penFresh.handedOver .penInsert).waitFromOff.spm.clock = (s.penFresh.handedOver .penInsert).spm.clock := by
      unfold Spm.LimitedAtMost at limited
      rw [limited]
    exact handed.right (fun started => clock ▸ started) ⟨_, limited⟩ (State.waitFromOff_queues _)
  · exact handed

end

section
variable {s : State}

/-- R137: an insertion in OFF leaves the charger there until it waits, with the fresh record told. -/
theorem State.penFresh_off (off : s.pch.state = .off) :
    let u := s.penFresh.handedOver .penInsert
    (∃ q, u.pch = { s.pch with pen := some .fresh, pauses := q }) ∧ u.PenTold := by
  let v : State := { s with pch.pen := some .fresh }
  have rests : v.pch.state.Rests := .inl off
  have limited : v.Settles v.handLimit := State.handLimit_settles rests
  have noticed : v.Settles s.penFresh := limited.trans (.of_eq rfl rfl fun _ => State.penNotice_told _)
  have handed := State.handedOver_settles (noticed.keepsRest rests) .penInsert
  obtain ⟨⟨q, pch, _⟩, _⟩ := noticed.trans handed
  exact ⟨⟨q, pch⟩, handed.told (State.penNotice_told _)⟩

theorem Pauses.none_of_unraised {p q : Pauses} (none : p.none = true) (quiet : p.raises q = false) : q.none = true := by
  simp only [Pauses.none, Pauses.raises, Bool.not_eq_true', Bool.or_eq_false_iff, Bool.and_eq_false_iff] at none quiet ⊢
  obtain ⟨⟨⟨⟨thermal, budget⟩, latch⟩, supply⟩, sleep⟩ := none
  simpa [thermal, budget, latch, supply, sleep] using quiet

theorem Pauses.held_of_raised {p q : Pauses} (raised : p.raises q = true) : q.none = false := by
  simp only [Pauses.raises, Bool.or_eq_true, Bool.and_eq_true] at raised
  simp only [Pauses.none, Bool.not_eq_false', Bool.or_eq_true]
  tauto

/-- R139: an entry to WAIT from OFF, or to PAUSED while a reason holds, also after the swap that a stop brings. -/
theorem State.waitFromOff_goes (s : State) :
    s.waitFromOff.pch.attempts = 0 ∧
    s.waitFromOff.pch.state = if s.waitFromOff.pch.pauses.none then .wait else .paused := by
  let u : State := { s with pch.attempts := 0 }
  by_cases free : s.pch.pauses.none = true
  · have goes : s.waitFromOff = u.toWait := if_pos free
    obtain ⟨_, _, _, p, budget, latch, _, state, _, made, reconsidered⟩ := u.toCharger_stops (c := .wait) rfl
    have attempts : p.attempts = 0 := by rw [made]
    have pauses : p.pauses = s.pch.pauses := by rw [made]
    have judged : (u.toCharger .wait).pch.attempts = 0 ∧
        (u.toCharger .wait).pch.state = if (u.toCharger .wait).pch.pauses.none then .wait else .paused := by
      generalize { u.pch.pauses with budget := budget, latch := latch } = q at reconsidered
      rw [reconsidered]
      rcases p.reconsidered_cases q (u.toCharger .wait).chg.waitInterval with ⟨_, e⟩ | ⟨_, _, raised, e⟩ | ⟨_, paused, _⟩ |
          ⟨_, quiet, _, e⟩
      · rw [e, pauses, if_pos free]
        exact ⟨attempts, state⟩
      · rw [e, if_neg (by simp [Pauses.held_of_raised raised])]
        exact ⟨attempts, rfl⟩
      · simp [state] at paused
      · have none : q.none = true :=
          Pauses.none_of_unraised (p := p.pauses) (pauses ▸ free) (by simpa [state] using quiet)
        rw [e, if_pos none]
        exact ⟨attempts, state⟩
    rw [goes]
    exact judged
  · have goes : s.waitFromOff = u.toPaused := if_neg free
    have held : s.pch.pauses.none = false := by simpa using free
    let v : State := { s with pch := { s.pch.cleared with attempts := 0 } }
    obtain ⟨_, _, _, p, budget, latch, _, state, _, made, reconsidered⟩ := v.toCharger_stops (c := .paused) rfl
    have attempts : p.attempts = 0 := by rw [made]
    have pauses : p.pauses = s.pch.pauses := by rw [made]; rfl
    obtain ⟨holds, resumes⟩ := Pch.reconsidered_paused { v.pch.pauses with budget := budget, latch := latch }
      (v.toCharger .paused).chg.waitInterval state (pauses ▸ held)
    have set := p.reconsidered_pauses { v.pch.pauses with budget := budget, latch := latch } (v.toCharger .paused).chg.waitInterval
    rw [← reconsidered] at holds resumes set
    rw [← set] at holds resumes
    have same : u.toPaused = v.toCharger .paused := rfl
    rw [goes, same]
    cases none : (v.toCharger .paused).pch.pauses.none with
    | true =>
      obtain ⟨wait, _, zero⟩ := resumes none
      exact ⟨zero, wait⟩
    | false =>
      obtain ⟨paused, _, same⟩ := holds none
      exact ⟨same.trans attempts, paused⟩

/-- R137: with charging enabled an insertion in OFF goes on to the entry to WAIT, and otherwise ends there. -/
theorem State.penInserted_goes (off : s.pch.state = .off) :
    (s.pch.enable = true → s.penInserted = (s.penFresh.handedOver .penInsert).waitFromOff) ∧
    (s.pch.enable = false → s.penInserted = s.penFresh.handedOver .penInsert) := by
  obtain ⟨⟨q, pch⟩, _⟩ := State.penFresh_off off
  have enable : (s.penFresh.handedOver .penInsert).pch.enable = s.pch.enable := by rw [pch]
  have state : (s.penFresh.handedOver .penInsert).pch.state = .off := by rw [pch]; exact off
  exact ⟨fun on => if_pos ⟨enable.trans on, state⟩, fun disabled =>
    if_neg fun h => absurd (enable.symm.trans h.1) (by simp [disabled])⟩

theorem State.penInserted_off (off : s.pch.state = .off) :
    (s.pch.enable = true → s.penInserted.pch.attempts = 0 ∧
      s.penInserted.pch.state = if s.penInserted.pch.pauses.none then .wait else .paused) ∧
    (s.pch.enable = false → s.penInserted.pch.state = .off) := by
  obtain ⟨waits, stays⟩ := State.penInserted_goes off
  refine ⟨fun on => ?_, fun disabled => ?_⟩
  · rw [waits on]
    exact State.waitFromOff_goes _
  · obtain ⟨⟨q, pch⟩, _⟩ := State.penFresh_off off
    rw [stays disabled, pch]
    exact off

/-- R139, R148, R152: with the driver standing still, the notice of WAIT is queued, and that of OFF stays in PAUSED. -/
theorem State.waitFromOff_told {fields : Option PenFields} (off : s.pch.state = .off) (stopped : s.pch.driver.running = false)
    (record : s.penFields = fields) (told : s.upq.Holds (.pen .off s.pch.pauses fields)) :
    s.waitFromOff.upq.Holds
      (.pen (if s.waitFromOff.pch.state = .paused then .off else s.waitFromOff.pch.state) s.waitFromOff.pch.pauses fields) := by
  let u : State := { s with pch.attempts := 0 }
  have idle : u.pch.state.drives = false := by rw [show u.pch.state = _ from off]; rfl
  by_cases free : s.pch.pauses.none = true
  · have goes : s.waitFromOff = _ := (if_pos free).trans (State.toWait_idle (s := u) idle stopped)
    rw [goes, ← record]
    exact Upq.issue_holds _ _
  · have goes : s.waitFromOff = _ := (if_neg free).trans (State.toPaused_idle (s := u) idle stopped)
    rw [goes]
    exact told

/-- R137, R139, R152: the notice of an insertion; the entry to PAUSED queues none, so it names OFF. -/
theorem State.penInserted_told (ok : s.DriverOk) (off : s.pch.state = .off) :
    s.penInserted.upq.Holds (.pen (if s.penInserted.pch.state = .paused then .off else s.penInserted.pch.state)
      s.penInserted.pch.pauses (some ⟨none, none, none, none, s.pch.driver.duty, 0, 0, s.pch.faultReason, s.pch.faultCode⟩)) := by
  let u := s.penFresh.handedOver .penInsert
  obtain ⟨waits, stays⟩ := State.penInserted_goes off
  obtain ⟨⟨q, pch⟩, told⟩ := State.penFresh_off off
  have record : u.pch = { s.pch with pen := some .fresh, pauses := q } := pch
  have state : u.pch.state = .off := by rw [record]; exact off
  have running : u.pch.driver.running = false := by
    rw [record]
    simp [ok.running, off, ChargerState.drives]
  have fields : u.penFields =
      some ⟨none, none, none, none, s.pch.driver.duty, 0, 0, s.pch.faultReason, s.pch.faultCode⟩ := by
    rw [State.penFields, record]
    rfl
  have standing : u.upq.Holds (.pen u.pch.state u.pch.pauses u.penFields) := told
  rw [state, fields] at standing
  cases enable : s.pch.enable with
  | true =>
    rw [waits enable]
    exact State.waitFromOff_told state running fields standing
  | false =>
    rw [stays enable]
    change u.upq.Holds (.pen (if u.pch.state = .paused then .off else u.pch.state) u.pch.pauses _)
    rw [if_neg (by simp [state]), state]
    exact standing

/-! ### The pen record and the clock start -/

theorem State.wakeSource_pen (s : State) (w : WakeSource) : (s.wakeSource w).pch.pen = s.pch.pen := by
  rcases s.wakeSource_cases w with ⟨_, e⟩ | ⟨_, _, _, e⟩ | ⟨_, _, _, e⟩ | ⟨_, _, _, e⟩ | ⟨_, _, e⟩ | ⟨_, _, _, _, e⟩ <;> rw [e]
  · simp
  · simp
  · exact ((State.judgeSleep_keeps _).1).trans (by simp)
  · rfl

theorem State.handedOver_pen (s : State) (w : WakeSource) : (s.handedOver w).pch.pen = s.pch.pen := by
  have left : (s.handedOver w).pch.pen = (((s.wakeSource w).activity false).judgeSleep).pch.pen := by
    simp [State.handedOver]
  rw [left, (State.judgeSleep_keeps _).1]
  simp [State.wakeSource_pen]

theorem State.penFresh_pen (s : State) : s.penFresh.pch.pen = some .fresh :=
  (State.rebudgetBy_keepsSleep _ State.toCharger_keepsSleep { s with pch.pen := some .fresh } _).1

theorem State.waitFromOff_pen (s : State) : s.waitFromOff.pch.pen = s.pch.pen := by
  unfold State.waitFromOff
  dsimp only
  split
  · exact (State.toCharger_keepsSleep { s with pch.attempts := 0 } .wait).1
  · exact (State.toCharger_keepsSleep { s with pch := { s.pch.cleared with attempts := 0 } } .paused).1

theorem State.penInserted_pen (s : State) : s.penInserted.pch.pen = some .fresh := by
  have handed : (s.penFresh.handedOver .penInsert).pch.pen = some .fresh := (State.handedOver_pen _ _).trans s.penFresh_pen
  rw [s.penInserted_eq]
  dsimp only
  split
  · exact (State.waitFromOff_pen _).trans handed
  · exact handed

/-- R175: a pen that charges in sleep brings the hub out of DEEP. -/
theorem State.penInserted_clock (deep : s.spm.hub = .deep) (charges : s.row.chargeInSleep = true) :
    s.penInserted.spm.clock.isSome = true := by
  let j := ((s.penFresh.wakeSource .penInsert).activity false).judgeSleep
  let u := s.penFresh.handedOver .penInsert
  obtain ⟨limited, row, _, _⟩ := s.penFresh_before
  have hub : u.spm.hub = .deep := by
    have handed := s.penFresh.handedOver_handed .penInsert
    have before : s.penFresh.spm.hub = .deep := limited.powers.1.trans deep
    rw [handed.hub, if_neg fun wakes => wakes.2.2 before, before]
  obtain ⟨c, left⟩ := j.leaveDeep_spm
  have hub' : j.spm.hub = .deep := by
    have same : u.spm.hub = j.spm.hub := by
      change j.leaveDeep.spm.hub = _
      rw [left]
    exact same ▸ hub
  have barred : j.deepBarred = true := by
    have pen : j.pch.pen = some .fresh := by
      have same : u.pch.pen = j.pch.pen := by simp [u, State.handedOver, j]
      exact same ▸ (State.handedOver_pen _ _).trans s.penFresh_pen
    have now : j.row = s.row := by
      have swaps := (State.wakeSource_swapsAtMost s.penFresh .penInsert).trans
        ((State.activity_swapsAtMost _ false).trans (State.judgeSleep_swapsAtMost _))
      exact (swaps.tables.row (by simp)).trans row
    simp [State.deepBarred, State.chargesInSleep, pen, now, charges]
  have started : u.spm.clock.isSome = true := State.leaveDeep_clock_of_barred hub' barred
  rw [s.penInserted_eq]
  dsimp only
  split
  · have after := u.waitFromOff_limited
    unfold Spm.LimitedAtMost at after
    have clock : u.waitFromOff.spm.clock = u.spm.clock := by rw [after]
    exact clock ▸ started
  · exact started

/-! ### A removal -/

/-- R138: OFF with everything of the pen cleared. -/
def State.penGone (s : State) : State :=
  let t := s.toCharger .off
  { t with
    pch := { t.pch.stopTimers with
      faultReason := none, faultCode := none, attempts := 0, overcurrent := 0, timeouts := 0, pen := none }
    bcd.last := none }

theorem State.penRemoved_eq (s : State) : s.penRemoved = s.penGone.handLimit.penNotice.handedOver .penRemove := rfl

theorem State.penGone_off (s : State) : s.penGone.pch.state = .off := (s.toCharger_rests (.inl rfl)).1

theorem State.penRemoved_settles (s : State) : s.penGone.Settles s.penRemoved ∧ s.penRemoved.PenTold := by
  have rests : s.penGone.pch.state.Rests := .inl s.penGone_off
  have limited := State.handLimit_settles rests
  have noticed : s.penGone.Settles s.penGone.handLimit.penNotice := limited.trans (.of_eq rfl rfl fun _ => State.penNotice_told _)
  have handed := State.handedOver_settles (noticed.keepsRest rests) .penRemove
  rw [s.penRemoved_eq]
  exact ⟨noticed.trans handed, handed.told (State.penNotice_told _)⟩

theorem State.penRemoved_told (s : State) : s.penRemoved.upq.Holds (.pen .off s.penRemoved.pch.pauses none) := by
  obtain ⟨⟨⟨q, pch, _⟩, _⟩, told⟩ := s.penRemoved_settles
  have state : s.penRemoved.pch.state = .off := by rw [pch]; exact s.penGone_off
  have fields : s.penRemoved.penFields = none := by
    rw [State.penFields, pch]
    rfl
  have standing : s.penRemoved.upq.Holds (.pen s.penRemoved.pch.state s.penRemoved.pch.pauses s.penRemoved.penFields) := told
  rw [state, fields] at standing
  exact standing

theorem State.penRemoved_handed (s : State) : s.Handed .penRemove s.penRemoved := by
  let v := s.penGone.handLimit.penNotice
  have gone : s.SwapsAtMost s.penGone := (s.toCharger_swapsAtMost .off).right rfl rfl
  have swaps : s.SwapsAtMost v := gone.trans (State.limitNoticed_swapsAtMost _)
  have pae : v.pae = s.pae := by simp [v, State.penGone]
  have policy : v.policy = s.policy := by rcases swaps.tables with e | ⟨_, e⟩ <;> rw [State.policy, e] <;> rfl
  have limited : s.spm.LimitedAtMost v.spm :=
    Spm.LimitedAtMost.trans (q := s.penGone.spm) (s.toCharger_limited .off) s.penGone.handLimit_limited
  exact (v.handedOver_handed .penRemove).left limited (swaps.tables.row pae) policy (congrArg (fun p : Pae => p.record.posture) pae)

/-- R138, R161: what a removal clears, and what it keeps. -/
theorem State.penRemoved_clears (s : State) :
    let t := s.penRemoved
    t.pch.state = .off ∧ t.pch.pen = none ∧ t.pch.faultReason = none ∧ t.pch.attempts = 0 ∧ t.pch.overcurrent = 0 ∧
    t.pch.timeouts = 0 ∧ t.pch.waiting = none ∧ t.pch.waitTimer = none ∧ t.pch.burstTimer = none ∧ t.pch.stageTimer = none ∧
    t.pch.packetTimer = none ∧ t.pch.recheckTimer = none ∧ t.pch.driver.running = false ∧ t.pch.enable = s.pch.enable ∧
    t.pch.pauses.thermal = s.pch.pauses.thermal ∧ t.pch.pauses.supply = s.pch.pauses.supply ∧ t.bcd.last = none := by
  obtain ⟨⟨⟨q, pch, thermal, supply⟩, _, bcd⟩, _⟩ := s.penRemoved_settles
  have running : s.penGone.pch.driver.running = false := (s.toCharger_rests (c := .off) (.inl rfl)).2.1
  have enable : s.penGone.pch.enable = s.pch.enable := by
    have record := s.toCharger_rests_pch (c := .off) (.inl rfl)
    change (s.toCharger .off).pch.enable = _
    rw [record]
  obtain ⟨thermal', supply', _⟩ := s.toCharger_agrees .off
  intro t
  have record : t.pch = { s.penGone.pch with pauses := q } := pch
  have unit : t.bcd = s.penGone.bcd := bcd
  rw [record, unit]
  exact ⟨s.penGone_off, rfl, rfl, rfl, rfl, rfl, rfl, rfl, rfl, rfl, rfl, rfl, running, enable, thermal.trans thermal',
    supply.trans supply', rfl⟩

end

/-- Settles O34: the hand-over by the wake source and the activity, the charger by what an entry to OFF and from OFF leaves. -/
theorem aPenComesAndGoes : Obligations.APenComesAndGoes := by
  unfold Obligations.APenComesAndGoes
  intro parts handed s
  have given {w : WakeSource} {t : State} (h : s.Handed w t) : handed s w t :=
    ⟨h.activity, h.cause, h.first, h.system, h.hub, h.pulse, h.wake, h.clock, h.withdrawn⟩
  refine ⟨given s.penInserted_handed, given s.penRemoved_handed, State.penInserted_told, s.penRemoved_told, s.penInserted_pen,
    fun on off => (State.penInserted_off off).1 on, fun disabled off => (State.penInserted_off off).2 disabled,
    State.penInserted_clock, ?_, s.penInserted_swapsAtMost.tables, .of_charger s.penInserted_frame⟩
  rintro t rfl
  obtain ⟨state, pen, fault, attempts, overcurrent, timeouts, waiting, wait, burst, stage, packet, recheck, running, enable, thermal,
    supply, last⟩ := s.penRemoved_clears
  exact ⟨state, pen, fault, attempts, overcurrent, timeouts, waiting, wait, burst, stage, packet, recheck, running, enable, thermal,
    supply, last, s.penRemoved_swapsAtMost.tables, .of_charger s.penRemoved_frame⟩

end Sys2Proof.Machine
end

section
/-!
PROOFS. CHARGE_CONTROL (R151, R164, R165): what a change of the budget leaves of the enable flag and of OFF, what disabling and enabling
bring, and the statement about it (O48).
-/

namespace Sys2Proof.Machine

/-! ### The flag and OFF through a change of the pause reasons -/

/-- Whether charging is enabled, and whether the charger is in OFF, stay. -/
def Pch.OffAlike (p q : Pch) : Prop := q.enable = p.enable ∧ (q.state = .off ↔ p.state = .off)

theorem Pch.OffAlike.refl (p : Pch) : p.OffAlike p := ⟨rfl, .rfl⟩

theorem Pch.OffAlike.trans {p q r : Pch} (h : p.OffAlike q) (h' : q.OffAlike r) : p.OffAlike r := ⟨h'.1.trans h.1, h'.2.trans h.2⟩

/-- A change of state that keeps the flag and leads to OFF only where it should. -/
def State.KeepsFlag (go : State → ChargerState → State) : Prop :=
  ∀ s c, (go s c).pch.enable = s.pch.enable ∧ (c ≠ .off → (go s c).pch.state ≠ .off)

section
variable {go : State → ChargerState → State} (change : State.KeepsFlag go)
include change

theorem State.setPausesBy_offAlike (s : State) (q : Pauses) : s.pch.OffAlike (s.setPausesBy go q).pch := by
  rcases s.setPausesBy_cases go q with ⟨_, e⟩ | ⟨_, _, busy, e⟩ | ⟨_, paused, _, e⟩ | ⟨_, _, _, e⟩ <;> rw [e]
  · exact .refl _
  · obtain ⟨enable, state⟩ := change { s with pch := { s.pch.cleared with pauses := q } } .paused
    have on : s.pch.state ≠ .off := by
      rcases busy with waits | drives
      · simp [waits]
      · intro off
        simp [off, ChargerState.drives] at drives
    exact ⟨enable, iff_of_false (state (by decide)) on⟩
  · obtain ⟨enable, state⟩ := change { s with pch := { s.pch with pauses := q, attempts := 0 } } .wait
    exact ⟨enable, iff_of_false (state (by decide)) (by simp [paused])⟩
  · exact .refl _

theorem State.rebudgetBy_offAlike (s : State) (p : Spm) : s.pch.OffAlike (s.rebudgetBy go p).pch := by
  rcases s.rebudgetBy_cases go p with ⟨_, _, e⟩ | ⟨_, e⟩ <;> rw [e]
  · exact .refl _
  · exact State.setPausesBy_offAlike change { s with spm := { p with penClaim := p.claim } } _

end

theorem State.enterCharger_keepsFlag : State.KeepsFlag State.enterCharger := by
  intro s c
  obtain ⟨_, _, _, e, _⟩ := s.enterCharger_pch_eq c
  rw [e]
  exact ⟨rfl, id⟩

theorem State.toCharger_keepsFlag : State.KeepsFlag State.toCharger := by
  intro s c
  obtain ⟨enable, state⟩ := State.enterCharger_keepsFlag s c
  rcases s.toCharger_cases c with ⟨_, _, _, e⟩ | ⟨_, e⟩ <;> rw [e]
  · obtain ⟨enable', off⟩ : (s.enterCharger c).pch.OffAlike (s.enterCharger c).swapStopped.pch :=
      State.rebudgetBy_offAlike State.enterCharger_keepsFlag _ _
    exact ⟨enable'.trans enable, fun other is => state other (off.mp is)⟩
  · exact ⟨enable, state⟩

theorem State.rebudget_offAlike (s : State) (p : Spm) : s.pch.OffAlike (s.rebudget p).pch :=
  State.rebudgetBy_offAlike State.toCharger_keepsFlag s p

theorem State.waitFromOff_enable (s : State) : s.waitFromOff.pch.enable = s.pch.enable := by
  unfold State.waitFromOff
  dsimp only
  split
  · exact (State.toCharger_keepsFlag { s with pch.attempts := 0 } .wait).1
  · exact (State.toCharger_keepsFlag { s with pch := { s.pch.cleared with attempts := 0 } } .paused).1

/-! ### What a change of the budget, and an entry, hand over -/

section
variable (s : State)

theorem State.rebudget_handsOver (p : Spm) : s.HandsOver (s.rebudget p) :=
  ⟨State.rebudgetBy_swapsAtMost _ State.toCharger_swapsAtMost s p, State.rebudgetBy_keepsReplies _ State.toCharger_keepsReplies s p⟩

theorem State.toCharger_handsOver (c : ChargerState) : s.HandsOver (s.toCharger c) :=
  ⟨s.toCharger_swapsAtMost c, s.toCharger_keepsReplies c⟩

theorem State.waitFromOff_handsOver : s.HandsOver s.waitFromOff := by
  refine ⟨s.waitFromOff_swapsAtMost, ?_⟩
  unfold State.waitFromOff
  dsimp only
  split
  · exact (State.toWaitBy_keepsReplies _ State.toCharger_keepsReplies { s with pch.attempts := 0 }).left rfl
  · exact (State.toCharger_keepsReplies { s with pch := { s.pch.cleared with attempts := 0 } } .paused).left rfl

/-- R165: the claim follows the rest of the budget record, also after a swap. -/
theorem State.toCharger_claims (c : ChargerState) (claims : s.spm.Claims) : (s.toCharger c).spm.Claims := by
  rcases s.toCharger_spm c with e | follows
  · rw [e]
    exact claims
  · exact follows.claims

theorem State.handLimit_claims : s.handLimit.spm.Claims := (s.rebudget_spm _).claims

theorem State.waitFromOff_claims (claims : s.spm.Claims) : s.waitFromOff.spm.Claims := by
  unfold State.waitFromOff
  dsimp only
  split
  · exact State.toCharger_claims { s with pch.attempts := 0 } .wait claims
  · exact State.toCharger_claims { s with pch := { s.pch.cleared with attempts := 0 } } .paused claims

/-! ### Disabling and enabling -/

/-- R151: OFF with the faults and the counts cleared and no stage named, before the limit is handed on. -/
def State.switchedOff : State :=
  let t := ({ s with pch.enable := false } : State).toCharger .off
  { t with
    pch := { t.pch.stopTimers with
      faultReason := none, faultCode := none, attempts := 0, overcurrent := 0, timeouts := 0
      pen := t.pch.pen.map fun (p : PenRecord) => { p with stage := none } } }

theorem State.disable_eq : s.disable =
    if s.pch.state = .off then ({ s with pch.enable := false } : State).penNotice else s.switchedOff.handLimit.penNotice := rfl

theorem State.enableCharging_eq : s.enableCharging =
    if s.pch.state = .off ∧ s.pch.pen.isSome = true then ({ s with pch.enable := true } : State).waitFromOff
    else { s with pch.enable := true } := rfl

/-- What disabling and enabling have in common: the flag set, and the budget record but for the stage limit and its claim. -/
structure State.Flagged (s : State) (enable : Bool) (t : State) : Prop where
  flag : t.pch.enable = enable
  spm : s.spm.LimitedAtMost t.spm
  claims : s.spm.Claims → t.spm.Claims
  hands : s.HandsOver t
  only : s.OnlyIn chargerParts t

theorem State.disable_flagged : s.Flagged false s.disable := by
  have only : s.OnlyIn chargerParts s.disable := .of_charger s.disable_frame
  by_cases off : s.pch.state = .off
  · have stays : s.disable = ({ s with pch.enable := false } : State).penNotice := (s.disable_eq).trans (if_pos off)
    rw [stays] at only ⊢
    exact ⟨rfl, .refl _, id, (State.notice_handsOver { s with pch.enable := false } _).left rfl rfl rfl, only⟩
  · have goes : s.disable = s.switchedOff.handLimit.penNotice := (s.disable_eq).trans (if_neg off)
    have limited : s.spm.LimitedAtMost s.switchedOff.handLimit.spm :=
      Spm.LimitedAtMost.trans (q := s.switchedOff.spm) (State.toCharger_limited { s with pch.enable := false } .off)
        s.switchedOff.handLimit_limited
    have enters : s.HandsOver (({ s with pch.enable := false } : State).toCharger .off) :=
      (State.toCharger_handsOver { s with pch.enable := false } .off).left rfl rfl rfl
    have enters : s.HandsOver s.switchedOff := enters.trans (.of_eq (t := s.switchedOff) rfl rfl rfl)
    have handed : s.switchedOff.HandsOver s.switchedOff.handLimit := s.switchedOff.rebudget_handsOver _
    have hands : s.HandsOver s.switchedOff.handLimit.penNotice :=
      enters.trans (handed.trans (s.switchedOff.handLimit.notice_handsOver _))
    have flag : s.switchedOff.handLimit.pch.enable = false :=
      (State.rebudget_offAlike s.switchedOff _).1.trans (State.toCharger_keepsFlag { s with pch.enable := false } .off).1
    rw [goes] at only ⊢
    exact ⟨flag, limited, fun _ => s.switchedOff.handLimit_claims, hands, only⟩

theorem State.enableCharging_flagged : s.Flagged true s.enableCharging := by
  have only : s.OnlyIn chargerParts s.enableCharging := .of_charger s.enableCharging_frame
  let u : State := { s with pch.enable := true }
  by_cases waits : s.pch.state = .off ∧ s.pch.pen.isSome = true
  · have goes : s.enableCharging = u.waitFromOff := (s.enableCharging_eq).trans (if_pos waits)
    rw [goes] at only ⊢
    exact ⟨u.waitFromOff_enable, u.waitFromOff_limited, u.waitFromOff_claims, u.waitFromOff_handsOver.left rfl rfl rfl, only⟩
  · have stays : s.enableCharging = u := (s.enableCharging_eq).trans (if_neg waits)
    rw [stays] at only ⊢
    exact ⟨rfl, .refl _, id, .of_eq rfl rfl rfl, only⟩

/-- R151: what disabling clears. -/
theorem State.disable_clears (on : s.pch.state ≠ .off) :
    let t := s.disable
    t.pch.state = .off ∧ t.pch.faultReason = none ∧ t.pch.faultCode = none ∧ t.pch.attempts = 0 ∧ t.pch.overcurrent = 0 ∧
    t.pch.timeouts = 0 ∧ t.pch.waiting = none ∧ t.pch.driver.running = false ∧
    t.pch.pen = s.pch.pen.map fun p => { p with stage := none } := by
  have goes : s.disable = s.switchedOff.handLimit.penNotice := (s.disable_eq).trans (if_neg on)
  obtain ⟨state, running, _⟩ := State.toCharger_rests { s with pch.enable := false } (c := .off) (.inl rfl)
  have pen := (State.toCharger_keepsSleep { s with pch.enable := false } .off).1
  obtain ⟨⟨q, pch, _⟩, _⟩ := State.handLimit_settles (s := s.switchedOff) (.inl state)
  have record : s.disable.pch = { s.switchedOff.pch with pauses := q } := (congrArg State.pch goes).trans pch
  intro t
  rw [show t.pch = _ from record]
  exact ⟨state, rfl, rfl, rfl, rfl, rfl, rfl, running, congrArg (Option.map _) pen⟩

theorem State.enableCharging_waits (off : s.pch.state = .off) (present : s.pch.pen.isSome = true) :
    s.enableCharging.pch.attempts = 0 ∧
    s.enableCharging.pch.state = if s.enableCharging.pch.pauses.none then .wait else .paused := by
  have goes : s.enableCharging = ({ s with pch.enable := true } : State).waitFromOff := (s.enableCharging_eq).trans (if_pos ⟨off, present⟩)
  rw [goes]
  exact State.waitFromOff_goes _

/-! ### The request -/

/-- R164: the system cap in force, at most 1000, with its claim. -/
def State.capped (cap : Nat) : State := s.rebudget { s.spm with cap := min cap 1000 }

theorem State.chargeControl_same {enable : Bool} (cap : Nat) (same : s.pch.enable = enable) : s.chargeControl enable cap = s.capped cap := by
  have flag : (s.rebudget { s.spm with cap := min cap 1000 }).pch.enable = enable := (s.rebudget_offAlike _).1.trans same
  unfold State.chargeControl
  dsimp only
  rw [flag]
  cases enable <;> rfl

theorem State.chargeControl_disables (cap : Nat) (on : s.pch.enable = true) : s.chargeControl false cap = (s.capped cap).disable := by
  have flag : (s.rebudget { s.spm with cap := min cap 1000 }).pch.enable = true := (s.rebudget_offAlike _).1.trans on
  unfold State.chargeControl
  dsimp only
  rw [flag]
  rfl

theorem State.chargeControl_enables (cap : Nat) (disabled : s.pch.enable = false) :
    s.chargeControl true cap = (s.capped cap).enableCharging := by
  have flag : (s.rebudget { s.spm with cap := min cap 1000 }).pch.enable = false := (s.rebudget_offAlike _).1.trans disabled
  unfold State.chargeControl
  dsimp only
  rw [flag]
  rfl

/-- R151, R164, R165: the cap in force and the flag as it is asked for. -/
structure State.Controlled (s : State) (enable : Bool) (cap : Nat) (t : State) : Prop where
  cap : t.spm.cap = min cap 1000
  supply : t.spm.supply = s.spm.supply
  latchClaim : t.spm.latchClaim = s.spm.latchClaim
  claim : t.spm.penClaim = min t.spm.stageLimit (min t.spm.supply t.spm.cap - t.spm.latchClaim)
  flag : t.pch.enable = enable
  hands : s.HandsOver t
  only : s.OnlyIn chargerParts t

theorem State.capped_follows (cap : Nat) : ({ s.spm with cap := min cap 1000 } : Spm).LimitedAtMost (s.capped cap).spm ∧
    (s.capped cap).spm.Claims := ⟨(s.rebudget_spm _).limited, (s.rebudget_spm _).claims⟩

variable {s}

/-- What follows the cap sets the flag and leaves the cap. -/
theorem State.Flagged.controlled {t : State} {enable : Bool} {cap : Nat} (h : (s.capped cap).Flagged enable t) :
    s.Controlled enable cap t := by
  obtain ⟨limited, claims⟩ := s.capped_follows cap
  have spm := limited.trans h.spm
  unfold Spm.LimitedAtMost at spm
  have fields : t.spm.cap = min cap 1000 ∧ t.spm.supply = s.spm.supply ∧ t.spm.latchClaim = s.spm.latchClaim := by
    refine ⟨?_, ?_, ?_⟩ <;> rw [spm]
  obtain ⟨capped, supply, latchClaim⟩ := fields
  exact ⟨capped, supply, latchClaim, h.claims claims, h.flag, (s.rebudget_handsOver _).trans h.hands,
    (State.rebudgetBy_onlyIn _ State.toCharger_onlyIn s _).trans h.only⟩

theorem State.capped_flagged (cap : Nat) {enable : Bool} (same : s.pch.enable = enable) : (s.capped cap).Flagged enable (s.capped cap) :=
  ⟨(s.rebudget_offAlike _).1.trans same, .refl _, id, .of_eq rfl rfl rfl, .refl _ _⟩

theorem State.chargeControl_controlled (enable : Bool) (cap : Nat) : s.Controlled enable cap (s.chargeControl enable cap) := by
  by_cases same : s.pch.enable = enable
  · rw [s.chargeControl_same cap same]
    exact (State.capped_flagged cap same).controlled
  · cases enable with
    | false =>
      rw [s.chargeControl_disables cap (by simpa using same)]
      exact (s.capped cap).disable_flagged.controlled
    | true =>
      rw [s.chargeControl_enables cap (by simpa using same)]
      exact (s.capped cap).enableCharging_flagged.controlled

theorem State.chargeControl_clears (cap : Nat) (enabled : s.pch.enable = true) (on : s.pch.state ≠ .off) :
    let t := s.chargeControl false cap
    t.pch.state = .off ∧ t.pch.faultReason = none ∧ t.pch.faultCode = none ∧ t.pch.attempts = 0 ∧ t.pch.overcurrent = 0 ∧
    t.pch.timeouts = 0 ∧ t.pch.waiting = none ∧ t.pch.driver.running = false ∧
    t.pch.pen = s.pch.pen.map fun p => { p with stage := none } := by
  have pen : (s.capped cap).pch.pen = s.pch.pen := (State.rebudgetBy_keepsSleep _ State.toCharger_keepsSleep s _).1
  rw [s.chargeControl_disables cap enabled, ← pen]
  exact (s.capped cap).disable_clears fun off => on ((s.rebudget_offAlike _).2.mp off)

theorem State.chargeControl_waits (cap : Nat) (disabled : s.pch.enable = false) (off : s.pch.state = .off)
    (present : s.pch.pen.isSome = true) :
    (s.chargeControl true cap).pch.attempts = 0 ∧
    (s.chargeControl true cap).pch.state = if (s.chargeControl true cap).pch.pauses.none then .wait else .paused := by
  have pen : (s.capped cap).pch.pen = s.pch.pen := (State.rebudgetBy_keepsSleep _ State.toCharger_keepsSleep s _).1
  rw [s.chargeControl_enables cap disabled]
  exact (s.capped cap).enableCharging_waits ((s.rebudget_offAlike _).2.mpr off) (by rw [pen]; exact present)

end

section
variable {s : State} {rest : List DownFrame} {e lo hi : Byte}

theorem exec_chargeControl (offered : s.offers ⟨0x48, [e, lo, hi]⟩ rest) :
    exec .chargeControl s = .next ((s.taken rest).chargeRequest ⟨0x48, [e, lo, hi]⟩) :=
  congrArg Host.Outcome.next (State.carryOut_mine offered rfl)

theorem State.chargeRequest_refused (off : e ≠ 0) (on : e ≠ 1) :
    s.chargeRequest ⟨0x48, [e, lo, hi]⟩ = s.replied 0x48 .badValue [] := if_neg (by rintro (h | h); exact off h; exact on h)

theorem State.chargeRequest_eq (named : e = 0 ∨ e = 1) :
    s.chargeRequest ⟨0x48, [e, lo, hi]⟩ = (s.replied 0x48 .ok []).chargeControl (e == 1) (lo.toNat + 256 * hi.toNat) := if_pos named

end

/-- Settles O48: the cap by what the budget record follows, then the flag that stands, disabling or enabling. -/
theorem chargeControlSetsCapThenEnable : Obligations.ChargeControlSetsCapThenEnable := by
  unfold Obligations.ChargeControlSetsCapThenEnable
  intro s rest e lo hi offered capped
  let u : State := (s.taken rest).replied 0x48 .ok []
  let cap := lo.toNat + 256 * hi.toNat
  have goes (named : e = 0 ∨ e = 1) : exec .chargeControl s = .next (u.chargeControl (e == 1) cap) :=
    (exec_chargeControl offered).trans (congrArg _ (State.chargeRequest_eq named))
  refine ⟨fun off on => (exec_chargeControl offered).trans (congrArg _ (State.chargeRequest_refused off on)), fun same named => ?_,
    fun named => ?_⟩
  · exact (goes named).trans (congrArg _ (u.chargeControl_same cap same))
  · obtain ⟨capped, supply, latchClaim, claim, flag, hands, only⟩ := State.chargeControl_controlled (s := u) (e == 1) cap
    have before : s.OnlyIn [.upq, .slk] u := State.OnlyIn.taken.trans (State.OnlyIn.answered.mono (by decide))
    have stands : s.TablesStand (u.chargeControl (e == 1) cap) := hands.swaps.tables
    refine ⟨_, goes named, capped, supply, latchClaim, claim, by rw [flag]; exact beq_iff_eq,
      hands.replies _ (List.mem_append_right _ (List.mem_singleton_self _)), ?_, ?_, stands,
      (before.mono (by decide)).trans (only.mono (by decide))⟩
    · rintro rfl enabled on
      exact State.chargeControl_clears (s := u) cap enabled on
    · rintro rfl disabled off present
      exact State.chargeControl_waits (s := u) cap disabled off present

end Sys2Proof.Machine
end

section
/-!
PROOFS. The period boundary of the coil driver (R129 to R131, R135): what waits for it is made, blanking is granted at it, and the CHARGE
swap comes with it; then the statement about them (O32).
-/

namespace Sys2Proof.Machine

/-! ### An entry and a change of stage, before the limit is handed on -/

/-- R142: the entry to CHARGE at a stage. -/
def State.entryMade (s : State) (stage : Nat) : State :=
  let t := s.toCharger .charge
  { t with
    pch.pen := t.pch.pen.map fun (p : PenRecord) => { p with stage := some stage }
    pch.stageTimer := s.stageTimerFor stage
    pch.packetTimer := some (.start s.chg.packetTimeout)
    pch.attempts := 0, pch.overcurrent := 0, pch.timeouts := 0, pch.waiting := none }

/-- R143: the change of stage. -/
def State.changeMade (s : State) (stage : Nat) : State :=
  { s with
    pch.pen := s.pch.pen.map fun (p : PenRecord) => { p with stage := some stage }
    pch.stageTimer := s.stageTimerFor stage
    pch.overcurrent := 0, pch.waiting := none }

/-! ### A driver that blanking holds, or will hold -/

/-- R128, R130: blanking that is in force holds the driver still, and a driver that stands still has period number 0. -/
structure State.Barred (s : State) (b : Blanking) : Prop where
  blanking : s.pch.blanking = b
  halted : b = .inForce → s.pch.driver.running = false
  still : s.pch.driver.running = false → s.pch.driver.periodNo = 0

/-- R135: besides, the CHARGE table awaits swap only while the driver runs. -/
structure State.Gated (s : State) (b : Blanking) : Prop extends s.Barred b where
  swap : s.tables.charge.awaiting = true → s.pch.driver.running = true

section
variable {b : Blanking} {s t : State}

theorem State.Gated.of_eq (h : s.Gated b) (driver : t.pch.driver = s.pch.driver) (blanking : t.pch.blanking = s.pch.blanking)
    (tables : t.tables = s.tables) : t.Gated b := by
  obtain ⟨⟨is, halted, still⟩, swap⟩ := h
  exact ⟨⟨blanking.trans is, by rw [driver]; exact halted, by rw [driver]; exact still⟩, by rw [driver, tables]; exact swap⟩

/-- R11: a departure from DATA leaves blanking that is requested or in force. -/
theorem State.capture_blanking (held : s.pch.blanking ≠ .idle) (m : CaptureMode) : (s.capture m).pch.blanking = s.pch.blanking := by
  rcases s.capture_cases m with ⟨_, e⟩ | ⟨_, e⟩ <;> rw [e]
  rcases ({ s with bcd := s.bcd.cleared m } : State).dataLeft_cases with ⟨_, e⟩ | ⟨_, e⟩ <;> rw [e]
  exact if_neg held

theorem State.enterCharger_blanking (held : s.pch.blanking ≠ .idle) (c : ChargerState) :
    (s.enterCharger c).pch.blanking = s.pch.blanking := by
  have settled : ({ s.pch with state := c } : Pch).settle.blanking = s.pch.blanking := by rw [Pch.settle_eq]
  rcases s.enterCharger_cases c with ⟨_, _, e⟩ | ⟨_, e⟩ <;> rw [e]
  · rw [State.capture_blanking]
    · exact settled
    · change ({ s.pch with state := c } : Pch).settle.blanking ≠ .idle
      rw [settled]
      exact held
  · exact settled

/-- R128: a driver that stands still after it has settled has period number 0, if it had it before. -/
theorem Pch.settle_still {p : Pch} (still : p.driver.running = false → p.driver.periodNo = 0)
    (stopped : p.settle.driver.running = false) : p.settle.driver.periodNo = 0 := by
  rcases p.settle_cases with ⟨_, _, runs, e⟩ | ⟨_, _, _, e⟩ | ⟨_, _, e⟩ | ⟨_, rests, e⟩ <;> rw [e] at stopped ⊢
  · simp [runs] at stopped
  · exact absurd stopped (by simp [Driver.start])
  · rfl
  · exact still rests

variable (held : b ≠ .idle)
include held

theorem State.Barred.enterCharger (h : s.Barred b) (c : ChargerState) : (s.enterCharger c).Barred b := by
  have driver := (s.enterCharger_pch c).2
  have blanking : (s.enterCharger c).pch.blanking = b :=
    (State.enterCharger_blanking (by rw [h.blanking]; exact held) c).trans h.blanking
  refine ⟨blanking, fun inForce => ?_, fun stopped => ?_⟩
  · have is : ({ s.pch with state := c } : Pch).blanking = .inForce := h.blanking.trans inForce
    rw [driver, Pch.settle_running, is]
    simp
  · rw [driver] at stopped ⊢
    exact Pch.settle_still h.still stopped

omit held in
/-- R135: with the images moved no table awaits swap; a driver that stands still takes the new values and goes on standing. -/
theorem State.Barred.adopted (h : s.Barred b) (swapped : t.tables.charge.awaiting = false) (blanking : t.pch.blanking = s.pch.blanking)
    {d : Driver} (was : d.running = s.pch.driver.running ∧ d.periodNo = s.pch.driver.periodNo) {period dead duty oldN newN : Nat}
    (driver : t.pch.driver = d.adopt period dead duty oldN newN) : t.Gated b := by
  obtain ⟨ran, number⟩ := was
  have running : t.pch.driver.running = s.pch.driver.running := by
    rw [driver, ← ran]
    unfold Driver.adopt
    dsimp only
    (repeat' split) <;> rfl
  refine ⟨⟨blanking.trans h.blanking, fun inForce => running.trans (h.halted inForce), fun stopped => ?_⟩, fun awaits => ?_⟩
  · have still : s.pch.driver.running = false := running ▸ stopped
    rw [driver, Driver.adopt_stopped (ran.trans still)]
    exact number.trans (h.still still)
  · simp [swapped] at awaits

section
variable {go : State → ChargerState → State} (change : ∀ (u : State) c, u.tables = s.tables → u.Gated b → (go u c).Gated b)
include change

omit held in
theorem State.Gated.setPausesBy (h : s.Gated b) (q : Pauses) : (s.setPausesBy go q).Gated b := by
  rcases s.setPausesBy_cases go q with ⟨_, e⟩ | ⟨_, _, _, e⟩ | ⟨_, _, _, e⟩ | ⟨_, _, _, e⟩ <;> rw [e]
  · exact h
  · exact (change { s with pch := { s.pch.cleared with pauses := q } } .paused rfl (h.of_eq rfl rfl rfl)).of_eq rfl rfl rfl
  · exact (change { s with pch := { s.pch with pauses := q, attempts := 0 } } .wait rfl (h.of_eq rfl rfl rfl)).of_eq rfl rfl rfl
  · exact h.of_eq rfl rfl rfl

omit held in
theorem State.Gated.rebudgetBy (h : s.Gated b) (p : Spm) : (s.rebudgetBy go p).Gated b := by
  rcases s.rebudgetBy_cases go p with ⟨_, _, e⟩ | ⟨_, e⟩ <;> rw [e]
  · exact h.of_eq rfl rfl rfl
  · exact State.Gated.setPausesBy (s := { s with spm := { p with penClaim := p.claim } }) change (h.of_eq rfl rfl rfl) _

end

omit held in
/-- The tables of states that a change of pause reasons passes through are those of its beginning, until a swap. -/
theorem State.Gated.enterCharger (held : b ≠ .idle) (h : s.Gated b) {c : ChargerState}
    (swap : s.tables.charge.awaiting = true → (s.enterCharger c).pch.driver.running = true) : (s.enterCharger c).Gated b :=
  ⟨h.toBarred.enterCharger held c, fun awaits => swap (by simpa using awaits)⟩

/-- The stage limit handed on where no table awaits swap. -/
theorem State.Gated.handLimitBy (h : s.Gated b) (swapped : s.tables.charge.awaiting = false) :
    (s.handLimitBy State.enterCharger).Gated b :=
  State.Gated.rebudgetBy (fun u c tables gated => gated.enterCharger held fun awaits => by simp [tables, swapped] at awaits) h _

theorem State.Gated.swapStopped (h : s.Barred b) : s.swapStopped.Gated b := by
  let t := s.swapTable .charge
  let loaded : State := { t with
    pch := { s.pch with
      stepped := false
      driver := s.pch.driver.adopt t.chg.period t.chg.deadBand (clampNat 0 t.dutyCeiling s.pch.driver.dutyB) s.chg.divider t.chg.divider } }
  have gated : loaded.Gated b := h.adopted rfl rfl ⟨rfl, rfl⟩ rfl
  exact gated.handLimitBy held rfl

theorem State.Gated.toCharger (h : s.Gated b) (c : ChargerState) : (s.toCharger c).Gated b := by
  rcases s.toCharger_cases c with ⟨_, stopped, awaits, e⟩ | ⟨still, e⟩ <;> rw [e]
  · exact State.Gated.swapStopped held (h.toBarred.enterCharger held c)
  · refine h.enterCharger held fun awaits => ?_
    by_contra stopped
    exact still ⟨h.swap awaits, by simpa using stopped, awaits⟩

theorem State.Gated.handLimit (h : s.Gated b) : s.handLimit.Gated b :=
  State.Gated.rebudgetBy (fun _ c _ gated => gated.toCharger held c) h _

theorem State.Gated.makeWaiting (h : s.Gated b) : s.makeWaiting.Gated b := by
  rcases s.makeWaiting_cases with ⟨_, e⟩ | ⟨w, _, _, e⟩ | ⟨w, _, _, e⟩ <;> rw [e]
  · exact h
  · have entered : (s.entryMade w.stage).Gated b := (h.toCharger held .charge).of_eq rfl rfl rfl
    exact (entered.handLimit held).of_eq rfl rfl rfl
  · have staged : (s.changeMade w.stage).Gated b := h.of_eq rfl rfl rfl
    exact (staged.handLimit held).of_eq rfl rfl rfl

theorem State.Gated.swapCharge (h : s.Barred b) : s.swapCharge.Gated b := by
  obtain ⟨pen, timer, driver, rechosen⟩ := s.swapImaged.rechoose_pch
  have was : s.swapImaged.rechoose.pch.driver.running = s.pch.driver.running ∧
      s.swapImaged.rechoose.pch.driver.periodNo = s.pch.driver.periodNo ∧ s.swapImaged.rechoose.pch.blanking = s.pch.blanking := by
    rcases s.swapImaged.rechoose_cases with ⟨_, _, _, _, _, e⟩ | ⟨_, e⟩ <;> rw [e] <;> exact ⟨rfl, rfl, rfl⟩
  obtain ⟨running, number, blanking⟩ := was
  have loaded : s.swapLoaded.Gated b :=
    h.adopted (by rw [s.swapLoaded_tables]; rfl) blanking ⟨running, number⟩ rfl
  rw [s.swapCharge_eq]
  exact (loaded.makeWaiting held).handLimit held

end

/-! ### The grant -/

section
variable {s : State}

/-- R10, R130, R154: the grant before the swap that its stop of the driver may bring. -/
def State.granted (s : State) : State :=
  { s with
    pch := ({ s.pch with blanking := .inForce } : Pch).settle
    cnv.slotS := if s.cnv.slotS = .blankWait then (if s.cnv.slotC = .idle then .scanning else .ready) else s.cnv.slotS
    bcd.edges := if s.bcd.mode = .resonance then 0 else s.bcd.edges
    bcd.startStamp := if s.bcd.mode = .resonance then none else s.bcd.startStamp }

theorem State.grantBlanking_eq (s : State) : s.grantBlanking =
    if (s.pch.driver.running && s.tables.charge.awaiting) = true then s.granted.swapCharge else s.granted := rfl

theorem State.granted_barred (still : s.pch.driver.running = false → s.pch.driver.periodNo = 0) : s.granted.Barred .inForce := by
  have settled : s.granted.pch.driver.running = false := by
    change ({ s.pch with blanking := .inForce } : Pch).settle.driver.running = false
    rw [Pch.settle_running]
    simp
  refine ⟨?_, fun _ => settled, fun _ => Pch.settle_still (p := { s.pch with blanking := .inForce }) still settled⟩
  change ({ s.pch with blanking := .inForce } : Pch).settle.blanking = .inForce
  rw [Pch.settle_eq]

/-- R130, R135: the grant holds the driver still and leaves no CHARGE table that awaits swap. -/
theorem State.Gated.granted {b : Blanking} (h : s.Gated b) :
    s.grantBlanking.Gated .inForce ∧
    s.grantBlanking.tables = if s.tables.charge.awaiting then s.chargeSwapped else s.tables := by
  have barred := State.granted_barred h.still
  rw [s.grantBlanking_eq]
  cases awaits : s.tables.charge.awaiting with
  | true =>
    rw [h.swap awaits]
    exact ⟨State.Gated.swapCharge (by decide) barred, s.granted.swapCharge_swapsCharge.tables⟩
  | false =>
    rw [Bool.and_false]
    exact ⟨⟨barred, fun swap => by simp [State.granted, awaits] at swap⟩, rfl⟩

/-- R142, R143: what waits is made with the tables as they are, but for the swap that a pause may bring. -/
theorem State.makeWaiting_swapsAtMost (s : State) : s.SwapsAtMost s.makeWaiting := by
  rcases s.makeWaiting_cases with ⟨_, e⟩ | ⟨w, _, _, e⟩ | ⟨w, _, _, e⟩ <;> rw [e]
  · exact .of_eq rfl rfl
  · have entered : s.SwapsAtMost (s.entryMade w.stage) := (s.toCharger_swapsAtMost .charge).right rfl rfl
    exact entered.trans (State.limitNoticed_swapsAtMost _)
  · have staged : s.SwapsAtMost (s.changeMade w.stage) := .of_eq rfl rfl
    exact staged.trans (State.limitNoticed_swapsAtMost _)

theorem State.boundary_tablesStand (s : State) : s.TablesStand s.boundary := by
  unfold State.boundary
  split
  · rename_i swaps
    exact .inr ⟨swaps.1, s.swapCharge_swapsCharge.tables⟩
  · exact (State.makeWaiting_swapsAtMost { s with pch.driver := s.pch.driver.boundary s.chg.divider }).tables

/-- R129, R131, R135: the boundary, where a swap comes only with the step that it waits for. -/
theorem State.boundary_gated (runs : s.pch.driver.running = true) (requested : s.pch.blanking = .requested) : s.boundary.Gated .requested := by
  have barred : s.Barred .requested := ⟨requested, fun h => by simp at h, fun stopped => by simp [runs] at stopped⟩
  unfold State.boundary
  split
  · exact State.Gated.swapCharge (by decide) barred
  · let loaded : State := { s with pch.driver := s.pch.driver.boundary s.chg.divider }
    have gated : loaded.Gated .requested := ⟨⟨requested, fun h => by simp at h, fun stopped => absurd (runs.symm.trans stopped) (by decide)⟩,
      fun _ => runs⟩
    exact gated.makeWaiting (by decide)

/-- R130: a boundary at which blanking is requested grants it. -/
theorem State.periodBoundary_grants (runs : s.pch.driver.running = true) (requested : s.pch.blanking = .requested) :
    let t := s.periodBoundary
    t.pch.blanking = .inForce ∧ t.pch.driver.running = false ∧ t.pch.driver.periodNo = 0 ∧
    t.tables = if s.tables.charge.awaiting then s.chargeSwapped else s.tables := by
  have gated := State.boundary_gated runs requested
  have goes : s.periodBoundary = s.boundary.grantBlanking := if_pos gated.blanking
  obtain ⟨⟨⟨blanking, halted, still⟩, _⟩, tables⟩ := gated.granted
  have stopped := halted rfl
  rw [goes]
  refine ⟨blanking, stopped, still stopped, ?_⟩
  rw [tables]
  rcases s.boundary_tablesStand with same | ⟨awaits, swapped⟩
  · rw [State.chargeSwapped, same, State.chargeSwapped]
  · rw [State.chargeSwapped, swapped, if_pos awaits]
    rfl

end

end Sys2Proof.Machine
end

section
/-!
PROOFS. What waits for a period boundary is made there (R142, R143): the stage, the limit, and the charger's state while no reason pauses
it; then the statement about the boundary and the CHARGE swap (O32).
-/

namespace Sys2Proof.Machine

/-! ### The entry and the change -/

/-- R165: the pen claim that a stage's limit gives. -/
def State.claimAt (s : State) (stage : Nat) : Nat :=
  min (s.stage stage).currentLimit (min s.spm.supply s.spm.cap - s.spm.latchClaim)

/-- R142, R143: what waits is made, before its limit is handed on. -/
structure State.MadeAt (s : State) (w : Waiting) (m : State) : Prop where
  pen : m.pch.pen = s.pch.pen.map fun p => { p with stage := some w.stage }
  overcurrent : m.pch.overcurrent = 0
  waiting : m.pch.waiting = none
  pauses : m.pch.pauses = s.pch.pauses
  blanking : m.pch.blanking = s.pch.blanking
  effect : ∀ period dead duty, s.pch.driver.InEffect period dead duty → m.pch.driver.InEffect period dead duty
  counts : w.entry = true → m.pch.attempts = 0 ∧ m.pch.timeouts = 0
  state : m.pch.state = if w.entry then .charge else s.pch.state
  stageTimer : m.pch.stageTimer = s.stageTimerFor w.stage
  packetTimer : w.entry = true → m.pch.packetTimer = some ⟨0, s.chg.packetTimeout⟩
  tables : m.tables = s.tables
  spm : m.spm = s.spm
  only : s.OnlyIn [.pch] m

section
variable {s : State}

/-- R128, R135: an entry to CHARGE stops no driver but one that blanking holds. -/
theorem State.toCharger_charge (free : s.tables.charge.awaiting = true → s.pch.blanking ≠ .inForce) :
    s.toCharger .charge = { s with pch := ({ s.pch with state := .charge } : Pch).settle } := by
  have entered : s.enterCharger .charge = { s with pch := ({ s.pch with state := .charge } : Pch).settle } := by
    rcases s.enterCharger_cases .charge with ⟨_, stops, _⟩ | ⟨_, e⟩
    · exact absurd stops (by decide)
    · exact e
  rcases s.toCharger_cases .charge with ⟨_, stopped, awaits, _⟩ | ⟨_, e⟩
  · rw [entered, Pch.settle_running] at stopped
    simp [ChargerState.drives, free awaits] at stopped
  · exact e.trans entered

theorem State.entryMade_madeAt {w : Waiting} (entry : w.entry = true)
    (free : s.tables.charge.awaiting = true → s.pch.blanking ≠ .inForce) : s.MadeAt w (s.entryMade w.stage) := by
  have made : s.entryMade w.stage = { s with pch := { s.pch with
      state := .charge, driver := ({ s.pch with state := .charge } : Pch).settle.driver
      pen := s.pch.pen.map fun (p : PenRecord) => { p with stage := some w.stage }
      stageTimer := s.stageTimerFor w.stage, packetTimer := some (.start s.chg.packetTimeout)
      attempts := 0, overcurrent := 0, timeouts := 0, waiting := none } } := by
    unfold State.entryMade
    rw [State.toCharger_charge free, Pch.settle_eq]
  rw [made]
  refine ⟨rfl, rfl, rfl, rfl, rfl, fun _ _ _ inEffect => ?_, fun _ => ⟨rfl, rfl⟩, by rw [if_pos entry], rfl, fun _ => rfl, rfl, rfl, ?_⟩
  · exact Pch.settle_inEffect (p := { s.pch with state := .charge }) inEffect
  · intro p outside
    cases p <;> first | rfl | exact absurd (by decide) outside

theorem State.changeMade_madeAt {w : Waiting} (change : w.entry = false) : s.MadeAt w (s.changeMade w.stage) := by
  refine ⟨rfl, rfl, rfl, rfl, rfl, fun _ _ _ => id, fun entry => by simp [change] at entry, by rw [change]; rfl, rfl,
    fun entry => by simp [change] at entry, rfl, rfl, ?_⟩
  intro p outside
  cases p <;> first | rfl | exact absurd (by decide) outside

/-! ### The limit handed on -/

/-- R147: no reason holds, and the claim raises none. -/
def State.Unpaused (s : State) : Prop := s.pch.pauses.none = true ∧ 10 ≤ (s.spm.withLimit s.limitInForce).penClaim

/-- R147: a claim that raises no reason, where none holds, leaves the reasons. -/
theorem Pauses.forClaim_none {p : Pauses} (none : p.none = true) {claim : Nat} (enough : 10 ≤ claim) (latched : Bool) :
    p.forClaim claim latched = p := by
  have low : ¬claim < 10 := Nat.not_lt.mpr enough
  obtain ⟨thermal, budget, latch, supply, sleep⟩ := p
  simp only [Pauses.none, Bool.not_eq_true', Bool.or_eq_false_iff] at none
  simp [Pauses.forClaim, low, none]

/-- R147, R165: where no reason is raised the limit is handed on and nothing more happens. -/
theorem State.handLimit_unpaused (unpaused : s.Unpaused) : s.handLimit = s.limited := by
  rcases s.rebudgetBy_cases State.toCharger { s.spm with stageLimit := s.limitInForce } with ⟨_, _, e⟩ | ⟨_, e⟩
  · exact e
  · have moves : s.handLimit = s.limited.setPauses
        (s.pch.pauses.forClaim (s.spm.withLimit s.limitInForce).penClaim (decide (0 < s.spm.latchClaim))) := e
    rw [moves, Pauses.forClaim_none unpaused.1 unpaused.2]
    exact if_pos rfl

/-- What the limit leaves of what was made: no table awaits swap, or no reason is raised. -/
structure State.LimitHanded (m t : State) : Prop where
  pen : t.pch.pen = m.pch.pen
  waiting : m.pch.waiting = none → t.pch.waiting = none
  overcurrent : t.pch.overcurrent = m.pch.overcurrent
  timeouts : t.pch.timeouts = m.pch.timeouts
  attempts : m.pch.state ≠ .paused → t.pch.attempts = m.pch.attempts
  effect : ∀ period dead duty, m.pch.driver.InEffect period dead duty → t.pch.driver.InEffect period dead duty
  spm : t.spm = m.spm.withLimit m.limitInForce
  tables : t.tables = m.tables
  unpaused : m.Unpaused → t = m.limited

theorem State.handLimit_handed (calm : s.tables.charge.awaiting = false ∨ s.Unpaused) : s.LimitHanded s.handLimit := by
  rcases calm with swapped | unpaused
  · obtain ⟨keeps, repaused, spm⟩ := State.handLimit_spec swapped
    obtain ⟨overcurrent, timeouts⟩ := repaused.counts
    exact ⟨repaused.pen, repaused.waiting, overcurrent, timeouts, repaused.attempts, keeps.effect, spm, keeps.tables,
      State.handLimit_unpaused⟩
  · rw [State.handLimit_unpaused unpaused]
    exact ⟨rfl, id, rfl, rfl, fun _ => rfl, fun _ _ _ => id, rfl, rfl, fun _ => rfl⟩

/-! ### What waits, made -/

/-- R129, R142, R143: the entry or the change as it is left, but for the driver. -/
structure State.Made (s : State) (w : Waiting) (t : State) : Prop where
  pen : t.pch.pen = s.pch.pen.map fun p => { p with stage := some w.stage }
  overcurrent : t.pch.overcurrent = 0
  waiting : t.pch.waiting = none
  counts : w.entry = true → t.pch.attempts = 0 ∧ t.pch.timeouts = 0
  limit : s.pch.pen.isSome = true → t.spm.stageLimit = (s.stage w.stage).currentLimit ∧ t.spm.penClaim = s.claimAt w.stage
  goesOn : s.pch.pen.isSome = true → s.pch.pauses.none = true → 10 ≤ s.claimAt w.stage →
    t.pch.state = (if w.entry then .charge else s.pch.state) ∧ t.pch.stageTimer = s.stageTimerFor w.stage ∧
    (w.entry = true → t.pch.packetTimer = some ⟨0, s.chg.packetTimeout⟩)
  tables : t.tables = s.tables
  only : s.OnlyIn [.cnv, .pch, .bcd, .spm, .upq] t

theorem State.MadeAt.limit {w : Waiting} {m : State} (made : s.MadeAt w m) (present : s.pch.pen.isSome = true) :
    m.limitInForce = (s.stage w.stage).currentLimit ∧ (m.spm.withLimit m.limitInForce).penClaim = s.claimAt w.stage := by
  obtain ⟨p, pen⟩ := Option.isSome_iff_exists.mp present
  have limit : m.limitInForce = (s.stage w.stage).currentLimit := by
    rw [State.limitInForce, made.pen, pen, (State.chargeReads_of_tables made.tables).2.1]
    rfl
  refine ⟨limit, ?_⟩
  rw [limit, made.spm]
  rfl

theorem State.makeWaiting_frame_of (s : State) (tables : s.makeWaiting.tables = s.tables) :
    s.OnlyIn [.cnv, .pch, .bcd, .spm, .upq] s.makeWaiting := by
  have only : s.OnlyIn chargerParts s.makeWaiting := .of_charger s.makeWaiting_frame
  intro p outside
  cases p
  case tables => exact tables
  all_goals exact only _ (by revert outside; decide)

theorem State.MadeAt.made {w : Waiting} {m : State} (made : s.MadeAt w m)
    (calm : s.tables.charge.awaiting = false ∨
      (s.pch.pen.isSome = true ∧ s.pch.pauses.none = true ∧ 10 ≤ s.claimAt w.stage))
    (goes : s.makeWaiting = m.handLimit.penNotice) :
    s.Made w s.makeWaiting ∧
    (∀ period dead duty, s.pch.driver.InEffect period dead duty → s.makeWaiting.pch.driver.InEffect period dead duty) ∧
    (s.pch.pen.isSome = true ∧ s.pch.pauses.none = true ∧ 10 ≤ s.claimAt w.stage →
      s.makeWaiting.pch.blanking = s.pch.blanking) := by
  have unpaused (free : s.pch.pen.isSome = true ∧ s.pch.pauses.none = true ∧ 10 ≤ s.claimAt w.stage) : m.Unpaused := by
    obtain ⟨present, none, enough⟩ := free
    exact ⟨by rw [made.pauses]; exact none, by rw [(made.limit present).2]; exact enough⟩
  have handed := State.handLimit_handed (calm.imp (fun swapped => by rw [made.tables]; exact swapped) unpaused)
  have tables : s.makeWaiting.tables = s.tables := by rw [goes]; exact handed.tables.trans made.tables
  have only := s.makeWaiting_frame_of tables
  rw [goes] at only tables ⊢
  refine ⟨⟨handed.pen.trans made.pen, handed.overcurrent.trans made.overcurrent, handed.waiting made.waiting, fun entry => ?_,
    fun present => ?_, fun present none enough => ?_, tables, only⟩, fun _ _ _ inEffect => handed.effect _ _ _ (made.effect _ _ _ inEffect),
    fun free => ?_⟩
  · obtain ⟨attempts, timeouts⟩ := made.counts entry
    have charge : m.pch.state ≠ .paused := by
      rw [made.state, if_pos entry]
      decide
    exact ⟨(handed.attempts charge).trans attempts, handed.timeouts.trans timeouts⟩
  · obtain ⟨limit, claim⟩ := made.limit present
    exact ⟨(congrArg Spm.stageLimit handed.spm).trans limit, (congrArg Spm.penClaim handed.spm).trans claim⟩
  · have stays := handed.unpaused (unpaused ⟨present, none, enough⟩)
    rw [stays]
    exact ⟨made.state, made.stageTimer, made.packetTimer⟩
  · rw [handed.unpaused (unpaused free)]
    exact made.blanking

/-- R142, R143: the entry or the change that waits is made, where the CHARGE table cannot be swapped on the way. -/
theorem State.makeWaiting_made {w : Waiting} (waits : s.pch.waiting = some w)
    (free : s.tables.charge.awaiting = true → s.pch.blanking ≠ .inForce)
    (calm : s.tables.charge.awaiting = false ∨
      (s.pch.pen.isSome = true ∧ s.pch.pauses.none = true ∧ 10 ≤ s.claimAt w.stage)) :
    s.Made w s.makeWaiting ∧
    (∀ period dead duty, s.pch.driver.InEffect period dead duty → s.makeWaiting.pch.driver.InEffect period dead duty) ∧
    (s.pch.pen.isSome = true ∧ s.pch.pauses.none = true ∧ 10 ≤ s.claimAt w.stage →
      s.makeWaiting.pch.blanking = s.pch.blanking) := by
  rcases s.makeWaiting_cases with ⟨quiet, _⟩ | ⟨v, is, entry, e⟩ | ⟨v, is, change, e⟩
  · simp [waits] at quiet
  · obtain rfl : w = v := Option.some.inj (waits.symm.trans is)
    exact (State.entryMade_madeAt entry free).made calm e
  · obtain rfl : w = v := Option.some.inj (waits.symm.trans is)
    exact (State.changeMade_madeAt change).made calm e

/-- R130: the grant behind it touches the driver, the blanking and the converter. -/
theorem State.Made.granted {w : Waiting} {t : State} (made : s.Made w t) (swapped : t.tables.charge.awaiting = false) :
    s.Made w t.grantBlanking ∧ t.grantBlanking.pch.driver.duty = t.pch.driver.duty := by
  have goes : t.grantBlanking = t.granted := by
    rw [t.grantBlanking_eq, swapped, Bool.and_false]
    rfl
  have settled : t.granted.pch = { t.pch with
      blanking := .inForce, driver := ({ t.pch with blanking := .inForce } : Pch).settle.driver } :=
    Pch.settle_eq { t.pch with blanking := .inForce }
  have duty : ({ t.pch with blanking := .inForce } : Pch).settle.driver.duty = t.pch.driver.duty := by
    rcases ({ t.pch with blanking := .inForce } : Pch).settle_cases with ⟨_, other, _⟩ | ⟨_, other, _⟩ | ⟨_, _, e⟩ | ⟨_, _, e⟩
    · exact absurd rfl other
    · exact absurd rfl other
    · rw [e]
      rfl
    · rw [e]
  have only : t.OnlyIn [.cnv, .pch, .bcd] t.granted := by
    intro p outside
    cases p <;> first | rfl | exact absurd (by decide) outside
  rw [goes]
  refine ⟨⟨?_, ?_, ?_, ?_, made.limit, ?_, made.tables, made.only.trans (only.mono (by decide))⟩, ?_⟩ <;> rw [settled]
  · exact made.pen
  · exact made.overcurrent
  · exact made.waiting
  · exact made.counts
  · exact made.goesOn
  · exact duty

/-- R129: the buffered values in effect, and the period number on its way. -/
def State.atBoundary (s : State) : State := { s with pch.driver := s.pch.driver.boundary s.chg.divider }

theorem State.boundary_quiet (noSwap : ¬(s.tables.charge.awaiting = true ∧ s.pch.stepped = true)) :
    s.boundary = s.atBoundary.makeWaiting := if_neg noSwap

theorem State.periodBoundary_ungranted (clear : s.boundary.pch.blanking ≠ .requested) : s.periodBoundary = s.boundary := if_neg clear

theorem State.periodBoundary_granted (requested : s.boundary.pch.blanking = .requested) : s.periodBoundary = s.boundary.grantBlanking :=
  if_pos requested

/-- Where the entry or the change is made, it is not the CHARGE swap that makes it. -/
def State.MakesAlone (s : State) (w : Waiting) : Prop :=
  s.tables.charge.awaiting = false ∨
    (s.pch.stepped = false ∧ s.pch.blanking ≠ .requested ∧ s.pch.pen.isSome = true ∧ s.pch.pauses.none = true ∧ 10 ≤ s.claimAt w.stage)

theorem State.MakesAlone.calm {w : Waiting} (alone : s.MakesAlone w) :
    s.tables.charge.awaiting = false ∨ (s.pch.pen.isSome = true ∧ s.pch.pauses.none = true ∧ 10 ≤ s.claimAt w.stage) :=
  alone.imp_right fun ⟨_, _, free⟩ => free

/-- R128, R135: a table that awaits swap finds a running driver, which no blanking holds. -/
theorem State.DriverOk.free (ok : s.DriverOk) (awaits : s.tables.charge.awaiting = true) : s.pch.blanking ≠ .inForce := by
  intro inForce
  have runs := ok.swap awaits
  rw [ok.running, inForce] at runs
  simp at runs

/-- R129, R142, R143: at a boundary of the running driver. -/
theorem State.periodBoundary_made (ok : s.DriverOk) {w : Waiting} (waits : s.pch.waiting = some w) (alone : s.MakesAlone w) :
    s.Made w s.periodBoundary ∧ s.periodBoundary.pch.driver.duty = s.pch.driver.dutyB := by
  have noSwap : ¬(s.tables.charge.awaiting = true ∧ s.pch.stepped = true) := by
    rintro ⟨awaits, stepped⟩
    rcases alone with h | ⟨h, _⟩
    · simp [awaits] at h
    · simp [stepped] at h
  have loaded : s.atBoundary.pch.driver.InEffect s.pch.driver.periodB s.pch.driver.deadB s.pch.driver.dutyB :=
    ⟨⟨rfl, rfl⟩, ⟨rfl, rfl⟩, ⟨rfl, rfl⟩⟩
  obtain ⟨made, effect, stays⟩ := State.makeWaiting_made (s := s.atBoundary) waits ok.free alone.calm
  have goes := State.boundary_quiet noSwap
  have loads : s.OnlyIn [.cnv, .pch, .bcd, .spm, .upq] s.atBoundary := by
    intro p outside
    cases p <;> first | rfl | exact absurd (by decide) outside
  have here : s.Made w s.boundary := goes ▸ { made with only := loads.trans made.only }
  have duty : s.boundary.pch.driver.duty = s.pch.driver.dutyB := by
    rw [goes]
    exact (effect _ _ _ loaded).duty.1
  by_cases requested : s.boundary.pch.blanking = .requested
  · rw [State.periodBoundary_granted requested]
    have swapped : s.boundary.tables.charge.awaiting = false := by
      rcases alone with h | ⟨_, other, free⟩
      · rw [here.tables]
        exact h
      · rw [goes, stays free] at requested
        exact absurd requested other
    obtain ⟨granted, same⟩ := here.granted swapped
    exact ⟨granted, same.trans duty⟩
  · rw [State.periodBoundary_ungranted requested]
    exact ⟨here, duty⟩

/-- R142, R143: what waits is made at the boundary of a running driver, and at once while the driver stands still. -/
theorem State.takesUp_made (ok : s.DriverOk) {w : Waiting} (waits : s.pch.waiting = some w) (alone : s.MakesAlone w) :
    let t := if s.pch.driver.running then s.periodBoundary else s.makeWaiting
    s.Made w t ∧ (s.pch.driver.running = true → t.pch.driver.duty = s.pch.driver.dutyB) := by
  dsimp only
  cases runs : s.pch.driver.running with
  | true =>
    obtain ⟨made, duty⟩ := State.periodBoundary_made ok waits alone
    exact ⟨made, fun _ => duty⟩
  | false =>
    exact ⟨(State.makeWaiting_made waits ok.free alone.calm).1, fun h => absurd h (by decide)⟩

/-! ### The commands -/

theorem exec_periodBoundary (runs : s.pch.driver.running = true) : exec .periodBoundary s = .next s.periodBoundary :=
  congrArg Host.Outcome.next (if_pos runs)

theorem exec_blankingGrant (runs : s.pch.driver.running = true) (requested : s.pch.blanking = .requested) :
    exec .blankingGrant s = .next s.periodBoundary := congrArg Host.Outcome.next ((if_pos requested).trans (if_pos runs))

theorem exec_chargeEntry {w : Waiting} (waits : s.pch.waiting = some w) : exec .chargeEntry s =
    .next (if w.entry then (if s.pch.driver.running then s.periodBoundary else s.makeWaiting) else s) := by
  simp only [exec, execChargeEntry, waits]

theorem exec_stageChange {w : Waiting} (waits : s.pch.waiting = some w) : exec .stageChange s =
    .next (if w.entry then s else (if s.pch.driver.running then s.periodBoundary else s.makeWaiting)) := by
  simp only [exec, execStageChange, waits]

theorem exec_waitless (quiet : s.pch.waiting = none) : exec .chargeEntry s = .next s ∧ exec .stageChange s = .next s := by
  simp only [exec, execChargeEntry, execStageChange, quiet, and_self]

theorem exec_chargeSwap (awaits : s.tables.charge.awaiting = true) : exec .chargeSwap s =
    .next (if s.pch.driver.running then (if s.pch.stepped then s.periodBoundary else s) else s.swapCharge) :=
  congrArg Host.Outcome.next (if_pos awaits)

/-! ### The swap with the grant behind it -/

/-- R130, R135: a grant behind the swap touches the driver by a stop alone, the blanking and the converter. -/
theorem State.SwapsCharge.granted {t : State} (swaps : s.SwapsCharge t) : s.SwapsCharge t.grantBlanking := by
  have swapped : t.tables.charge.awaiting = false := by rw [swaps.tables]; rfl
  have goes : t.grantBlanking = t.granted := by
    rw [t.grantBlanking_eq, swapped, Bool.and_false]
    rfl
  have settled : ∃ d, t.granted.pch = { t.pch with blanking := .inForce, driver := d } ∧ d.period = t.pch.driver.period ∧
      d.periodB = t.pch.driver.periodB ∧ d.dead = t.pch.driver.dead ∧ d.deadB = t.pch.driver.deadB ∧
      d.duty = t.pch.driver.duty ∧ d.dutyB = t.pch.driver.dutyB := by
    refine ⟨_, Pch.settle_eq { t.pch with blanking := .inForce }, ?_⟩
    rcases ({ t.pch with blanking := .inForce } : Pch).settle_cases with ⟨_, other, _⟩ | ⟨_, other, _⟩ | ⟨_, _, e⟩ | ⟨_, _, e⟩
    · exact absurd rfl other
    · exact absurd rfl other
    · rw [e]
      exact ⟨rfl, rfl, rfl, rfl, rfl, rfl⟩
    · rw [e]
      exact ⟨rfl, rfl, rfl, rfl, rfl, rfl⟩
  obtain ⟨d, pch, period, periodB, dead, deadB, duty, dutyB⟩ := settled
  rw [goes]
  exact {
    tables := swaps.tables
    reply := swaps.reply
    period := by rw [pch]; exact ⟨period.trans swaps.period.1, periodB.trans swaps.period.2⟩
    dead := by rw [pch]; exact ⟨dead.trans swaps.dead.1, deadB.trans swaps.dead.2⟩
    inEffect := by rw [pch]; exact duty.trans (swaps.inEffect.trans dutyB.symm)
    noneWaits := by rw [pch]; exact swaps.noneWaits
    limit := by rw [pch]; exact swaps.limit
    claim := swaps.claim
    waiting := by
      have chosen : t.granted.chosen = t.chosen := State.chosen_of_battery rfl (by rw [pch])
      intro w p waits present
      rw [pch, chosen]
      dsimp only
      rw [dutyB]
      exact swaps.waiting w p waits present
    ident := by rw [pch]; exact fun quiet ident => dutyB.trans (swaps.ident quiet ident)
    kept := by
      intro p i quiet charge present names within
      rw [pch]
      dsimp only
      rw [dutyB]
      exact swaps.kept p i quiet charge present names within
    chosen := by
      have chosen : t.granted.chosen = t.chosen := State.chosen_of_battery rfl (by rw [pch])
      intro p i quiet charge present names beyond
      rw [pch, chosen]
      dsimp only
      rw [dutyB]
      exact swaps.chosen p i quiet charge present names beyond
    idle := by rw [pch]; exact fun quiet idle => dutyB.trans (swaps.idle quiet idle)
    counts := by rw [pch]; exact swaps.counts }

theorem State.periodBoundary_swaps (awaits : s.tables.charge.awaiting = true) (stepped : s.pch.stepped = true) :
    s.SwapsCharge s.periodBoundary := by
  have goes : s.boundary = s.swapCharge := if_pos ⟨awaits, stepped⟩
  have swaps := s.swapCharge_swapsCharge
  by_cases requested : s.boundary.pch.blanking = .requested
  · rw [State.periodBoundary_granted requested, goes]
    exact swaps.granted
  · rw [State.periodBoundary_ungranted requested, goes]
    exact swaps

end

/-- Settles O32: the boundary by what waits at it, the grant by what it holds still, the swap by `State.SwapsCharge`. -/
theorem boundariesTakeUpWhatWaitsAndSwap : Obligations.BoundariesTakeUpWhatWaitsAndSwap := by
  unfold Obligations.BoundariesTakeUpWhatWaitsAndSwap
  refine ⟨fun s => ⟨fun runs noSwap quiet clear => ?_, fun runs requested => ?_, fun w waits => ?_, exec_waitless,
    fun runs awaits stepped => ?_⟩, fun s awaits => ⟨fun runs unstepped => ?_, fun still => ?_⟩⟩
  · have none : s.atBoundary.makeWaiting = s.atBoundary := by
      rcases s.atBoundary.makeWaiting_cases with ⟨_, e⟩ | ⟨w, is, _⟩ | ⟨w, is, _⟩
      · exact e
      · exact absurd (quiet.symm.trans is) (by simp)
      · exact absurd (quiet.symm.trans is) (by simp)
    have goes : s.boundary = s.atBoundary := (State.boundary_quiet noSwap).trans none
    rw [exec_periodBoundary runs, State.periodBoundary_ungranted (by rw [goes]; exact clear), goes]
    rfl
  · exact ⟨_, exec_periodBoundary runs, exec_blankingGrant runs requested, State.periodBoundary_grants runs requested⟩
  · intro claim made
    have taken (ok : s.DriverOk) (alone : s.MakesAlone w) :
        made (if s.pch.driver.running then s.periodBoundary else s.makeWaiting) := by
      obtain ⟨h, duty⟩ := State.takesUp_made ok waits alone
      exact ⟨h.pen, h.overcurrent, h.waiting, duty, h.counts, h.limit, h.goesOn, h.only⟩
    refine ⟨fun ok alone => ⟨fun entry => ?_, fun change => ?_⟩, fun entry => ⟨?_, fun runs => ?_⟩, fun change => ⟨?_, fun runs => ?_⟩⟩
    · exact ⟨_, (exec_chargeEntry waits).trans (congrArg _ (if_pos entry)), taken ok alone⟩
    · exact ⟨_, (exec_stageChange waits).trans (congrArg _ (if_neg (by simp [change]))), taken ok alone⟩
    · exact (exec_stageChange waits).trans (congrArg _ (if_pos entry))
    · rw [exec_periodBoundary runs, exec_chargeEntry waits, if_pos entry, if_pos runs]
    · exact (exec_chargeEntry waits).trans (congrArg _ (if_neg (by simp [change])))
    · rw [exec_periodBoundary runs, exec_stageChange waits, if_neg (by simp [change]), if_pos runs]
  · rw [exec_periodBoundary runs, exec_chargeSwap awaits, if_pos runs, if_pos stepped]
  · rw [exec_chargeSwap awaits, if_pos runs, if_neg (by simp [unstepped])]
  · cases runs : s.pch.driver.running with
    | false =>
      exact ⟨_, (exec_chargeSwap awaits).trans (congrArg _ (if_neg (by simp [runs]))), s.swapCharge_swapsCharge,
        .of_charger s.swapCharge_frame⟩
    | true =>
      have stepped : s.pch.stepped = true := still.resolve_left (by simp [runs])
      exact ⟨_, (exec_chargeSwap awaits).trans (congrArg _ ((if_pos runs).trans (if_pos stepped))),
        State.periodBoundary_swaps awaits stepped, .of_charger s.periodBoundary_frame⟩

end Sys2Proof.Machine
end

section
/-!
PROOFS. Edges, packets and silence on the back channel (R155, R159 to R161): what a violation leaves by the decoder's state, the packet a
24th bit completes, and the statement about the edges (O37).
-/

namespace Sys2Proof.Machine

/-! ### A return to HUNT -/

/-- R157, R158: the decoder in HUNT, with what it gathered cleared. -/
def State.hunting (u : State) : State :=
  { u with bcd := { u.bcd with decoder := .hunt, ones := 0, bitCount := 0, acc := 0, half := false } }

/-- R11: the return from DATA, with the request that slot S postpones. -/
def State.leftData (u : State) : State :=
  if u.cnv.slotS = .deferring then
    { u.hunting with cnv.slotS := .blankWait, pch.blanking := if u.pch.blanking = .idle then .requested else u.pch.blanking }
  else u.hunting

/-- R160: the queue after one of the pen's counts has risen. -/
def State.saturating (u : State) (old : Option Nat) : Upq := if old = some 254 then u.upq.events [.counterSaturated] else u.upq

/-- R158, R159: what a violation leaves. -/
def State.violated (u : State) : State :=
  if u.bcd.decoder = .data then
    { u.leftData with
      pch.pen := u.pch.pen.map fun p => { p with violation := min (p.violation + 1) 255 }
      upq := u.saturating (u.pch.pen.map PenRecord.violation) }
  else u.hunting

theorem State.hunting_dataLeft (u : State) : ({ u with bcd := u.bcd.toHunt } : State).dataLeft = u.leftData := rfl

/-- R160: a pen's count raised, and told where it reaches 255. -/
theorem State.penCount_eq (u : State) {p : PenRecord} (present : u.pch.pen = some p) (old : Nat) (set : PenRecord → Nat → PenRecord) :
    u.penCount old set = { u with
      pch.pen := some (set p (min (old + 1) 255))
      upq := if old = 254 then u.upq.events [.counterSaturated] else u.upq } := by
  have counts : old + 1 = Config.counterMax ↔ old = 254 := ⟨fun h => Nat.succ.inj h, fun h => congrArg Nat.succ h⟩
  unfold State.penCount
  dsimp only
  by_cases last : old = 254
  · rw [if_pos (counts.mpr last), if_pos last, present]
    rfl
  · rw [if_neg (fun h => last (counts.mp h)), if_neg last, present]
    rfl

theorem State.packetBroken_eq (u : State) : u.packetBroken = { u with
    pch.pen := u.pch.pen.map fun p => { p with violation := min (p.violation + 1) 255 }
    upq := u.saturating (u.pch.pen.map PenRecord.violation) } := by
  cases present : u.pch.pen with
  | none =>
    have stays : u.packetBroken = u := by simp only [State.packetBroken, present]
    rw [stays]
    change u = { u with pch := { u.pch with pen := none } }
    rw [← present]
  | some p =>
    have counts : u.packetBroken = u.penCount p.violation fun q n => { q with violation := n } := by
      simp only [State.packetBroken, present]
    rw [counts, u.penCount_eq present]
    simp [State.saturating]

theorem State.checkFailed_eq (u : State) : u.checkFailed = { u with
    pch.pen := u.pch.pen.map fun p => { p with check := min (p.check + 1) 255 }
    upq := u.saturating (u.pch.pen.map PenRecord.check) } := by
  cases present : u.pch.pen with
  | none =>
    have stays : u.checkFailed = u := by simp only [State.checkFailed, present]
    rw [stays]
    change u = { u with pch := { u.pch with pen := none } }
    rw [← present]
  | some p =>
    have counts : u.checkFailed = u.penCount p.check fun q n => { q with check := n } := by
      simp only [State.checkFailed, present]
    rw [counts, u.penCount_eq present]
    simp [State.saturating]

/-- Leaving DATA touches neither the pen record nor the queue. -/
theorem State.leftData_pen (u : State) : u.leftData.pch.pen = u.pch.pen ∧ u.leftData.upq = u.upq := by
  unfold State.leftData
  split <;> exact ⟨rfl, rfl⟩

theorem State.violation_eq (u : State) : u.violation = u.violated := by
  obtain ⟨pen, upq⟩ := u.leftData_pen
  unfold State.violation State.violated
  dsimp only
  split
  · rw [u.hunting_dataLeft, State.packetBroken_eq, pen, State.saturating, upq]
    rfl
  · rfl

/-- R155: a silence is a violation, after which the reference is absent. -/
theorem State.silence_eq (u : State) : u.silence = { u.violated with bcd.reference := none } := by
  rw [State.silence, State.violation_eq]
  unfold State.violated State.leftData
  dsimp only
  split
  · split <;> rfl
  · rfl

/-! ### The interval an edge ends -/

section
variable {s : State} {stamp r : Stamp}

theorem Stamp.elapsed (stamp r : Stamp) : (stamp - r).toNat = (stamp.toNat + 65536 - r.toNat) % 65536 := by
  rw [BitVec.toNat_sub]
  congr 1
  have := r.isLt
  omega

theorem Bcd.interval_eq {b : Bcd} (reference : b.reference = some r) :
    b.interval stamp = some ((stamp.toNat + 65536 - r.toNat) % 65536) := by
  rw [Bcd.interval, reference, ← Stamp.elapsed]
  rfl

theorem State.edge_first (none : s.bcd.reference = none) : s.edge stamp = { s with bcd.reference := some stamp } := by
  simp only [State.edge, Bcd.interval, none, Option.map_none]

theorem State.edge_judged (reference : s.bcd.reference = some r) (short : (stamp.toNat + 65536 - r.toNat) % 65536 < 626) :
    s.edge stamp = ({ s with bcd.reference := some stamp } : State).takeSymbol
      (symbolOf s.bcd.half (classOf ((stamp.toNat + 65536 - r.toNat) % 65536))) := by
  simp only [State.edge, Bcd.interval_eq reference]
  exact if_neg (Nat.not_le.mpr short)

theorem State.edge_late (reference : s.bcd.reference = some r) (late : 626 ≤ (stamp.toNat + 65536 - r.toNat) % 65536) :
    s.edge stamp = { s.violated with bcd.reference := some stamp } := by
  simp only [State.edge, Bcd.interval_eq reference]
  rw [s.silence_eq]
  exact if_pos late

/-- R156, R157: an interval that gives a bit is below the silence limit. -/
theorem symbolOf_bit_short {mark one : Bool} {n : Nat} (bit : symbolOf mark (classOf n) = .bit one) : n < 626 := by
  by_contra late
  have violation : classOf n = .violation := (if_neg (by omega)).trans (if_neg (by omega))
  rw [violation, symbolOf_violation] at bit
  cases bit

theorem symbolOf_late {mark : Bool} {n : Nat} (late : 626 ≤ n) : symbolOf mark (classOf n) = .violation := by
  have violation : classOf n = .violation := (if_neg (by omega)).trans (if_neg (by omega))
  rw [violation, symbolOf_violation]

end

/-! ### The edge that is no edge, and the one that is taken -/

section
variable {s : State} {c : BciChange} {stamp : Stamp}

theorem State.accepts_iff : s.accepts c = true ↔ c.level ≠ s.pins.bci ∧ 16 ≤ c.held := by
  rw [State.accepts, Bool.and_eq_true, bne_iff_ne, decide_eq_true_iff]
  exact Iff.rfl

theorem State.takesEdges_iff : s.takesEdges = true ↔ s.bcd.mode = .edge ∧ s.pch.blanking ≠ .inForce := by
  simp [State.takesEdges]

/-- R155: a change that the filter does not accept is no edge. -/
theorem exec_edge_rejected (rejected : ¬s.accepts c = true) :
    exec (.bciEdge c stamp) s = .next s ∧ exec (.packetCompletion c stamp) s = .next s ∧
    exec (.packetAbort (.edge c stamp)) s = .next s := by
  have rejected : s.accepts c = false := Bool.eq_false_iff.mpr rejected
  refine ⟨congrArg _ (if_neg ?_), congrArg _ (if_neg ?_), congrArg _ (if_neg ?_)⟩ <;> simp [rejected]

theorem exec_bciEdge_taken (accepted : s.accepts c = true) (takes : s.takesEdges = true) :
    exec (.bciEdge c stamp) s = .next ((s.seeBci c stamp).edge stamp) :=
  congrArg _ ((if_pos accepted).trans (if_pos takes))

theorem exec_bciEdge_seen (accepted : s.accepts c = true) (passes : ¬s.takesEdges = true) :
    exec (.bciEdge c stamp) s = .next (s.seeBci c stamp) :=
  congrArg _ ((if_pos accepted).trans (if_neg passes))

theorem exec_packetCompletion_taken (accepted : s.accepts c = true) (completes : s.completes stamp = true) :
    exec (.packetCompletion c stamp) s = .next ((s.seeBci c stamp).edge stamp) :=
  congrArg _ (if_pos (by simp [accepted, completes]))

theorem exec_packetAbort_taken (accepted : s.accepts c = true) (breaks : s.breaks stamp = true) :
    exec (.packetAbort (.edge c stamp)) s = .next ((s.seeBci c stamp).edge stamp) :=
  congrArg _ (if_pos (by simp [accepted, breaks]))

variable {r : Stamp}

/-- R159: in DATA the edge that gives the 24th bit completes a packet. -/
theorem State.completes_of_bit {one : Bool} (takes : s.takesEdges = true) (reference : s.bcd.reference = some r)
    (fills : s.bcd.decoder = .data) (last : s.bcd.bitCount = 23)
    (bit : symbolOf s.bcd.half (classOf ((stamp.toNat + 65536 - r.toNat) % 65536)) = .bit one) : s.completes stamp = true := by
  simp only [State.completes, Bcd.interval_eq reference, bit]
  simp [takes, fills, last]

/-- R159: in DATA the edge that ends a violating interval breaks the packet. -/
theorem State.breaks_of_violation (takes : s.takesEdges = true) (reference : s.bcd.reference = some r) (fills : s.bcd.decoder = .data)
    (violation : symbolOf s.bcd.half (classOf ((stamp.toNat + 65536 - r.toNat) % 65536)) = .violation) : s.breaks stamp = true := by
  simp only [State.breaks, Bcd.interval_eq reference, violation]
  simp [takes, fills]

theorem State.silent_of_late (mode : s.bcd.mode = .edge) (reference : s.bcd.reference = some r)
    (late : 626 ≤ (stamp.toNat + 65536 - r.toNat) % 65536) : s.silent stamp = true := by
  simp only [State.silent, Bcd.interval_eq reference]
  simp [mode, Config.silenceLimit, late]

end

/-! ### The packet a 24th bit completes -/

/-- R159: the accumulator with a bit placed at the position of the bit count. -/
theorem Bcd.placed_or (b : Bcd) (one : Bool) : b.placed one = b.acc ||| (if one then BitVec.twoPow 24 b.bitCount else 0) := by
  rw [Bcd.placed_eq]
  cases one
  · exact (BitVec.or_zero ..).symm
  · rfl

/-- R159: kind and value are delivered where the check is the complement of their XOR, and the CHECK count rises otherwise. -/
theorem State.complete_eq (u : State) (acc : BitVec 24) :
    u.complete acc =
      if acc.extractLsb' 16 8 = ~~~(acc.extractLsb' 0 8 ^^^ acc.extractLsb' 8 8) then
        u.leftData.deliver (acc.extractLsb' 0 8) (acc.extractLsb' 8 8)
      else u.leftData.checkFailed := by
  have field (start : Nat) : (acc >>> start).truncate 8 = acc.extractLsb' start 8 := BitVec.setWidth_ushiftRight_eq_extractLsb
  have kind : acc.truncate 8 = acc.extractLsb' 0 8 := BitVec.ushiftRight_zero acc ▸ field 0
  unfold State.complete
  dsimp only
  rw [kind, field, field, u.hunting_dataLeft]

theorem State.leftData_ticks (u : State) : u.leftData.ticks = u.ticks := by
  unfold State.leftData
  split <;> rfl

/-- R161: a delivered packet is the last one the capture unit holds, with its time. -/
theorem State.deliver_last (u : State) (kind value : Byte) : (u.deliver kind value).bcd.last = some ⟨kind, value, u.ticks⟩ := by
  rcases u.deliver_offAtMost kind value with e | e <;> rw [e]
  rfl

/-- R157: the half-cell mark is no part of what a departure from DATA leaves. -/
theorem State.leftData_half (u : State) (b : Bool) : ({ u with bcd.half := b } : State).leftData = u.leftData := rfl

/-- R157, R159: a bit in DATA, by the bit count. -/
theorem State.takeSymbol_bit_data {u : State} (fills : u.bcd.decoder = .data) (one : Bool) :
    u.takeSymbol (.bit one) =
      if u.bcd.bitCount + 1 = 24 then ({ u with bcd.half := false } : State).complete (u.bcd.placed one)
      else { u with bcd.half := false, bcd.acc := u.bcd.placed one, bcd.bitCount := u.bcd.bitCount + 1 } :=
  State.takeBit_data (s := { u with bcd.half := false }) fills one

/-! ### The statement -/

section
variable {s : State} {c : BciChange} {stamp r : Stamp}

/-- R159: the edge that gives a bit in DATA: below the 24th the bit is placed, and the 24th completes the packet. -/
theorem edge_bit_in_data (accepted : s.accepts c = true) (takes : s.takesEdges = true) (reference : s.bcd.reference = some r)
    (fills : s.bcd.decoder = .data) {one : Bool}
    (bit : symbolOf s.bcd.half (classOf ((stamp.toNat + 65536 - r.toNat) % 65536)) = .bit one) :
    let judged : State := { s.seeBci c stamp with bcd.reference := some stamp }
    let acc : BitVec 24 := s.bcd.acc ||| (if one then BitVec.twoPow 24 s.bcd.bitCount else 0)
    let kind : Byte := acc.extractLsb' 0 8
    let value : Byte := acc.extractLsb' 8 8
    (s.bcd.bitCount < 23 → exec (.bciEdge c stamp) s =
      .next { judged with bcd.half := false, bcd.acc := acc, bcd.bitCount := s.bcd.bitCount + 1 }) ∧
    (s.bcd.bitCount = 23 → ∃ t, exec (.packetCompletion c stamp) s = .next t ∧ exec (.bciEdge c stamp) s = .next t ∧
      (acc.extractLsb' 16 8 = ~~~(kind ^^^ value) →
        t = judged.leftData.deliver kind value ∧ t.bcd.last = some ⟨kind, value, s.ticks⟩) ∧
      (acc.extractLsb' 16 8 ≠ ~~~(kind ^^^ value) →
        t = { judged.leftData with
          pch.pen := s.pch.pen.map fun p => { p with check := min (p.check + 1) 255 }
          upq := s.saturating (s.pch.pen.map PenRecord.check) })) := by
  intro judged acc kind value
  have edge : (s.seeBci c stamp).edge stamp = judged.takeSymbol (.bit one) :=
    bit ▸ State.edge_judged (s := s.seeBci c stamp) reference (symbolOf_bit_short bit)
  have placed : judged.bcd.placed one = acc := Bcd.placed_or s.bcd one
  have taken := (State.takeSymbol_bit_data (u := judged) fills one).trans (by rw [placed])
  refine ⟨fun more => ?_, fun last => ?_⟩
  · have open24 : ¬judged.bcd.bitCount + 1 = 24 := show ¬s.bcd.bitCount + 1 = 24 by omega
    rw [exec_bciEdge_taken accepted takes, edge, taken, if_neg open24]
    rfl
  · have completed : (s.seeBci c stamp).edge stamp = ({ judged with bcd.half := false } : State).complete acc :=
      (edge.trans taken).trans (if_pos (congrArg Nat.succ last))
    rw [State.complete_eq, judged.leftData_half] at completed
    refine ⟨_, exec_packetCompletion_taken accepted (State.completes_of_bit takes reference fills last bit),
      exec_bciEdge_taken accepted takes, fun whole => ?_, fun wrong => ?_⟩
    · rw [completed, if_pos whole]
      exact ⟨rfl, (State.deliver_last _ _ _).trans (congrArg _ (congrArg _ judged.leftData_ticks))⟩
    · obtain ⟨pen, upq⟩ := judged.leftData_pen
      rw [completed, if_neg wrong, State.checkFailed_eq, State.saturating, pen, upq]
      rfl

/-- R155, R159: an edge at or past the silence limit, which it does not judge. -/
theorem edge_late_in_data (accepted : s.accepts c = true) (takes : s.takesEdges = true) (reference : s.bcd.reference = some r)
    (late : 626 ≤ (stamp.toNat + 65536 - r.toNat) % 65536) :
    exec (.bciEdge c stamp) s = .next { (s.seeBci c stamp).violated with bcd.reference := some stamp } ∧
    (s.bcd.decoder = .data →
      exec (.packetAbort (.edge c stamp)) s = .next { (s.seeBci c stamp).violated with bcd.reference := some stamp }) := by
  have edge := State.edge_late (s := s.seeBci c stamp) reference late
  rw [← edge]
  exact ⟨exec_bciEdge_taken accepted takes,
    fun fills => exec_packetAbort_taken accepted (State.breaks_of_violation takes reference fills (symbolOf_late late))⟩

/-- R158, R159: a violation in DATA that an edge ends aborts the packet. -/
theorem edge_violation_in_data (accepted : s.accepts c = true) (takes : s.takesEdges = true) (reference : s.bcd.reference = some r)
    (fills : s.bcd.decoder = .data)
    (violation : symbolOf s.bcd.half (classOf ((stamp.toNat + 65536 - r.toNat) % 65536)) = .violation)
    (short : (stamp.toNat + 65536 - r.toNat) % 65536 < 626) :
    exec (.packetAbort (.edge c stamp)) s = .next ({ s.seeBci c stamp with bcd.reference := some stamp } : State).violated ∧
    exec (.bciEdge c stamp) s = .next ({ s.seeBci c stamp with bcd.reference := some stamp } : State).violated := by
  have edge : (s.seeBci c stamp).edge stamp = ({ s.seeBci c stamp with bcd.reference := some stamp } : State).takeSymbol .violation :=
    violation ▸ State.edge_judged (s := s.seeBci c stamp) reference short
  rw [← State.violation_eq]
  exact ⟨(exec_packetAbort_taken accepted (State.breaks_of_violation takes reference fills violation)).trans (congrArg _ edge),
    (exec_bciEdge_taken accepted takes).trans (congrArg _ edge)⟩

/-- R155: a silence at the limit. -/
theorem silence_at_limit (mode : s.bcd.mode = .edge) (reference : s.bcd.reference = some r)
    (late : 626 ≤ (stamp.toNat + 65536 - r.toNat) % 65536) :
    exec (.silenceLimit stamp) s = .next { ({ s with bcd.microCount := stamp } : State).violated with bcd.reference := none } ∧
    (s.bcd.decoder = .data → exec (.packetAbort (.silence stamp)) s =
      .next { ({ s with bcd.microCount := stamp } : State).violated with bcd.reference := none }) := by
  have silent := State.silent_of_late mode reference late
  rw [← State.silence_eq]
  exact ⟨congrArg _ (if_pos silent), fun fills => congrArg _ (if_pos (by simp [silent, fills]))⟩

end

/-- Settles O37: the edge filter and the mode say whether an edge is taken; the interval it ends says what it gives. -/
theorem edgesMakeAndBreakPackets : Obligations.EdgesMakeAndBreakPackets := by
  intro s c stamp seen judged
  refine ⟨fun rejected => exec_edge_rejected ?rejected, fun changed held => ?edges, fun r mode reference late =>
    silence_at_limit mode reference late⟩
  case rejected =>
    rw [State.accepts_iff]
    rintro ⟨changed, held⟩
    rcases rejected with same | short
    · exact changed same
    · omega
  have accepted : s.accepts c = true := State.accepts_iff.mpr ⟨changed, held⟩
  refine ⟨fun passes => exec_bciEdge_seen accepted ?passes, fun mode free first => ?first, fun r mode free reference => ?judged⟩
  case passes =>
    rw [State.takesEdges_iff]
    rintro ⟨mode, free⟩
    exact passes.elim (· mode) free
  case first =>
    rw [exec_bciEdge_taken accepted (State.takesEdges_iff.mpr ⟨mode, free⟩)]
    exact congrArg _ (State.edge_first (s := seen) first)
  case judged =>
    have takes := State.takesEdges_iff.mpr ⟨mode, free⟩
    refine ⟨fun short => ?_, fun one fills bit => edge_bit_in_data accepted takes reference fills bit,
      fun fills violation short => edge_violation_in_data accepted takes reference fills violation short,
      fun late => edge_late_in_data accepted takes reference late⟩
    rw [exec_bciEdge_taken accepted takes]
    exact congrArg _ (State.edge_judged (s := seen) reference short)

end Sys2Proof.Machine
end

section
/-!
PROOFS. DEEP (R172 to R176): the conditions of its entry and what the entry brings; the end of a clock start, with a listening link that
runs again and the polls it owes; and the statement about DEEP (O39).
-/

namespace Sys2Proof.Machine

/-! ### A listening link runs again -/

section
variable (s : State)

/-- R85: the functions of the base, none without its record. -/
def State.baseCapability : ByteSet := (s.blk.record.map BaseRecord.capability).getD 0

theorem State.capable_base_iff (running : s.blk.link = .running) {i : Nat} :
    s.capable i = true ↔ i < s.sched.slotCount ∧ s.baseCapability.getLsbD (s.slot i).fn = true := by
  cases record : s.blk.record with
  | some r => simpa [State.baseCapability, record] using s.capable_iff running record
  | none => simp [State.capable, running, record, State.baseCapability]

/-- R76, R78, R85: the link in RUNNING with what its slots are owed. -/
def State.heard : State :=
  { s with
    blk := { s.blk with link := .running, consecutive := 0, retryTimer := none, retryDue := false, attention := false }
    psc := ⟨s.owedAtEntry s.baseCapability s.spm.hub, List.replicate 12 0, s.psc.writes⟩ }

theorem State.intoRunning_capable_iff {i : Nat} :
    s.intoRunning.capable i = true ↔ i < s.sched.slotCount ∧ s.baseCapability.getLsbD (s.slot i).fn = true :=
  s.intoRunning.capable_base_iff rfl

theorem State.intoRunning_owed :
    s.intoRunning.psc.owed = (List.range 12).map fun i =>
      if s.intoRunning.capable i && s.intoRunning.polledIn s.spm.hub i then 1 else 0 := rfl

/-- R85: without attention each capable slot polled in the hub power state is owed one poll. -/
theorem State.intoRunning_quiet (quiet : s.blk.attention = false) : s.intoRunning = s.heard := by
  have owes : s.intoRunning.psc.owed = s.owedAtEntry s.baseCapability s.spm.hub := by
    refine s.intoRunning_owed.trans (List.map_congr_left fun i _ => if_congr ?_ rfl rfl)
    rw [Bool.and_eq_true, s.intoRunning_capable_iff, State.polledIn_iff, and_assoc]
    simp only [quiet, Bool.false_eq_true, false_and, or_false]
    rfl
  rw [State.heard, ← owes]
  rfl

/-- R78, R88: with attention the capable BUTTON slot is owed one poll too. -/
theorem State.intoRunning_attention (pending : s.blk.attention = true) : s.intoRunning.attentionPoll = s.heard := by
  have owes : ((List.range 12).map fun i =>
      if s.intoRunning.slotOf .button = some i ∧ s.intoRunning.capable i = true then
        max 1 (if s.intoRunning.capable i && s.intoRunning.polledIn s.spm.hub i then 1 else 0)
      else if s.intoRunning.capable i && s.intoRunning.polledIn s.spm.hub i then 1 else 0) =
      s.owedAtEntry s.baseCapability s.spm.hub := by
    refine List.map_congr_left fun i _ => ?_
    have polled : s.intoRunning.polledIn s.spm.hub i = true ↔ _ := s.polledIn_iff
    have button : s.intoRunning.slotOf .button = some i ↔ _ := s.slotOf_button_iff
    rw [ite_max_one]
    refine if_congr ?_ rfl rfl
    rw [Bool.and_eq_true, s.intoRunning_capable_iff, polled, button]
    tauto
  rw [State.attentionPoll_eq _ s.intoRunning_owed, owes]
  rfl

theorem State.enterRunning_heard (identified : Bool) :
    s.enterRunning identified = if s.dlu.state = .absent then s.heard.attach identified else s.heard := by
  have polled : (if s.blk.attention then s.intoRunning.attentionPoll else s.intoRunning) = s.heard := by
    cases pending : s.blk.attention
    · exact s.intoRunning_quiet pending
    · exact s.intoRunning_attention pending
  rw [← polled]
  rfl

theorem State.owedAtEntry_congr {t : State} (tables : t.tables = s.tables) (attention : t.blk.attention = s.blk.attention)
    (capability : ByteSet) (hub : HubPower) : t.owedAtEntry capability hub = s.owedAtEntry capability hub := by
  have sched : t.sched = s.sched := congrArg (fun held : Tables => scheduleGlobals held.schedule.active) tables
  have slot : t.slot = s.slot := congrArg (fun held : Tables => slotRow held.schedule.active) tables
  unfold State.owedAtEntry
  rw [sched, slot, attention]

/-! ### The hub has left DEEP -/

/-- R19: the posture period timer expires at once. -/
def State.expiring : State := { s with pae.expiryDue := true }

/-- R76, R114: a link in LISTEN runs again, which is the attach where the latch is ABSENT. -/
theorem State.leftDeep_cases :
    (s.blk.link = .listen ∧ s.dlu.state = .absent ∧ s.leftDeep = s.expiring.heard.latched.wakeSource .baseAttach) ∨
    (s.blk.link = .listen ∧ s.dlu.state ≠ .absent ∧ s.leftDeep = s.expiring.heard) ∨
    (s.blk.link ≠ .listen ∧ s.leftDeep = s.expiring) := by
  have left : s.leftDeep = if s.blk.link = .listen then s.expiring.enterRunning false else s.expiring := rfl
  by_cases listens : s.blk.link = .listen
  · rw [if_pos listens, State.enterRunning_heard] at left
    by_cases absent : s.dlu.state = .absent
    · exact .inl ⟨listens, absent, left.trans ((if_pos absent).trans (State.attach_eq _ false))⟩
    · exact .inr (.inl ⟨listens, absent, left.trans (if_neg absent)⟩)
  · exact .inr (.inr ⟨listens, left.trans (if_neg listens)⟩)

theorem State.wakeSource_clock {s : State} (apart : s.spm.hub ≠ .deep) (w : WakeSource) :
    (s.wakeSource w).spm.clock = s.spm.clock := by
  rcases s.wakeSource_cases w with ⟨_, e⟩ | ⟨_, deep, _⟩ | ⟨_, deep, _⟩ | ⟨_, _, _, e⟩ | ⟨_, _, e⟩ | ⟨_, _, _, _, e⟩
  · rw [e]
  · exact absurd deep apart
  · exact absurd deep apart
  · rw [e]
    obtain ⟨_, _, _, _, _, _, _, clock, _⟩ := (({ s with spm := s.spm.join w } : State).intoWaking.wakeNotice).judgeSleep_powers
    exact clock
  · rw [e]
    rfl
  · rw [e]

/-- R19, R76: what the hub's departure from DEEP leaves, whatever the destination was. -/
structure State.LeftDeep (s t : State) : Prop where
  expires : t.pae = { s.pae with expiryDue := true }
  heard : s.blk.link = .listen → t.blk = s.heard.blk ∧ t.psc = s.heard.psc
  other : s.blk.link ≠ .listen → t.blk = s.blk
  clock : t.spm.clock = s.spm.clock
  system : s.spm.system ≠ .asleep → t.spm.system = s.spm.system ∧ t.spm.hub = s.spm.hub
  unattached : s.blk.link ≠ .listen ∨ s.dlu.state ≠ .absent → t.spm = s.spm ∧ t.upq = s.upq

theorem State.leftDeep_leaves {s : State} (apart : s.spm.hub ≠ .deep) : s.LeftDeep s.leftDeep := by
  rcases s.leftDeep_cases with ⟨listens, absent, e⟩ | ⟨listens, _, e⟩ | ⟨deaf, e⟩ <;> rw [e]
  · have woken := s.expiring.heard.latched.wakeSource_woken .baseAttach
    have asleep (up : s.spm.system ≠ .asleep) : ¬(s.expiring.heard.latched.row.wakeMask.getLsbD WakeSource.baseAttach.index = true ∧
        s.expiring.heard.latched.spm.system = .asleep ∧ s.expiring.heard.latched.spm.hub ≠ .deep) := fun h => up h.2.1
    exact
      { expires := by simp [State.latched, State.heard, State.expiring]
        heard := fun _ => ⟨by simp [State.latched, State.heard, State.expiring], by simp [State.latched]; rfl⟩
        other := fun deaf => absurd listens deaf
        clock := State.wakeSource_clock (s := s.expiring.heard.latched) apart .baseAttach
        system := fun up => ⟨woken.system.trans (if_neg (asleep up)), woken.hub.trans (if_neg (asleep up))⟩
        unattached := fun h => h.elim (absurd listens) (absurd absent) }
  · exact
      { expires := rfl
        heard := fun _ => ⟨rfl, rfl⟩
        other := fun deaf => absurd listens deaf
        clock := rfl
        system := fun _ => ⟨rfl, rfl⟩
        unattached := fun _ => ⟨rfl, rfl⟩ }
  · exact
      { expires := rfl
        heard := fun listens => absurd listens deaf
        other := fun _ => rfl
        clock := rfl
        system := fun _ => ⟨rfl, rfl⟩
        unattached := fun _ => ⟨rfl, rfl⟩ }

end

/-! ### The end of a clock start -/

/-- R176: the destination of a clock start is settled, its WAKE notice queued. -/
structure State.Settled (s : State) (awake : Bool) (t : State) : Prop where
  tables : t.tables = s.tables
  blk : t.blk = s.blk
  pae : t.pae = s.pae
  dlu : t.dlu = s.dlu
  writes : t.psc.writes = s.psc.writes
  clock : t.spm.clock = none
  hub : t.spm.hub = if awake = true ∨ s.spm.wakeCause ≠ 0 then .run else .doze
  up : awake = true → t.spm.system = .awake
  waking : awake = false → s.spm.wakeCause ≠ 0 → t.spm.system = .waking
  rests : awake = false → s.spm.wakeCause = 0 → t.spm.system = s.spm.system
  told : awake = true ∨ s.spm.wakeCause ≠ 0 → s.spm.wakeCause ≠ 0 → t.upq.Holds (.wake s.spm.wakeCause s.spm.firstPower s.posture)

theorem State.settleDestination_settled (s : State) (awake : Bool) :
    s.Settled awake (({ s with spm.clock := none } : State).settleDestination awake) := by
  cases awake with
  | true =>
    have run : HubPower.run = if true = true ∨ s.spm.wakeCause ≠ 0 then .run else .doze := (if_pos (.inl rfl)).symm
    by_cases empty : s.spm.wakeCause = 0
    · have settled : ({ s with spm.clock := none } : State).settleDestination true = ({ s with spm.clock := none } : State).intoAwake :=
        if_pos empty
      rw [settled, State.intoAwake_eq]
      exact ⟨rfl, rfl, rfl, rfl, rfl, rfl, run, fun _ => rfl, by simp, by simp, fun _ h => absurd empty h⟩
    · have settled : ({ s with spm.clock := none } : State).settleDestination true =
          ({ s with spm.clock := none } : State).intoAwake.wakeNotice := if_neg empty
      rw [settled, State.intoAwake_eq]
      exact ⟨rfl, rfl, rfl, rfl, rfl, rfl, run, fun _ => rfl, by simp, by simp, fun _ _ => Upq.issue_holds _ _⟩
  | false =>
    by_cases empty : s.spm.wakeCause = 0
    · have settled : ({ s with spm.clock := none } : State).settleDestination false = ({ s with spm.clock := none } : State).setHub .doze :=
        (if_neg (by simp)).trans (if_neg (not_not.mpr empty))
      have doze : HubPower.doze = if false = true ∨ s.spm.wakeCause ≠ 0 then .run else .doze := (if_neg (by simp [empty])).symm
      rw [settled]
      rcases ({ s with spm.clock := none } : State).setHub_cases .doze with ⟨_, _, e⟩ | ⟨_, e⟩ <;> rw [e]
      all_goals exact ⟨rfl, rfl, rfl, rfl, rfl, rfl, doze, by simp, fun _ h => absurd empty h, fun _ _ => rfl, by simp [empty]⟩
    · have settled : ({ s with spm.clock := none } : State).settleDestination false =
          ({ s with spm.clock := none } : State).intoWaking.wakeNotice := (if_neg (by simp)).trans (if_pos empty)
      have run : HubPower.run = if false = true ∨ s.spm.wakeCause ≠ 0 then .run else .doze := (if_pos (.inr empty)).symm
      rw [settled, State.intoWaking_eq]
      exact ⟨rfl, rfl, rfl, rfl, rfl, rfl, run, by simp, fun _ _ => rfl, fun _ h => absurd h empty, fun _ _ => Upq.issue_holds _ _⟩

section
variable {s : State}

theorem State.Settled.apart {awake : Bool} {t : State} (settled : s.Settled awake t) : t.spm.hub ≠ .deep := by
  rw [settled.hub]
  split <;> simp

/-- R76, R85: what the link and the scheduler hold once the clock start has ended. -/
theorem State.Settled.heard {awake : Bool} {t : State} (settled : s.Settled awake t) :
    t.heard.blk =
      { s.blk with link := .running, consecutive := 0, retryTimer := none, retryDue := false, attention := false } ∧
    t.heard.psc = ⟨s.owedAtEntry s.baseCapability (if awake = true ∨ s.spm.wakeCause ≠ 0 then .run else .doze),
      List.replicate 12 0, s.psc.writes⟩ := by
  have capability : t.baseCapability = s.baseCapability := by rw [State.baseCapability, settled.blk]; rfl
  have owed := s.owedAtEntry_congr settled.tables (congrArg Blk.attention settled.blk)
  have blk := settled.blk
  refine ⟨?_, ?_⟩
  · unfold State.heard
    rw [blk]
  · rw [← settled.hub, ← capability, ← settled.writes, ← owed]
    rfl

theorem exec_clockStartEnd {c : ClockStart} (clock : s.spm.clock = some c) (done : 2 ≤ c.elapsed) :
    exec .clockStartEnd s = .next (s.clockStarted c.awake) := by
  have ends : exec .clockStartEnd s = execClockStartEnd s := rfl
  rw [ends, execClockStartEnd, clock]
  exact congrArg _ (if_pos done)

/-- R176: the destination spelled out. -/
theorem State.settleDestination_spelled (u : State) (awake : Bool) :
    u.settleDestination awake =
      if awake then
        if u.spm.wakeCause = 0 then u.intoAwake
        else { u.intoAwake with upq := u.intoAwake.upq.issue (.wake u.spm.wakeCause u.spm.firstPower u.posture) }
      else if u.spm.wakeCause ≠ 0 then
        if u.spm.wakeCause = 0 then u.intoWaking
        else { u.intoWaking with upq := u.intoWaking.upq.issue (.wake u.spm.wakeCause u.spm.firstPower u.posture) }
      else u.setHub .doze := by
  unfold State.settleDestination
  by_cases empty : u.spm.wakeCause = 0
  · simp [empty]
  · simp only [if_neg empty]
    rfl

end

/-! ### The entry to DEEP -/

section
variable {s : State}

/-- R147, R148: the pause reasons of a charger that does not drive change with its record and the queue alone. -/
theorem State.setPauses_idle (idle : s.pch.state.drives = false) (stopped : s.pch.driver.running = false) (q : Pauses) :
    ∃ upq, s.setPauses q = { s with pch := s.pch.reconsidered q s.chg.waitInterval, upq := upq } := by
  obtain ⟨upq, e, _⟩ := State.setPausesBy_idle idle stopped q
  refine ⟨upq, Eq.trans ?_ e⟩
  have same (c : ChargerState) (rests : c.drives = false) (p : Pch) (state : p.state = s.pch.state) (driver : p.driver = s.pch.driver) :
      ({ s with pch := p } : State).toCharger c = ({ s with pch := p } : State).enterCharger c :=
    State.toCharger_calm (.inl (driver ▸ stopped)) c
  unfold State.setPauses State.setPausesBy
  split
  · rfl
  · dsimp only
    split
    · exact congrArg State.penNotice (same .paused rfl _ rfl rfl)
    · split
      · exact congrArg (fun t : State => ({ t with pch.waitTimer := some (.start t.chg.waitInterval) } : State).penNotice)
          (same .wait rfl _ rfl rfl)
      · rfl

theorem Pch.reconsidered_given (p : Pch) (q : Pauses) (interval : Nat) : (p.reconsidered q interval).pauses = q := by
  rcases p.reconsidered_cases q interval with ⟨same, e⟩ | ⟨_, _, _, e⟩ | ⟨_, _, _, e⟩ | ⟨_, _, _, e⟩ <;> rw [e]
  exact same.symm

/-- R173: in DEEP a charger that does not drive takes SLEEP up, and nothing but it and the queue moves. -/
theorem State.judgeSleep_deep (idle : s.pch.state.drives = false) (stopped : s.pch.driver.running = false) (deep : s.spm.hub = .deep) :
    ∃ pch upq, s.judgeSleep = { s with pch := pch, upq := upq } ∧ pch.pauses = { s.pch.pauses with sleep := true } := by
  have wanted : s.sleepWanted = true := by simp [State.sleepWanted, deep]
  obtain ⟨upq, e⟩ := State.setPauses_idle idle stopped { s.pch.pauses with sleep := s.sleepWanted }
  rw [wanted] at e
  rw [State.judgeSleep, wanted]
  exact ⟨_, upq, e, Pch.reconsidered_given _ _ _⟩

/-- R20 to R22, R30, R53, R76, R85, R115: the entry before SLEEP is judged. -/
def State.deepened (s : State) : State :=
  { s with
    spm.hub := .deep, pae := s.pae.enterDeep
    blk := if s.blk.link = .running then { s.blk with link := .listen } else s.blk
    psc := if s.blk.link = .running then ⟨List.replicate 12 0, List.replicate 12 0, s.psc.writes⟩ else s.psc
    dlu := if s.blk.link = .running then { s.dlu with button := .unknown, holdTimer := none } else s.dlu }

theorem State.enterDeep_eq (s : State) : s.enterDeep = s.deepened.judgeSleep := by
  unfold State.enterDeep State.deepened
  dsimp only
  split <;> rfl

theorem State.deepReady_iff :
    s.deepReady = true ↔
      s.spm.system = .asleep ∧ s.spm.target = some .deep ∧ s.spm.hub ≠ .deep ∧ s.blk.txn = none ∧ s.psc.writes = [] ∧
      (∀ i, i < s.sched.slotCount → s.eligible i = false) ∧ s.blk.link ≠ .identify ∧
      ¬(s.blk.link = .fault ∧ s.blk.retryDue = true) ∧ s.converterIdle = true ∧ s.pch.state ≠ .ident ∧ s.pch.state ≠ .charge ∧
      ¬(s.row.chargeInSleep = true ∧ s.pch.pen.isSome = true) ∧ (s.dlu.state = .latched ∨ s.dlu.state = .absent) ∧
      s.dlu.holdTimer = none ∧ s.slk.tx = none := by
  have asks : s.linkAsks = false ↔ s.blk.link ≠ .identify ∧ ¬(s.blk.link = .fault ∧ s.blk.retryDue = true) := by
    rw [← Bool.not_eq_true, ← not_or, not_iff_not]
    simp [State.linkAsks]
  have charges : s.chargesInSleep = false ↔ ¬(s.row.chargeInSleep = true ∧ s.pch.pen.isSome = true) := by
    rw [← Bool.not_eq_true, not_iff_not]
    simp [State.chargesInSleep]
  simp [State.deepReady, State.anyEligible, asks, ChargerState.drives, charges, and_assoc]

/-- R173: when SPM raises SLEEP. -/
theorem State.sleepWanted_iff :
    s.sleepWanted = true ↔
      s.spm.hub = .deep ∨ (s.spm.system = .asleep ∧ s.spm.target = some .deep ∧
        ¬(s.row.chargeInSleep = true ∧ s.pch.pen.isSome = true)) := by
  unfold State.sleepWanted State.chargesInSleep
  cases s.row.chargeInSleep <;> simp [and_assoc]

/-- R175: what brings the hub out of DEEP. -/
theorem State.deepBarred_iff :
    s.deepBarred = true ↔
      s.spm.target = some .doze ∨ s.blk.link = .identify ∨ (s.blk.link = .fault ∧ s.blk.retryDue = true) ∨
        (s.row.chargeInSleep = true ∧ s.pch.pen.isSome = true) ∨ (s.dlu.state ≠ .latched ∧ s.dlu.state ≠ .absent) := by
  simp [State.deepBarred, State.linkAsks, State.chargesInSleep, or_assoc]

theorem State.leaveDeep_eq (s : State) :
    s.leaveDeep =
      if s.spm.hub = .deep ∧ s.spm.clock = none ∧
          (s.spm.target = some .doze ∨ s.blk.link = .identify ∨ (s.blk.link = .fault ∧ s.blk.retryDue = true) ∨
            (s.row.chargeInSleep = true ∧ s.pch.pen.isSome = true) ∨ (s.dlu.state ≠ .latched ∧ s.dlu.state ≠ .absent)) then
        { s with spm.clock := some ⟨0, false⟩ }
      else s := by
  simp only [← State.deepBarred_iff]
  unfold State.leaveDeep State.startClock
  by_cases barred : s.deepBarred = true
  · simp only [barred, and_true, if_true]
  · simp only [barred, and_false, if_false, Bool.false_eq_true]

end

/-! ### The statement -/

/-- Settles O39: DEEP is entered and SLEEP judged with the charger at rest; the end of a clock start by its destination, and by the link
that hears again. -/
theorem deepIsEnteredAndLeft : Obligations.DeepIsEnteredAndLeft := by
  unfold Obligations.DeepIsEnteredAndLeft
  refine fun s => ⟨State.deepReady_iff, fun ready driver => ?entry, fun c clock done => ?clock, rfl, rfl, State.sleepWanted_iff,
    s.leaveDeep_eq⟩
  case entry =>
    obtain ⟨_, _, _, _, _, _, _, _, _, ident, charge, _⟩ := State.deepReady_iff.mp ready
    have idle : s.pch.state.drives = false := by simp [ChargerState.drives, ident, charge]
    have stopped : s.pch.driver.running = false := by rw [driver.running, idle]; rfl
    obtain ⟨pch, upq, judged, pauses⟩ := State.judgeSleep_deep (s := s.deepened) idle stopped rfl
    refine ⟨_, congrArg Host.Outcome.next ((if_pos ready).trans (s.enterDeep_eq.trans judged)), rfl, rfl, rfl, rfl, rfl, rfl, rfl, rfl, rfl, rfl, rfl,
      rfl, pauses, ?_⟩
    intro part outside
    cases part
    case pae | blk | psc | pch | dlu | spm | upq => exact absurd (by decide) outside
    all_goals rfl
  case clock =>
    have settled := s.settleDestination_settled c.awake
    have spelled := ({ s with spm.clock := none } : State).settleDestination_spelled c.awake
    have ends := exec_clockStartEnd clock done
    generalize whole : ({ s with spm.clock := none } : State).settleDestination c.awake = v at settled spelled
    have left := State.leftDeep_leaves settled.apart
    obtain ⟨hub, system, _, _, _, _, _, ended, _⟩ := v.leftDeep.judgeSleep_powers
    obtain ⟨_, _, _, _, pae, blk, psc, _⟩ := v.leftDeep.judgeSleep_frame
    obtain ⟨heardBlk, heardPsc⟩ := settled.heard
    have link : v.blk.link = s.blk.link := congrArg Blk.link settled.blk
    have latch : v.dlu.state = s.dlu.state := congrArg Dlu.state settled.dlu
    have up (awoke : v.spm.system ≠ .asleep) :
        v.leftDeep.judgeSleep.spm.system = v.spm.system ∧ v.leftDeep.judgeSleep.spm.hub = v.spm.hub := by
      obtain ⟨system', hub'⟩ := left.system awoke
      exact ⟨system.trans system', hub.trans hub'⟩
    have run (h : c.awake = true ∨ s.spm.wakeCause ≠ 0) : v.spm.hub = .run := settled.hub.trans (if_pos h)
    refine ⟨v.leftDeep.judgeSleep, ?_, ?_, ended.trans (left.clock.trans settled.clock), ?_, fun listens => ?_, fun deaf => ?_,
      fun awakes => ?_, fun sleeps caused => ?_, fun alone => ?_⟩
    · rw [ends, State.clockStarted, whole]
    · rw [spelled]
      rfl
    · rw [pae, left.expires]
    · obtain ⟨blk', psc'⟩ := left.heard (link.trans listens)
      exact ⟨blk.trans (blk'.trans heardBlk), psc.trans (psc'.trans heardPsc)⟩
    · exact blk.trans ((left.other (by rwa [link])).trans settled.blk)
    · have awake := settled.up awakes
      obtain ⟨system', hub'⟩ := up (by rw [awake]; decide)
      exact ⟨system'.trans awake, hub'.trans (run (.inl awakes))⟩
    · have waking := settled.waking sleeps caused
      obtain ⟨system', hub'⟩ := up (by rw [waking]; decide)
      exact ⟨system'.trans waking, hub'.trans (run (.inr caused))⟩
    · obtain ⟨spm, upq⟩ := left.unattached (by rwa [link, latch])
      have queues := State.judgeSleep_queues (kinds := [.pen]) (by decide) v.leftDeep
      refine ⟨fun arrives caused => (queues.holds_iff (by simp [Notice.kind])).mpr ?_, fun sleeps empty => ?_⟩
      · rw [upq]
        exact settled.told arrives caused
      · rw [system, hub, spm]
        exact ⟨settled.rests sleeps empty, settled.hub.trans (if_neg (by simp [sleeps, empty]))⟩

end Sys2Proof.Machine
end

section
/-!
PROOFS. The CHANNEL swap (R3): what its readers and the triggers that waited for it leave of the converter, of the tables and of the
reply; and the statement about it (O11).
-/

namespace Sys2Proof.Machine

/-! ### A hand-over keeps the replies -/

section
variable (s : State)

theorem State.wakeSource_keepsReplies (w : WakeSource) : s.KeepsReplies (s.wakeSource w) := by
  rcases s.wakeSource_cases w with ⟨_, e⟩ | ⟨_, _, _, e⟩ | ⟨_, _, _, e⟩ | ⟨_, _, _, e⟩ | ⟨_, _, e⟩ | ⟨_, _, _, _, e⟩ <;> rw [e]
  · exact .of_eq rfl
  · exact .of_eq (by simp)
  · exact .of_eq (by simp)
  · exact .trans (.left (State.notice_keepsReplies _ _) (by simp)) (State.judgeSleep_keepsReplies _)
  · exact (State.notice_keepsReplies _ _).left rfl
  · exact .of_eq rfl

theorem State.handedOver_keepsReplies (w : WakeSource) : s.KeepsReplies (s.handedOver w) :=
  (s.wakeSource_keepsReplies w).trans <| (State.activity_keepsReplies _ _).trans <| (State.judgeSleep_keepsReplies _).trans
    (State.leaveDeep_handsOver _).replies

theorem State.penNotice_keepsReplies : s.KeepsReplies s.penNotice := s.notice_keepsReplies _

theorem State.limitNoticed_keepsReplies : s.KeepsReplies s.handLimit.penNotice := by
  have limited : s.KeepsReplies s.handLimit := by
    unfold State.handLimit State.handLimitBy
    exact State.rebudgetBy_keepsReplies _ State.toCharger_keepsReplies _ _
  exact limited.trans (State.penNotice_keepsReplies _)

theorem State.penInserted_keepsReplies : s.KeepsReplies s.penInserted := by
  have noticed : s.KeepsReplies s.penFresh := State.limitNoticed_keepsReplies { s with pch.pen := some .fresh }
  have fresh := noticed.trans (s.penFresh.handedOver_keepsReplies .penInsert)
  rw [s.penInserted_eq]
  dsimp only
  split
  · exact fresh.trans (State.waitFromOff_handsOver _).replies
  · exact fresh

theorem State.penRemoved_keepsReplies : s.KeepsReplies s.penRemoved := by
  have gone : s.KeepsReplies s.penGone := (s.toCharger_keepsReplies .off).trans (.of_eq rfl)
  rw [s.penRemoved_eq]
  exact gone.trans ((State.limitNoticed_keepsReplies _).trans (State.handedOver_keepsReplies _ _))

theorem State.inform_keepsReplies (ch : Nat) : s.KeepsReplies (s.inform ch) := by
  unfold State.inform
  dsimp only
  split
  · exact State.setPausesBy_keepsReplies _ State.toCharger_keepsReplies _ _
  · exact State.setPausesBy_keepsReplies _ State.toCharger_keepsReplies _ _
  · unfold State.hallToSpm
    dsimp only
    split
    · exact (State.wakeSource_keepsReplies _ _).left rfl
    · exact .of_eq rfl
  · exact .of_eq rfl
  · split
    · exact s.penInserted_keepsReplies
    · exact s.penRemoved_keepsReplies
  · exact .of_eq rfl

theorem State.informAll_keepsReplies (chs : List Nat) : s.KeepsReplies (s.informAll chs) := by
  unfold State.informAll
  induction chs generalizing s with
  | nil => exact .of_eq rfl
  | cons ch chs ih => exact (s.inform_keepsReplies ch).trans (ih (s.inform ch))

end

/-- R17: a counter queues an EVENT notice at most. -/
theorem State.bump_keepsReplies (s : State) (k : Counter) : s.KeepsReplies (s.bump k) := by
  rcases s.bumpBy_cases k 1 with ⟨_, _, e⟩ | ⟨_, e⟩
  · rw [State.bump, e]
    exact (State.notice_keepsReplies _ _).left rfl
  · exact .of_eq (by rw [State.bump, e])

theorem State.serveHeld_keepsReplies (s : State) : s.KeepsReplies s.serveHeld := by
  rw [State.serveHeld_eq]
  split
  · exact .of_eq rfl
  · exact (State.bump_keepsReplies _ _).left rfl

/-! ### The swap -/

/-- R3: the state with the new CHANNEL image, before any reader knows of it. -/
def State.channelLoaded (s : State) : State :=
  let img := s.tables.channel.pending
  { s with
    tables := { s.tables with channel := ⟨img, img, false⟩ }
    upq := s.upq.append (.reply ⟨0x41, .ok, [], false⟩)
    cnv := { s.cnv with
      windows := (List.range s.cnv.windows.length).map fun ch =>
        if (channelRow img ch).mode = .off then .unset else s.cnv.window ch
      debounce := List.replicate 8 0
      fault := s.cnv.fault && (channelRow img 7).mode != .off && (channelRow img 7).inScan } }

/-- R15: the readers of the channels that the swap changed know of it. -/
def State.channelTold (s : State) : State :=
  s.channelLoaded.informAll ((List.range 8).filter (swapInforms s s.channelLoaded))

/-- R3: the C trigger that was held for the swap is served. -/
def State.channelServed (s : State) : State :=
  if s.channelTold.cnv.held = some .forSwap then s.channelTold.serveHeld else s.channelTold

theorem State.swapChannel_eq (s : State) :
    s.swapChannel =
      if s.channelServed.cnv.recorded then ({ s.channelServed with cnv.recorded := false } : State).takeS
      else s.channelServed := rfl

/-- What the served triggers leave of the converter: they move the slots, the held trigger and the progress of a scan. -/
structure Cnv.ServedAtMost (c d : Cnv) : Prop where
  windows : d.windows = c.windows
  debounce : d.debounce = c.debounce
  timer : d.scanTimer = c.scanTimer
  fault : d.fault = c.fault
  resultS : d.resultS = c.resultS
  resultC : d.resultC = c.resultC

theorem State.startScan_cnv (s : State) : s.cnv.ServedAtMost s.startScan.cnv ∧ s.startScan.cnv.recorded = s.cnv.recorded := by
  unfold State.startScan
  dsimp only
  (repeat' split) <;> exact ⟨⟨rfl, rfl, rfl, rfl, rfl, rfl⟩, rfl⟩

section
variable {s : State} (idle : s.cnv.slotS = .idle)
include idle

/-- R15: with slot S idle the readers leave the converter as it is. -/
theorem State.channelTold_cnv : s.channelTold.cnv = s.channelLoaded.cnv := by
  rcases (State.informAll_swapsAtMost s.channelLoaded _).cnv with e | ⟨defers, _⟩
  · exact e
  · exact absurd (idle.symm.trans defers) (by decide)

theorem State.channelServed_cnv : ∃ slotC held, s.channelServed.cnv = { s.channelLoaded.cnv with slotC := slotC, held := held } := by
  unfold State.channelServed
  split
  · obtain ⟨slotC, e⟩ := s.channelTold.serveHeld_cnv
    exact ⟨slotC, none, by rw [e, State.channelTold_cnv idle]⟩
  · exact ⟨_, _, State.channelTold_cnv idle⟩

omit idle in
theorem State.channelServed_tables (s : State) : s.channelLoaded.TablesStand s.channelServed := by
  have told : s.channelLoaded.TablesStand s.channelTold := (State.informAll_swapsAtMost s.channelLoaded _).tables
  refine told.trans (.inl ?_)
  unfold State.channelServed
  split
  · simp
  · rfl

/-- R3, R6: the recorded S trigger finds slot S idle and the table swapped, and starts its scan. -/
theorem State.swapChannel_starts :
    (s.cnv.recorded = true ∧ s.swapChannel = ({ s.channelServed with cnv.recorded := false } : State).startScan) ∨
    (s.cnv.recorded = false ∧ s.swapChannel = s.channelServed) := by
  obtain ⟨slotC, held, cnv⟩ := State.channelServed_cnv idle
  have recorded : s.channelServed.cnv.recorded = s.cnv.recorded := by
    rw [cnv]
    rfl
  rw [State.swapChannel_eq, recorded]
  cases taken : s.cnv.recorded
  · exact .inr ⟨rfl, if_neg (by simp)⟩
  · refine .inl ⟨rfl, (if_pos rfl).trans ?_⟩
    have rests : ({ s.channelServed with cnv.recorded := false } : State).cnv.slotS = .idle := by
      change s.channelServed.cnv.slotS = .idle
      rw [cnv]
      exact idle
    have swapped : ({ s.channelServed with cnv.recorded := false } : State).tables.channel.awaiting = false := by
      change s.channelServed.tables.channel.awaiting = false
      rcases s.channelServed_tables with e | ⟨_, e⟩ <;> rw [e] <;> rfl
    exact State.takeS_starts rests swapped

/-- R3: what the whole swap leaves of the converter. -/
theorem State.swapChannel_cnv : s.channelLoaded.cnv.ServedAtMost s.swapChannel.cnv ∧ s.swapChannel.cnv.recorded = false := by
  obtain ⟨slotC, held, cnv⟩ := State.channelServed_cnv idle
  rcases State.swapChannel_starts idle with ⟨_, e⟩ | ⟨unrecorded, e⟩ <;> rw [e]
  · have before : ({ s.channelServed with cnv.recorded := false } : State).cnv =
        { s.channelLoaded.cnv with slotC := slotC, held := held, recorded := false } := by
      change { s.channelServed.cnv with recorded := false } = _
      rw [cnv]
    obtain ⟨⟨windows, debounce, timer, fault, resultS, resultC⟩, recorded⟩ :=
      State.startScan_cnv { s.channelServed with cnv.recorded := false }
    rw [before] at windows debounce timer fault resultS resultC recorded
    exact ⟨⟨windows, debounce, timer, fault, resultS, resultC⟩, recorded⟩
  · rw [cnv]
    exact ⟨⟨rfl, rfl, rfl, rfl, rfl, rfl⟩, unrecorded⟩

omit idle in
theorem State.channelServed_keepsReplies (s : State) : s.channelLoaded.KeepsReplies s.channelServed := by
  have told : s.channelLoaded.KeepsReplies s.channelTold := State.informAll_keepsReplies s.channelLoaded _
  unfold State.channelServed
  split
  · exact told.trans s.channelTold.serveHeld_keepsReplies
  · exact told

theorem State.swapChannel_stands : s.channelLoaded.TablesStand s.swapChannel ∧ s.channelLoaded.KeepsReplies s.swapChannel := by
  have tables := s.channelServed_tables
  have replies := s.channelServed_keepsReplies
  rcases State.swapChannel_starts idle with ⟨_, e⟩ | ⟨_, e⟩ <;> rw [e]
  · exact ⟨tables.trans (.inl (by simp)), replies.trans (.of_eq (by simp))⟩
  · exact ⟨tables, replies⟩

end

/-- R3: the converter is idle. -/
theorem State.slotS_of_converterIdle {s : State} (idle : s.converterIdle = true) : s.cnv.slotS = .idle := by
  simp only [State.converterIdle, Bool.and_eq_true, beq_iff_eq] at idle
  exact idle.1.1.1

theorem exec_channelSwap {s : State} (waits : s.tables.channel.awaiting = true) (idle : s.converterIdle = true) :
    exec .channelSwap s = .next s.swapChannel :=
  congrArg Host.Outcome.next (if_pos (by simp [waits, idle]))

theorem State.swapChannel_onlyIn (s : State) : s.OnlyIn [.counters, .tables, .cnv, .pae, .pch, .bcd, .spm, .upq] s.swapChannel := by
  intro part outside
  cases part
  case counters | tables | cnv | pae | pch | bcd | spm | upq => exact absurd (by decide) outside
  all_goals simp [Part.Same]

theorem Cnv.window_map {c : Cnv} {f : Nat → WindowState} (windows : c.windows = (List.range n).map f) {ch : Nat} (inside : ch < n) :
    c.window ch = f ch := by
  simp [Cnv.window, windows, inside]

/-- R3: the converter fault stands while VREF is still watched. -/
theorem State.swapChannel_fault {s : State} (idle : s.cnv.slotS = .idle) :
    s.swapChannel.cnv.fault = true ↔ s.cnv.fault = true ∧ (channelRow s.tables.channel.pending 7).mode ≠ .off ∧
      (channelRow s.tables.channel.pending 7).inScan = true := by
  obtain ⟨cnv, _⟩ := State.swapChannel_cnv idle
  rw [cnv.fault]
  simp [State.channelLoaded, and_assoc]

/-- Settles O11: the swap by its stages; slot S is idle, so the readers leave the converter as it is, and the triggers that waited move
slots and scan alone. -/
theorem channelSwapKeepsWindows : Obligations.ChannelSwapKeepsWindows := by
  unfold Obligations.ChannelSwapKeepsWindows
  intro s waits free
  have idle := State.slotS_of_converterIdle free
  obtain ⟨cnv, recorded⟩ := State.swapChannel_cnv idle
  obtain ⟨tables, replies⟩ := State.swapChannel_stands idle
  refine ⟨exec_channelSwap waits free, fun ch inside => ?_, cnv.debounce, cnv.timer, ?_,
    replies _ ?_, cnv.resultS, cnv.resultC, recorded, tables, s.swapChannel_onlyIn⟩
  · exact Cnv.window_map cnv.windows inside
  · exact State.swapChannel_fault idle
  · exact List.mem_append_right _ (List.mem_singleton.mpr rfl)

end Sys2Proof.Machine
end

section
/-!
PROOFS. O55, the relation: what the invariants of the senses, the pause reasons and the charger read of a state, and what it means that an
operation tends to them (`State.Tends`), also with the reason SLEEP right before and after (`State.Stays`).
-/

namespace Sys2Proof.Machine

/-! ### The invariants in parts -/

/-- R128: a driver that runs drives the coil for IDENT or CHARGE, and no blanking is in force; `State.DriverOk` says so. -/
def Pch.Steered (p : Pch) : Prop := p.driver.running = true → p.state.drives = true ∧ p.blanking ≠ .inForce

theorem Pch.Steered.of_stopped {p : Pch} (stopped : p.driver.running = false) : p.Steered := fun runs => by
  rw [stopped] at runs
  cases runs

theorem State.DriverOk.steered {s : State} (ok : s.DriverOk) : s.pch.Steered := fun runs => by
  have runs := ok.running.symm.trans runs
  simpa using runs

/-- R147, R165: the pen claim, BUDGET and LATCH, as `State.PausesOk` has them. -/
structure State.Accounts (s : State) : Prop where
  claim : s.spm.penClaim = s.spm.claim
  budget : s.pch.pauses.budget = (decide (s.spm.penClaim < 10) && decide (s.spm.latchClaim = 0))
  latch : s.pch.pauses.latch = (decide (s.spm.penClaim < 10) && decide (0 < s.spm.latchClaim))

/-- R173: SLEEP holds exactly when it is wanted. -/
def State.SleepRight (s : State) : Prop := s.pch.pauses.sleep = s.sleepWanted

/-- What the senses and their readers' copies go by is the same. -/
structure State.SameSenses (s t : State) : Prop where
  windows : t.cnv.windows = s.cnv.windows
  channel : t.tables.channel.active = s.tables.channel.active
  hallF : t.pae.hallF = s.pae.hallF
  hallR : t.pae.hallR = s.pae.hallR
  lid : t.spm.hallF = s.spm.hallF
  pen : t.pch.pen.isSome = s.pch.pen.isSome

/-- `t` follows `s` by an operation that leaves the senses, whatever SLEEP is to be judged by. -/
structure State.Tends (s t : State) : Prop where
  senses : s.SameSenses t
  thermal : t.pch.pauses.thermal = s.pch.pauses.thermal
  supply : t.pch.pauses.supply = s.pch.pauses.supply
  accounts : s.Accounts → t.Accounts
  steered : s.pch.Steered → t.pch.Steered
  charger : s.pch.Steered → s.ChargerOk → t.ChargerOk

/-- `t` follows `s` by an operation that leaves the senses, with SLEEP right after it if it was before. -/
structure State.Stays (s t : State) : Prop extends s.Tends t where
  sleep : s.SleepRight → t.SleepRight

/-- Of what the pause reasons go by, the operation moves the budget alone; the charger is another matter. -/
structure State.Level (s t : State) : Prop where
  senses : s.SameSenses t
  reasons : s.pch.pauses.Agrees t.pch.pauses
  accounts : s.Accounts → t.Accounts
  wanted : t.sleepWanted = s.sleepWanted

/-! ### The relations compose -/

section
variable {s t u : State}

theorem State.SameSenses.refl (s : State) : s.SameSenses s := ⟨rfl, rfl, rfl, rfl, rfl, rfl⟩

theorem State.SameSenses.trans (h : s.SameSenses t) (h' : t.SameSenses u) : s.SameSenses u :=
  ⟨h'.windows.trans h.windows, h'.channel.trans h.channel, h'.hallF.trans h.hallF, h'.hallR.trans h.hallR, h'.lid.trans h.lid,
    h'.pen.trans h.pen⟩

theorem State.Tends.trans (h : s.Tends t) (h' : t.Tends u) : s.Tends u where
  senses := h.senses.trans h'.senses
  thermal := h'.thermal.trans h.thermal
  supply := h'.supply.trans h.supply
  accounts ok := h'.accounts (h.accounts ok)
  steered ok := h'.steered (h.steered ok)
  charger steered ok := h'.charger (h.steered steered) (h.charger steered ok)

theorem State.Tends.after (h' : t.Tends u) (h : s.Tends t) : s.Tends u := h.trans h'

theorem State.Stays.trans (h : s.Stays t) (h' : t.Stays u) : s.Stays u :=
  { h.toTends.trans h'.toTends with sleep := fun ok => h'.sleep (h.sleep ok) }

theorem State.Stays.after (h' : t.Stays u) (h : s.Stays t) : s.Stays u := h.trans h'

theorem State.Level.trans (h : s.Level t) (h' : t.Level u) : s.Level u :=
  ⟨h.senses.trans h'.senses, h.reasons.trans h'.reasons, fun ok => h'.accounts (h.accounts ok), h'.wanted.trans h.wanted⟩

theorem State.Level.after (h' : t.Level u) (h : s.Level t) : s.Level u := h.trans h'

/-- A level operation stays, where the charger stays in order too. -/
theorem State.Level.stays (h : s.Level t) (steered : s.pch.Steered → t.pch.Steered)
    (charger : s.pch.Steered → s.ChargerOk → t.ChargerOk) : s.Stays t where
  senses := h.senses
  thermal := h.reasons.1
  supply := h.reasons.2.1
  accounts := h.accounts
  steered := steered
  charger := charger
  sleep ok := h.reasons.2.2.trans (ok.trans h.wanted.symm)

/-! ### What the invariants read -/

/-- What the invariants of the senses and the pause reasons read beside the charger's record. -/
def State.around (s : State) :=
  (s.cnv.windows, s.tables.channel.active, (s.pae.hallF, s.pae.hallR), s.spm, s.posture, s.tables.policy.active)

/-- What the invariants of the senses, the pause reasons and the charger read of a state. -/
def State.core (s : State) := (s.pch, s.bcd.mode, s.around)

/-- R173: SLEEP is wanted by the power states, the current row and the pen. -/
theorem State.sleepWanted_same (hub : t.spm.hub = s.spm.hub) (asleep : t.spm.system = .asleep ↔ s.spm.system = .asleep)
    (target : t.spm.target = s.spm.target) (posture : t.posture = s.posture)
    (policy : t.tables.policy.active = s.tables.policy.active) (pen : t.pch.pen.isSome = s.pch.pen.isSome) :
    t.sleepWanted = s.sleepWanted := by
  have system : (t.spm.system == .asleep) = (s.spm.system == .asleep) := by
    rw [Bool.eq_iff_iff, beq_iff_eq, beq_iff_eq]
    exact asleep
  simp only [State.sleepWanted, State.chargesInSleep, State.row, hub, system, target, posture, policy, pen]

theorem State.ChargerOk.congr (ok : s.ChargerOk) (pch : t.pch = s.pch) (mode : t.bcd.mode = s.bcd.mode) : t.ChargerOk := by
  constructor <;> rw [pch]
  · exact ok.on
  · exact ok.active
  · exact ok.paused
  · exact ok.waitTimer
  · exact ok.burstTimer
  · exact ok.packetTimer
  · exact ok.recheckTimer
  · exact ok.faultReason
  · exact ok.waiting
  · rw [mode]
    exact ok.capture
  · rw [mode]
    exact ok.resonance
  · exact ok.stage

/-- Only the charger's record moves, not its reasons, and of the pen only what the senses do not go by. -/
theorem State.Level.of_pch (same : t.around = s.around) (pauses : t.pch.pauses = s.pch.pauses)
    (pen : t.pch.pen.isSome = s.pch.pen.isSome) : s.Level t := by
  simp only [State.around, Prod.mk.injEq] at same
  obtain ⟨windows, channel, ⟨hallF, hallR⟩, spm, posture, policy⟩ := same
  refine ⟨⟨windows, channel, hallF, hallR, congrArg Spm.hallF spm, pen⟩, ?_, fun ok => ?_, ?_⟩
  · rw [pauses]
    exact .refl _
  · obtain ⟨claim, budget, latch⟩ := ok
    exact ⟨by rwa [spm], by rwa [spm, pauses], by rwa [spm, pauses]⟩
  · exact State.sleepWanted_same (by rw [spm]) (by rw [spm]) (by rw [spm]) posture policy pen

/-- Nothing moves that the invariants read. -/
theorem State.Stays.same (same : t.core = s.core) : s.Stays t := by
  have pch : t.pch = s.pch := congrArg Prod.fst same
  have mode : t.bcd.mode = s.bcd.mode := congrArg (fun c => c.2.1) same
  have level : s.Level t := .of_pch (congrArg (fun c => c.2.2) same) (by rw [pch]) (by rw [pch])
  exact level.stays (fun steered => pch ▸ steered) fun _ ok => ok.congr pch mode

theorem State.Stays.refl (s : State) : s.Stays s := .same rfl

/-- What the pen claim is computed from, and the power manager's copy of the lid's Hall sense. -/
def Spm.ledger (p : Spm) := ((p.supply, p.cap, p.stageLimit), (p.latchClaim, p.penClaim), p.hallF)

/-- What the invariants read, but for the power states, the posture and the policy, by which SLEEP goes. -/
def State.unjudged (s : State) :=
  (s.pch, s.bcd.mode, s.cnv.windows, s.tables.channel.active, (s.pae.hallF, s.pae.hallR), s.spm.ledger)

/-- Nothing moves but what SLEEP goes by. -/
theorem State.Tends.same (same : t.unjudged = s.unjudged) : s.Tends t := by
  simp only [State.unjudged, Spm.ledger, Prod.mk.injEq] at same
  obtain ⟨pch, mode, windows, channel, ⟨hallF, hallR⟩, ⟨supply, cap, limit⟩, ⟨latchClaim, penClaim⟩, lid⟩ := same
  refine ⟨⟨windows, channel, hallF, hallR, lid, by rw [pch]⟩, by rw [pch], by rw [pch], fun ok => ⟨?_, ?_, ?_⟩, fun steered => pch ▸ steered,
    fun _ ok => ok.congr pch mode⟩
  · have claim := ok.claim
    simp only [Spm.claim, Spm.budget] at claim ⊢
    rw [penClaim, limit, supply, cap, latchClaim]
    exact claim
  · rw [pch, penClaim, latchClaim]
    exact ok.budget
  · rw [pch, penClaim, latchClaim]
    exact ok.latch

/-- The power manager moves nothing that SLEEP goes by. -/
theorem State.Stays.spm {p : Spm} (same : p.ledger = s.spm.ledger) (hub : p.hub = s.spm.hub)
    (asleep : p.system = .asleep ↔ s.spm.system = .asleep) (target : p.target = s.spm.target) : s.Stays { s with spm := p } :=
  { State.Tends.same (t := { s with spm := p }) (by rw [State.unjudged, same]; rfl) with
    sleep := fun ok => ok.trans (State.sleepWanted_same (t := { s with spm := p }) hub asleep target rfl rfl rfl).symm }

end

/-! ### What the relation is for -/

section
variable {s t : State}

theorem State.SameSenses.active (h : s.SameSenses t) (ch : Nat) : t.active ch = s.active ch := by
  simp only [State.active, State.chanRow, Cnv.window, h.windows, h.channel]

theorem State.SensesOk.same (ok : s.SensesOk) (h : s.SameSenses t) : t.SensesOk where
  windows := by rw [h.windows]; exact ok.windows
  hallF := h.hallF.trans (ok.hallF.trans (h.active 3).symm)
  hallR := h.hallR.trans (ok.hallR.trans (h.active 4).symm)
  lid := h.lid.trans (ok.lid.trans (h.active 3).symm)
  pen := h.pen.trans (ok.pen.trans (h.active 5).symm)

theorem State.pausesOk_iff : s.PausesOk ↔
    s.Accounts ∧ s.SleepRight ∧ s.pch.pauses.thermal = decide (s.cnv.window 2 = .outside) ∧
      s.pch.pauses.supply = decide (s.cnv.window 1 = .outside) :=
  ⟨fun ⟨claim, thermal, supply, budget, latch, sleep⟩ => ⟨⟨claim, budget, latch⟩, sleep, thermal, supply⟩,
    fun ⟨⟨claim, budget, latch⟩, sleep, thermal, supply⟩ => ⟨claim, thermal, supply, budget, latch, sleep⟩⟩

/-- What O55 asks of a command. -/
structure State.Upholds (s t : State) : Prop where
  senses : s.SensesOk → t.SensesOk
  pauses : s.SensesOk → s.PausesOk → t.PausesOk
  steered : s.SensesOk → s.pch.Steered → t.pch.Steered
  charger : s.SensesOk → s.pch.Steered → s.ChargerOk → t.ChargerOk

theorem State.Upholds.trans {u : State} (h : s.Upholds t) (h' : t.Upholds u) : s.Upholds u where
  senses ok := h'.senses (h.senses ok)
  pauses senses ok := h'.pauses (h.senses senses) (h.pauses senses ok)
  steered senses ok := h'.steered (h.senses senses) (h.steered senses ok)
  charger senses steered ok := h'.charger (h.senses senses) (h.steered senses steered) (h.charger senses steered ok)

theorem State.Stays.upholds (h : s.Stays t) : s.Upholds t where
  senses ok := ok.same h.senses
  pauses _ ok := by
    obtain ⟨accounts, sleep, thermal, supply⟩ := State.pausesOk_iff.mp ok
    have window (ch : Nat) : t.cnv.window ch = s.cnv.window ch := by rw [Cnv.window, h.senses.windows]; rfl
    exact State.pausesOk_iff.mpr ⟨h.accounts accounts, h.sleep sleep, by rw [h.thermal, window, thermal], by rw [h.supply, window, supply]⟩
  steered _ := h.steered
  charger _ := h.charger

end

end Sys2Proof.Machine
end

section
/-!
PROOFS. O55, what the charger's operations leave of the senses and the pause reasons: they move BUDGET and LATCH alone, with the pen
claim that both follow (`State.Level`).
-/

namespace Sys2Proof.Machine

theorem State.Level.refl (s : State) : s.Level s := .of_pch rfl rfl rfl

theorem State.penNotice_level (s : State) : s.Level s.penNotice := .of_pch rfl rfl rfl

/-! ### Whatever way the charger changes its state -/

section
variable {go : State → ChargerState → State} (change : ∀ (s : State) c, s.Level (go s c))
include change

theorem State.toPausedBy_level (s : State) : s.Level (s.toPausedBy go) :=
  (State.Level.of_pch rfl rfl rfl : s.Level { s with pch := s.pch.cleared }).trans (change _ _)

theorem State.toWaitBy_level (s : State) : s.Level (s.toWaitBy go) :=
  (State.penNotice_level _).after ((change s .wait).trans (.of_pch rfl rfl rfl))

/-- From where the reasons have changed on. -/
theorem State.setPausesBy_level (s : State) (q : Pauses) :
    ({ s with pch := { s.pch with pauses := q } } : State).Level (s.setPausesBy go q) := by
  rcases s.setPausesBy_cases go q with ⟨same, e⟩ | ⟨_, _, _, e⟩ | ⟨_, _, _, e⟩ | ⟨_, _, _, e⟩ <;> rw [e]
  · subst same
    exact .refl s
  · exact (State.toPausedBy_level change _).trans (State.penNotice_level _)
  · exact (State.toWaitBy_level change _).after (.of_pch rfl rfl rfl)
  · exact State.penNotice_level _

/-- R147, R165: the claim is computed again, and BUDGET and LATCH follow it. -/
theorem State.rebudgetBy_level {s : State} {p : Spm} (lid : p.hallF = s.spm.hallF) (hub : p.hub = s.spm.hub)
    (system : p.system = s.spm.system) (target : p.target = s.spm.target) : s.Level (s.rebudgetBy go p) := by
  have wanted (pch : Pch) (pen : pch.pen = s.pch.pen) :
      ({ s with spm := { p with penClaim := p.claim }, pch := pch } : State).sleepWanted = s.sleepWanted :=
    State.sleepWanted_same hub (by rw [← system]) target rfl rfl (by rw [pen])
  rcases s.rebudgetBy_cases go p with ⟨claim, latched, e⟩ | ⟨_, e⟩ <;> rw [e]
  · have same : p.claim = s.spm.penClaim := claim
    refine ⟨⟨rfl, rfl, rfl, rfl, lid, rfl⟩, .refl _, fun ok => ⟨rfl, ?_, ?_⟩, wanted s.pch rfl⟩
    · have none : (p.latchClaim = 0) ↔ s.spm.latchClaim = 0 := by omega
      exact ok.budget.trans (by simp only [same, none])
    · exact ok.latch.trans (by simp only [same, latched])
  · let judged := s.pch.pauses.forClaim p.claim (decide (0 < p.latchClaim))
    have moved : s.Level { s with spm := { p with penClaim := p.claim }, pch := { s.pch with pauses := judged } } := by
      refine ⟨⟨rfl, rfl, rfl, rfl, lid, rfl⟩, ⟨rfl, rfl, rfl⟩, fun _ => ⟨rfl, ?_, rfl⟩, wanted _ rfl⟩
      by_cases holds : 0 < p.latchClaim
      · simp [judged, Pauses.forClaim, holds, Nat.pos_iff_ne_zero.mp holds]
      · simp [judged, Pauses.forClaim, Nat.eq_zero_of_not_pos holds]
    exact (State.setPausesBy_level change { s with spm := { p with penClaim := p.claim } } judged).after moved

theorem State.handLimitBy_level (s : State) : s.Level (s.handLimitBy go) := State.rebudgetBy_level change rfl rfl rfl rfl

end

/-! ### The changes of state and what they bring -/

section
variable (s : State)

theorem State.capture_level (m : CaptureMode) : s.Level (s.capture m) := by
  rcases s.capture_cases m with ⟨_, e⟩ | ⟨_, e⟩ <;> rw [e]
  · rcases ({ s with bcd := s.bcd.cleared m } : State).dataLeft_cases with ⟨_, e⟩ | ⟨_, e⟩ <;> rw [e] <;> exact .of_pch rfl rfl rfl
  · exact .of_pch rfl rfl rfl

theorem State.enterCharger_level (c : ChargerState) : s.Level (s.enterCharger c) := by
  have settled : s.Level { s with pch := ({ s.pch with state := c } : Pch).settle } := by
    rw [Pch.settle_eq]
    exact .of_pch rfl rfl rfl
  rcases s.enterCharger_cases c with ⟨_, _, e⟩ | ⟨_, e⟩ <;> rw [e]
  · exact (State.capture_level _ .off).after (settled.trans (.of_pch rfl rfl rfl))
  · exact settled

theorem State.swapStopped_level : s.Level s.swapStopped :=
  (State.handLimitBy_level State.enterCharger_level _).after (.of_pch rfl rfl rfl)

theorem State.toCharger_level (c : ChargerState) : s.Level (s.toCharger c) := by
  rcases s.toCharger_cases c with ⟨_, _, _, e⟩ | ⟨_, e⟩ <;> rw [e]
  · exact (State.swapStopped_level _).after (s.enterCharger_level c)
  · exact s.enterCharger_level c

theorem State.toPaused_level : s.Level s.toPaused := State.toPausedBy_level State.toCharger_level s

theorem State.toWait_level : s.Level s.toWait := State.toWaitBy_level State.toCharger_level s

theorem State.setPauses_level (q : Pauses) : ({ s with pch := { s.pch with pauses := q } } : State).Level (s.setPauses q) :=
  State.setPausesBy_level State.toCharger_level s q

theorem State.rebudget_level {p : Spm} (lid : p.hallF = s.spm.hallF) (hub : p.hub = s.spm.hub) (system : p.system = s.spm.system)
    (target : p.target = s.spm.target) : s.Level (s.rebudget p) :=
  State.rebudgetBy_level State.toCharger_level lid hub system target

theorem State.toIdent_level (kind : BurstKind) : s.Level (s.toIdent kind) := by
  unfold State.toIdent
  refine (State.penNotice_level _).after ((State.capture_level _ .resonance).after ?_)
  dsimp only
  rw [Pch.settle_eq]
  exact .of_pch rfl rfl rfl

theorem State.toDone_level : s.Level s.toDone :=
  (State.penNotice_level _).after ((s.toCharger_level .done).trans (.of_pch rfl rfl rfl))

theorem State.toFault_level (r : FaultReason) (code : Option Byte) : s.Level (s.toFault r code) :=
  (State.penNotice_level _).after ((s.toCharger_level .fault).trans (.of_pch rfl rfl rfl))

theorem State.waitFromOff_level : s.Level s.waitFromOff := by
  have tried : s.Level { s with pch := { s.pch with attempts := 0 } } := .of_pch rfl rfl rfl
  unfold State.waitFromOff
  dsimp only
  split
  · exact tried.trans (State.toWait_level _)
  · exact tried.trans (State.toPaused_level _)

/-! ### The entry, the stage change and the swap -/

theorem State.stagePen_level (stage : Nat) :
    s.Level { s with pch := { s.pch with pen := s.pch.pen.map fun (p : PenRecord) => { p with stage := some stage } } } :=
  .of_pch rfl rfl (by simp)

theorem State.entryMade_level (stage : Nat) : s.Level (s.entryMade stage) :=
  ((s.toCharger_level .charge).trans (State.stagePen_level _ stage)).trans (.of_pch rfl rfl rfl)

theorem State.changeMade_level (stage : Nat) : s.Level (s.changeMade stage) := (s.stagePen_level stage).trans (.of_pch rfl rfl rfl)

end

end Sys2Proof.Machine
end

section
/-!
PROOFS. O55, the charger's record in order (`Pch.Ok`): entries to WAIT, PAUSED, DONE, FAULT and OFF, and changes of the pause reasons.
-/

namespace Sys2Proof.Machine

/-! ### The charger's record by itself -/

/-- What `State.ChargerOk` says, of the charger's record and the capture unit's mode. -/
structure Pch.Ok (p : Pch) (mode : CaptureMode) : Prop where
  on : p.state ≠ .off → p.enable = true ∧ p.pen.isSome = true
  active : p.state = .wait ∨ p.state.drives = true → p.pauses.none = true
  paused : p.state = .paused → p.pauses.none = false
  waitTimer : p.waitTimer.isSome = decide (p.state = .wait)
  burstTimer : p.burstTimer.isSome = true → p.state = .ident ∧ p.waiting = none
  packetTimer : p.packetTimer.isSome = decide (p.state = .charge)
  recheckTimer : p.recheckTimer.isSome = decide (p.state = .done)
  faultReason : p.faultReason.isSome = decide (p.state = .fault)
  waiting : ∀ w, p.waiting = some w → p.state = if w.entry then .ident else .charge
  capture : mode = .off ↔ p.state.drives = false
  resonance : mode = .resonance → p.state = .ident ∧ p.waiting = none
  stage : p.state = .charge → (p.pen.bind PenRecord.stage).isSome = true

theorem State.chargerOk_iff {s : State} : s.ChargerOk ↔ s.pch.Ok s.bcd.mode :=
  ⟨fun ⟨on, active, paused, wait, burst, packet, recheck, fault, waiting, capture, resonance, stage⟩ =>
      ⟨on, active, paused, wait, burst, packet, recheck, fault, waiting, capture, resonance, stage⟩,
    fun ⟨on, active, paused, wait, burst, packet, recheck, fault, waiting, capture, resonance, stage⟩ =>
      ⟨on, active, paused, wait, burst, packet, recheck, fault, waiting, capture, resonance, stage⟩⟩

/-- What an entry to WAIT or PAUSED takes for granted: a pen with charging enabled, and nothing of another state left. -/
structure Pch.Bare (p : Pch) : Prop where
  enable : p.enable = true
  pen : p.pen.isSome = true
  burst : p.burstTimer = none
  packet : p.packetTimer = none
  recheck : p.recheckTimer = none
  fault : p.faultReason = none
  waiting : p.waiting = none

section
variable {p : Pch}

theorem Pch.Bare.toWait (bare : p.Bare) (none : p.pauses.none = true) (t : Timer) :
    ({ p with state := .wait, waitTimer := some t } : Pch).Ok .off := by
  obtain ⟨enable, pen, burst, packet, recheck, fault, waiting⟩ := bare
  constructor <;> simp [enable, pen, burst, packet, recheck, fault, waiting, none, ChargerState.drives]

/-- R148: the timers of the state left stop, and what waits is discarded. -/
theorem Pch.cleared_bare (enable : p.enable = true) (pen : p.pen.isSome = true) (recheck : p.recheckTimer = none)
    (fault : p.faultReason = none) : p.cleared.Bare := ⟨enable, pen, rfl, rfl, recheck, fault, rfl⟩

theorem Pch.Bare.toPaused (bare : p.Bare) (held : p.pauses.none = false) (wait : p.waitTimer = none) :
    ({ p with state := .paused } : Pch).Ok .off := by
  obtain ⟨enable, pen, burst, packet, recheck, fault, waiting⟩ := bare
  constructor <;> simp [enable, pen, burst, packet, recheck, fault, waiting, held, wait, ChargerState.drives]

theorem Pch.stopTimers_fault (enable : p.enable = true) (pen : p.pen.isSome = true) (state : p.state = .fault) (r : FaultReason)
    (code : Option Byte) : ({ p.stopTimers with faultReason := some r, faultCode := code } : Pch).Ok .off := by
  constructor <;> simp [Pch.stopTimers, enable, pen, state, ChargerState.drives]

/-- A burst runs, and an entry or a change of stage waits, only where the charger drives. -/
theorem Pch.Ok.quiet {mode : CaptureMode} (ok : p.Ok mode) (idle : p.state.drives = false) : p.burstTimer = none ∧ p.waiting = none := by
  constructor
  · cases runs : p.burstTimer with
    | none => rfl
    | some _ => simp [(ok.burstTimer (by simp [runs])).1, ChargerState.drives] at idle
  · cases waits : p.waiting with
    | none => rfl
    | some w =>
      rw [ok.waiting w waits] at idle
      split at idle <;> cases idle

/-- R147, R148: what a change of the pause reasons does to a charger that does not drive keeps its record in order. -/
theorem Pch.Ok.reconsidered (ok : p.Ok .off) (q : Pauses) (interval : Nat) : (p.reconsidered q interval).Ok .off := by
  have idle := ok.capture.mp rfl
  obtain ⟨burst, waiting⟩ := ok.quiet idle
  have packet : p.state ≠ .charge → p.packetTimer = none := fun other => by simpa [other] using ok.packetTimer
  have recheck : p.state ≠ .done → p.recheckTimer = none := fun other => by simpa [other] using ok.recheckTimer
  have fault : p.state ≠ .fault → p.faultReason = none := fun other => by simpa [other] using ok.faultReason
  rcases p.reconsidered_cases q interval with ⟨_, e⟩ | ⟨_, state, raised, e⟩ | ⟨_, state, none, e⟩ | ⟨_, quiet, stays, e⟩ <;> rw [e]
  · exact ok
  · obtain ⟨enable, pen⟩ := ok.on (by simp [state])
    exact Pch.Bare.toPaused (p := { p.cleared with pauses := q })
      (Pch.cleared_bare (p := { p with pauses := q }) enable pen (recheck (by simp [state])) (fault (by simp [state])))
      (Pauses.held_of_raised raised) rfl
  · obtain ⟨enable, pen⟩ := ok.on (by simp [state])
    exact Pch.Bare.toWait (p := { p with pauses := q, attempts := 0 })
      ⟨enable, pen, burst, packet (by simp [state]), recheck (by simp [state]), fault (by simp [state]), waiting⟩ none _
  · refine { ok with active := fun busy => ?_, paused := fun paused => ?_ }
    · have waits : p.state = .wait := busy.resolve_right (by simp [idle])
      exact Pauses.none_of_unraised (ok.active busy) (by simpa [waits] using quiet)
    · simpa [show p.state = .paused from paused] using stays

/-- WAIT and PAUSED as OFF leaves them: nothing runs. -/
theorem Pch.Ok.bare {mode : CaptureMode} (ok : p.Ok mode) (enable : p.enable = true) (pen : p.pen.isSome = true)
    (state : p.state = .off ∨ p.state = .wait ∨ p.state = .paused) : p.Bare := by
  have idle : p.state.drives = false := by rcases state with state | state | state <;> rw [state] <;> rfl
  obtain ⟨burst, waiting⟩ := ok.quiet idle
  refine ⟨enable, pen, burst, ?_, ?_, ?_, waiting⟩ <;> rcases state with state | state | state
  iterate 3 simpa [state] using ok.packetTimer
  iterate 3 simpa [state] using ok.recheckTimer
  iterate 3 simpa [state] using ok.faultReason

end

/-! ### The driver is steered -/

theorem Pch.settle_steered (p : Pch) : p.settle.Steered := by
  rcases p.settle_cases with ⟨drives, free, _, e⟩ | ⟨drives, free, _, e⟩ | ⟨_, _, e⟩ | ⟨_, stopped, e⟩ <;> rw [e]
  · exact fun _ => ⟨drives, free⟩
  · exact fun _ => ⟨drives, free⟩
  · exact .of_stopped rfl
  · exact .of_stopped stopped

section
variable {s : State}

theorem State.dataLeft_steered (steered : s.pch.Steered) : s.dataLeft.pch.Steered := by
  rcases s.dataLeft_cases with ⟨_, e⟩ | ⟨_, e⟩ <;> rw [e]
  · intro runs
    obtain ⟨drives, free⟩ := steered runs
    refine ⟨drives, ?_⟩
    dsimp only
    split <;> simp_all
  · exact steered

theorem State.capture_steered (steered : s.pch.Steered) (m : CaptureMode) : (s.capture m).pch.Steered := by
  rcases s.capture_cases m with ⟨_, e⟩ | ⟨_, e⟩ <;> rw [e]
  · exact State.dataLeft_steered (s := { s with bcd := s.bcd.cleared m }) steered
  · exact steered

/-! ### Where the charger does not drive -/

/-- R128: a steered charger that does not drive has its driver stopped. -/
theorem Pch.Steered.stopped {p : Pch} (steered : p.Steered) (idle : p.state.drives = false) : p.driver.running = false := by
  cases runs : p.driver.running with
  | false => rfl
  | true => simp [(steered runs).1] at idle

/-- The capture unit is off wherever the charger does not drive. -/
def State.Deaf (s : State) : Prop := s.pch.state.drives = false → s.bcd.mode = .off

theorem State.ChargerOk.deaf (ok : s.ChargerOk) : s.Deaf := ok.capture.mpr

theorem State.Deaf.toCharger {c : ChargerState} (deaf : s.Deaf) (rests : c.drives = false) : (s.toCharger c).bcd.mode = .off := by
  obtain ⟨_, bcd, _⟩ := s.toCharger_stops rests
  rw [bcd]
  rcases s.enterCharger_cases c with ⟨drove, stops, _⟩ | ⟨idle, e⟩
  · exact State.enterCharger_mode drove stops
  · rw [e]
    exact deaf (idle.resolve_right (by simp [rests]))

/-- R148, R135: to PAUSED, also by way of the swap that the stop brings. -/
theorem State.toPaused_ok (enable : s.pch.enable = true) (pen : s.pch.pen.isSome = true) (recheck : s.pch.recheckTimer = none)
    (fault : s.pch.faultReason = none) (held : s.pch.pauses.none = false) (deaf : s.Deaf) : s.toPaused.ChargerOk := by
  let u : State := { s with pch := s.pch.cleared }
  have mode : s.toPaused.bcd.mode = .off := State.Deaf.toCharger (s := u) deaf rfl
  obtain ⟨_, _, _, p, budget, latch, _, state, waiting, made, reconsidered⟩ := u.toCharger_stops (c := .paused) rfl
  have quiet : p.waiting = none := by
    obtain ⟨_, _, w, pch, discarded⟩ := u.enterCharger_pch_eq .paused
    rw [waiting, pch]
    exact discarded.elim id id
  have bare : p.Bare := by
    rw [made]
    exact ⟨enable, pen, rfl, rfl, recheck, fault, quiet⟩
  have pauses : p.pauses = s.pch.pauses := by rw [made]; rfl
  have wait : p.waitTimer = none := by rw [made]; rfl
  have ok : p.Ok .off := by
    have entered := bare.toPaused (pauses ▸ held) wait
    rwa [← state] at entered
  rw [State.chargerOk_iff, mode]
  exact reconsidered ▸ ok.reconsidered _ _

/-- R139: to WAIT from where the driver stands still. -/
theorem State.toWait_ok (bare : s.pch.Bare) (none : s.pch.pauses.none = true) (idle : s.pch.state.drives = false)
    (stopped : s.pch.driver.running = false) (deaf : s.Deaf) : s.toWait.ChargerOk := by
  rw [State.toWait_idle idle stopped, State.chargerOk_iff]
  have mode : s.bcd.mode = .off := deaf idle
  change ({ s.pch with state := .wait, waitTimer := some (.start s.chg.waitInterval) } : Pch).Ok s.bcd.mode
  rw [mode]
  exact bare.toWait none _

theorem State.toPaused_steered : s.toPaused.pch.Steered :=
  .of_stopped (State.toCharger_stops { s with pch := s.pch.cleared } rfl).2.2.1

theorem State.toWait_steered (idle : s.pch.state.drives = false) (stopped : s.pch.driver.running = false) :
    s.toWait.pch.Steered := by
  rw [State.toWait_idle idle stopped]
  exact .of_stopped stopped

/-! ### A change of the pause reasons -/

theorem State.setPauses_steered (steered : s.pch.Steered) (q : Pauses) : (s.setPauses q).pch.Steered := by
  rcases s.setPausesBy_cases State.toCharger q with ⟨_, e⟩ | ⟨_, _, _, e⟩ | ⟨_, paused, _, e⟩ | ⟨_, _, _, e⟩ <;> rw [State.setPauses, e]
  · exact steered
  · exact State.toPaused_steered (s := { s with pch := { s.pch with pauses := q } })
  · have idle : s.pch.state.drives = false := by simp [paused, ChargerState.drives]
    exact State.toWait_steered (s := { s with pch := { s.pch with pauses := q, attempts := 0 } }) idle (steered.stopped idle)
  · exact steered

theorem State.setPauses_charger (steered : s.pch.Steered) (ok : s.ChargerOk) (q : Pauses) : (s.setPauses q).ChargerOk := by
  rcases s.setPausesBy_cases State.toCharger q with ⟨_, e⟩ | ⟨_, raised, busy, e⟩ | ⟨_, paused, none, e⟩ | ⟨_, quiet, stays, e⟩ <;>
    rw [State.setPauses, e]
  · exact ok
  · have apart : s.pch.state ≠ .off ∧ s.pch.state ≠ .done ∧ s.pch.state ≠ .fault := by
      rcases busy with state | drives
      · simp [state]
      · refine ⟨?_, ?_, ?_⟩ <;> rintro state <;> simp [state, ChargerState.drives] at drives
    obtain ⟨off, done, fault⟩ := apart
    obtain ⟨enable, pen⟩ := ok.on off
    have paused : ({ s with pch := { s.pch with pauses := q } } : State).toPaused.ChargerOk :=
      State.toPaused_ok (s := { s with pch := { s.pch with pauses := q } }) enable pen (by simpa [done] using ok.recheckTimer)
        (by simpa [fault] using ok.faultReason) (Pauses.held_of_raised raised) ok.deaf
    exact paused.congr rfl rfl
  · have idle : s.pch.state.drives = false := by simp [paused, ChargerState.drives]
    have stopped := steered.stopped idle
    obtain ⟨enable, pen⟩ := ok.on (by simp [paused])
    have bare := (State.chargerOk_iff.mp ok).bare enable pen (.inr (.inr paused))
    have tried : ({ s.pch with pauses := q, attempts := 0 } : Pch).Bare :=
      ⟨bare.enable, bare.pen, bare.burst, bare.packet, bare.recheck, bare.fault, bare.waiting⟩
    exact State.toWait_ok (s := { s with pch := { s.pch with pauses := q, attempts := 0 } }) tried none idle stopped ok.deaf
  · refine State.ChargerOk.congr (s := { s with pch := { s.pch with pauses := q } })
      { ok with active := fun busy => ?_, paused := fun paused => ?_ } rfl rfl
    · exact Pauses.none_of_unraised (ok.active busy) (by simpa [show s.pch.state = .wait ∨ s.pch.state.drives = true from busy] using quiet)
    · simpa [show s.pch.state = .paused from paused] using stays

theorem State.rebudget_steered (steered : s.pch.Steered) (p : Spm) : (s.rebudget p).pch.Steered := by
  rcases s.rebudgetBy_cases State.toCharger p with ⟨_, _, e⟩ | ⟨_, e⟩ <;> rw [State.rebudget, e]
  · exact steered
  · exact State.setPauses_steered (s := { s with spm := { p with penClaim := p.claim } }) steered _

theorem State.rebudget_charger (steered : s.pch.Steered) (ok : s.ChargerOk) (p : Spm) : (s.rebudget p).ChargerOk := by
  rcases s.rebudgetBy_cases State.toCharger p with ⟨_, _, e⟩ | ⟨_, e⟩ <;> rw [State.rebudget, e]
  · exact ok.congr rfl rfl
  · exact State.setPauses_charger (s := { s with spm := { p with penClaim := p.claim } }) steered (ok.congr rfl rfl) _

end

section
variable (s : State)

theorem State.rebudget_stays {p : Spm} (lid : p.hallF = s.spm.hallF) (hub : p.hub = s.spm.hub) (system : p.system = s.spm.system)
    (target : p.target = s.spm.target) : s.Stays (s.rebudget p) :=
  (s.rebudget_level lid hub system target).stays (fun steered => State.rebudget_steered steered p)
    fun steered ok => State.rebudget_charger steered ok p

theorem State.handLimit_stays : s.Stays s.handLimit := s.rebudget_stays rfl rfl rfl rfl

theorem State.setPower_stays (r : Option PowerReport) : s.Stays (s.setPower r) := s.rebudget_stays rfl rfl rfl rfl

theorem State.setLatchClaim_stays (mA : Nat) : s.Stays (s.setLatchClaim mA) := s.rebudget_stays rfl rfl rfl rfl

end

section
variable {s t : State}

/-- R173: SLEEP is right once it has been judged, whatever it was before. -/
theorem State.Tends.judged (h : s.Tends t) : s.Stays t.judgeSleep := by
  have level := t.setPauses_level { t.pch.pauses with sleep := t.sleepWanted }
  obtain ⟨thermal, supply, sleep⟩ := level.reasons
  have senses := level.senses
  have same : t.SameSenses t.judgeSleep :=
    ⟨senses.windows, senses.channel, senses.hallF, senses.hallR, senses.lid, senses.pen⟩
  refine { senses := h.senses.trans same,
           thermal := thermal.trans h.thermal, supply := supply.trans h.supply,
           accounts := fun ok => level.accounts ?_, steered := fun steered => ?_, charger := fun steered ok => ?_, sleep := fun _ => ?_ }
  · obtain ⟨claim, budget, latch⟩ := h.accounts ok
    exact ⟨claim, budget, latch⟩
  · exact State.setPauses_steered (h.steered steered) _
  · exact State.setPauses_charger (h.steered steered) (h.charger steered ok) _
  · exact sleep.trans level.wanted.symm

theorem State.judgeSleep_stays (s : State) : s.Stays s.judgeSleep := (State.Stays.refl s).toTends.judged

end

end Sys2Proof.Machine
end

section
/-!
PROOFS. O55, the charger's own operations stay with its invariants (`State.Stays`): IDENT, CHARGE and its stages, DONE and FAULT,
regulation, packets, the CHARGE swap and the period boundary.
-/

namespace Sys2Proof.Machine

/-! ### Where the charger keeps its bearings -/

/-- What `Pch.Ok` reads of the charger's record. -/
def Pch.frame (p : Pch) :=
  ((p.state, p.enable, p.pauses), (p.waitTimer.isSome, p.burstTimer.isSome, p.packetTimer.isSome, p.recheckTimer.isSome),
    p.faultReason.isSome, p.waiting.map Waiting.entry, p.pen.isSome, (p.pen.bind PenRecord.stage).isSome)

theorem Pch.Ok.congr {p q : Pch} {mode : CaptureMode} (ok : p.Ok mode) (same : q.frame = p.frame) : q.Ok mode := by
  simp only [Pch.frame, Prod.mk.injEq] at same
  obtain ⟨⟨state, enable, pauses⟩, ⟨wait, burst, packet, recheck⟩, fault, waiting, pen, stage⟩ := same
  have quiet : q.waiting = none ↔ p.waiting = none := by
    rw [← Option.map_eq_none_iff (f := Waiting.entry), waiting, Option.map_eq_none_iff]
  constructor <;> simp only [state, enable, pauses, wait, burst, packet, recheck, fault, pen, stage, quiet]
  · exact ok.on
  · exact ok.active
  · exact ok.paused
  · exact ok.waitTimer
  · exact ok.burstTimer
  · exact ok.packetTimer
  · exact ok.recheckTimer
  · exact ok.faultReason
  · intro w waits
    rw [waits, Option.map_some, eq_comm, Option.map_eq_some_iff] at waiting
    obtain ⟨v, was, entry⟩ := waiting
    rw [← entry]
    exact ok.waiting v was
  · exact ok.capture
  · exact ok.resonance
  · exact ok.stage

section
variable {s t : State}

/-- The charger's record moves by nothing that its invariants read, beside the driver. -/
theorem State.Stays.record (around : t.around = s.around) (mode : t.bcd.mode = s.bcd.mode) (frame : t.pch.frame = s.pch.frame)
    (steered : s.pch.Steered → t.pch.Steered) : s.Stays t := by
  have pauses : t.pch.pauses = s.pch.pauses := congrArg (fun f => f.1.2.2) frame
  have pen : t.pch.pen.isSome = s.pch.pen.isSome := congrArg (fun f => f.2.2.2.2.1) frame
  refine (State.Level.of_pch around pauses pen).stays steered fun _ ok => ?_
  rw [State.chargerOk_iff, mode]
  exact (State.chargerOk_iff.mp ok).congr frame

theorem Pch.frame_driver (p : Pch) (d : Driver) : ({ p with driver := d } : Pch).frame = p.frame := rfl

theorem Pch.settle_frame (p : Pch) : p.settle.frame = p.frame := by rw [Pch.settle_eq, Pch.frame_driver]

end

/-! ### Blanking -/

section
variable (s : State)

theorem State.penNotice_stays : s.Stays s.penNotice := .same rfl

theorem State.requestBlanking_stays : s.Stays s.requestBlanking := by
  refine .record rfl rfl rfl fun steered runs => ?_
  obtain ⟨drives, free⟩ := steered runs
  refine ⟨drives, ?_⟩
  simp only [State.requestBlanking]
  split
  · simp
  · exact free

theorem State.dataLeft_stays : s.Stays s.dataLeft := by
  unfold State.dataLeft
  split
  · exact s.requestBlanking_stays
  · exact .refl s

theorem State.releaseBlanking_stays : s.Stays s.releaseBlanking :=
  .record rfl rfl (Pch.settle_frame _) fun _ => Pch.settle_steered _

theorem State.granted_stays : s.Stays s.granted := .record rfl rfl (Pch.settle_frame _) fun _ => Pch.settle_steered _

/-! ### IDENT, DONE and FAULT -/

theorem State.toIdent_pch (kind : BurstKind) :
    ∃ driver blanking, (s.toIdent kind).pch = { s.pch with
      state := .ident, burstKind := kind, penIdMark := false, burstTimer := some (.start s.chg.identBurst)
      waitTimer := none, recheckTimer := none, packetTimer := none, waiting := none, checkTicks := some 0
      driver := driver, blanking := blanking } := by
  unfold State.toIdent
  dsimp only
  rw [State.penNotice_pch, State.capture_pch]
  dsimp only
  rw [Pch.settle_eq]
  exact ⟨_, _, rfl⟩

/-- R140: a burst begins from WAIT, CHARGE or DONE, with no pause reason left. -/
theorem State.toIdent_stays (kind : BurstKind)
    (from' : s.ChargerOk → s.pch.state ≠ .off ∧ s.pch.state ≠ .fault ∧ s.pch.pauses.none = true) : s.Stays (s.toIdent kind) := by
  refine (s.toIdent_level kind).stays (fun _ => ?_) fun _ ok => ?_
  · have settled := State.capture_steered (s := { s with pch := Pch.settle { s.pch with
        state := .ident, burstKind := kind, penIdMark := false, burstTimer := some (.start s.chg.identBurst)
        waitTimer := none, recheckTimer := none, packetTimer := none, waiting := none, checkTicks := some 0
        driver := s.pch.driver.writeDuty (s.stage 0).dutyMin } }) (Pch.settle_steered _) .resonance
    exact settled
  · obtain ⟨on, fine, none⟩ := from' ok
    obtain ⟨enable, pen⟩ := ok.on on
    have fault : s.pch.faultReason = Option.none := by simpa [fine] using ok.faultReason
    obtain ⟨driver, blanking, pch⟩ := s.toIdent_pch kind
    rw [State.chargerOk_iff, (s.toIdent_identifies kind).1.mode, pch]
    constructor <;> simp [enable, pen, none, fault, ChargerState.drives]

/-- R149: DONE is entered from where a pen is charged. -/
theorem State.toDone_stays (from' : s.ChargerOk → s.pch.state.drives = true) : s.Stays s.toDone := by
  obtain ⟨_, _, running, _⟩ := s.toCharger_stops (c := .done) rfl
  refine s.toDone_level.stays (fun _ => .of_stopped running) fun _ ok => ?_
  have drives := from' ok
  have on : s.pch.state ≠ .off := fun off => by simp [off, ChargerState.drives] at drives
  have waits : s.pch.state ≠ .wait := fun off => by simp [off, ChargerState.drives] at drives
  have fine : s.pch.state ≠ .fault := fun off => by simp [off, ChargerState.drives] at drives
  obtain ⟨enable, pen⟩ := ok.on on
  have fault : s.pch.faultReason = none := by simpa [fine] using ok.faultReason
  have wait : s.pch.waitTimer = none := by simpa [waits] using ok.waitTimer
  have mode : s.toDone.bcd.mode = .off := ok.deaf.toCharger (c := .done) rfl
  have pch := s.toCharger_rests_pch (c := .done) (.inr (.inl rfl))
  rw [State.chargerOk_iff, mode]
  unfold State.toDone
  rw [State.penNotice_pch]
  dsimp only at pch ⊢
  rw [pch]
  constructor <;> simp [enable, pen, fault, wait, ChargerState.drives]

/-- R150: FAULT is entered from where a pen is. -/
theorem State.toFault_ok (r : FaultReason) (code : Option Byte) (enable : s.pch.enable = true) (pen : s.pch.pen.isSome = true)
    (deaf : s.Deaf) : (s.toFault r code).ChargerOk := by
  have mode : (s.toFault r code).bcd.mode = .off := deaf.toCharger (c := .fault) rfl
  have pch := s.toCharger_rests_pch (c := .fault) (.inr (.inr rfl))
  rw [State.chargerOk_iff, mode]
  refine Pch.stopTimers_fault ?_ ?_ ?_ r code <;> rw [pch]
  · exact enable
  · exact pen

theorem State.toFault_steered (r : FaultReason) (code : Option Byte) : (s.toFault r code).pch.Steered :=
  .of_stopped (s.toCharger_stops (c := .fault) rfl).2.2.1

theorem State.toFault_stays (r : FaultReason) (code : Option Byte) (from' : s.ChargerOk → s.pch.state ≠ .off) :
    s.Stays (s.toFault r code) :=
  (s.toFault_level r code).stays (fun _ => s.toFault_steered r code) fun _ ok => by
    obtain ⟨enable, pen⟩ := ok.on (from' ok)
    exact s.toFault_ok r code enable pen ok.deaf

end

/-! ### Bursts and packets that fail -/

section
variable {s : State}

/-- R141: where a failed burst leaves the charger before the attempt is judged. -/
theorem State.burstEnded_bare (ident : s.pch.state = .ident) (ok : s.ChargerOk) : s.burstEnded.pch.Bare := by
  let u : State := { s with pch.burstTimer := none, pch.checkTicks := none, pch.burstKind := .full }
  obtain ⟨enable, pen⟩ := ok.on (by simp [ident])
  obtain ⟨_, _, _, p, budget, latch, atMost, state, waiting, made, reconsidered⟩ := u.toCharger_stops (c := .wait) rfl
  have quiet : (u.enterCharger .wait).pch.waiting = none := by
    rcases u.enterCharger_cases .wait with ⟨_, _, e⟩ | ⟨idle | drives, _⟩
    · rw [e, State.capture_pch]
    · simp [u, ident, ChargerState.drives] at idle
    · cases drives
  have bare : p.Bare := by
    rw [made]
    exact ⟨enable, pen, rfl, by simpa [ident] using ok.packetTimer, by simpa [ident] using ok.recheckTimer,
      by simpa [ident] using ok.faultReason, waiting.trans quiet⟩
  have ended : s.burstEnded.pch = p.reconsidered { u.pch.pauses with budget := budget, latch := latch } _ := reconsidered
  rw [ended]
  rcases p.reconsidered_cases _ _ with ⟨_, e⟩ | ⟨_, _, _, e⟩ | ⟨_, paused, _⟩ | ⟨_, _, _, e⟩
  · rw [e]
    exact bare
  · rw [e]
    exact ⟨bare.enable, bare.pen, rfl, rfl, bare.recheck, bare.fault, rfl⟩
  · simp [state] at paused
  · rw [e]
    exact ⟨bare.enable, bare.pen, bare.burst, bare.packet, bare.recheck, bare.fault, bare.waiting⟩

theorem State.burstFailed_stays (ident : s.pch.state = .ident) : s.Stays s.burstFailed := by
  have drove : s.pch.state.drives = true := by rw [ident]; rfl
  obtain ⟨_, _, _, mode, running, idle, _⟩ := State.burstEnded_spec drove
  have ended : s.Level s.burstEnded := (State.toCharger_level _ .wait).after (.of_pch rfl rfl rfl)
  have attempted : s.Level s.attempted := ended.trans (.of_pch rfl rfl rfl)
  have bare (ok : s.ChargerOk) : s.attempted.pch.Bare := by
    obtain ⟨enable, pen, burst, packet, recheck, fault, waiting⟩ := State.burstEnded_bare ident ok
    exact ⟨enable, pen, burst, packet, recheck, fault, waiting⟩
  have deaf : s.attempted.Deaf := fun _ => mode
  rw [s.burstFailed_eq]
  split
  · exact (attempted.trans (State.toFault_level _ _ _)).stays (fun _ => State.toFault_steered _ _ _)
      fun _ ok => State.toFault_ok _ _ _ (bare ok).enable (bare ok).pen deaf
  · split
    · rename_i free
      exact (attempted.trans (State.toWait_level _)).stays (fun _ => State.toWait_steered (s := s.attempted) idle running)
        fun _ ok => State.toWait_ok (bare ok) free idle running deaf
    · rename_i held
      exact (attempted.trans (State.toPaused_level _)).stays (fun _ => State.toPaused_steered)
        fun _ ok => State.toPaused_ok (bare ok).enable (bare ok).pen (bare ok).recheck (bare ok).fault (by simpa using held) deaf

theorem State.packetTimedOut_stays (charge : s.pch.state = .charge) : s.Stays s.packetTimedOut := by
  have counted (n attempts : Nat) (t : Timer) (runs : s.ChargerOk → s.pch.packetTimer.isSome = true) :
      s.Stays { s with pch := { s.pch with timeouts := n, packetTimer := some t, attempts := attempts } } := by
    have level : s.Level { s with pch := { s.pch with timeouts := n, packetTimer := some t, attempts := attempts } } :=
      .of_pch rfl rfl rfl
    exact level.stays (fun steered => steered) fun _ ok =>
      State.chargerOk_iff.mpr ((State.chargerOk_iff.mp ok).congr (by simp [Pch.frame, runs ok]))
  have runs (ok : s.ChargerOk) : s.pch.packetTimer.isSome = true := by simpa [charge] using ok.packetTimer
  unfold State.packetTimedOut
  dsimp only
  split
  · refine (State.toIdent_stays _ _ fun ok => ⟨?_, ?_, ok.active ?_⟩).after (counted _ 0 _ runs) <;> simp [charge, ChargerState.drives]
  · exact counted _ s.pch.attempts _ runs

theorem State.recheck_stays (done : s.pch.state = .done) :
    s.Stays (if s.pch.pauses.none then s.toIdent .recheck
      else { s with pch := { s.pch with recheckTimer := some (.start (s.chg.recheckInterval * 1000)) } }) := by
  split
  · rename_i none
    exact s.toIdent_stays .recheck fun _ => by simp [done, none]
  · have level : s.Level { s with pch := { s.pch with recheckTimer := some (.start (s.chg.recheckInterval * 1000)) } } :=
      .of_pch rfl rfl rfl
    exact level.stays (fun steered => steered) fun _ ok =>
      State.chargerOk_iff.mpr ((State.chargerOk_iff.mp ok).congr (by simp [Pch.frame, ok.recheckTimer, done]))

/-! ### Control -/

/-- R139, R137, R151: out of OFF, with a pen and charging enabled. -/
theorem State.waitFromOff_stays (enable : s.pch.enable = true) (pen : s.pch.pen.isSome = true) (off : s.pch.state = .off) :
    s.Stays s.waitFromOff := by
  have idle : s.pch.state.drives = false := by rw [off]; rfl
  have bare (ok : s.ChargerOk) : ({ s.pch with attempts := 0 } : Pch).Bare := by
    obtain ⟨_, _, burst, packet, recheck, fault, waiting⟩ := (State.chargerOk_iff.mp ok).bare enable pen (.inl off)
    exact ⟨enable, pen, burst, packet, recheck, fault, waiting⟩
  refine s.waitFromOff_level.stays (fun steered => ?_) fun steered ok => ?_ <;> unfold State.waitFromOff <;> dsimp only <;> split
  · exact State.toWait_steered (s := { s with pch := { s.pch with attempts := 0 } }) idle (steered.stopped idle)
  · exact State.toPaused_steered
  · rename_i none
    exact State.toWait_ok (s := { s with pch := { s.pch with attempts := 0 } }) (bare ok) none idle (steered.stopped idle) ok.deaf
  · rename_i held
    exact State.toPaused_ok (s := { s with pch := { s.pch with attempts := 0 } }) enable pen (bare ok).recheck (bare ok).fault
      (by simpa using held) ok.deaf

theorem State.enableCharging_stays : s.Stays s.enableCharging := by
  have enabled : s.Stays { s with pch := { s.pch with enable := true } } := by
    have level : s.Level { s with pch := { s.pch with enable := true } } := .of_pch rfl rfl rfl
    exact level.stays (fun steered => steered) fun _ ok => State.chargerOk_iff.mpr
      { State.chargerOk_iff.mp ok with on := fun on => ⟨rfl, (ok.on on).2⟩ }
  unfold State.enableCharging
  dsimp only
  split
  · rename_i goes
    exact (State.waitFromOff_stays (s := { s with pch := { s.pch with enable := true } }) rfl goes.2 goes.1).after enabled
  · exact enabled

/-- OFF, with everything of a pen's charging cleared. -/
theorem Pch.stopTimers_off {p : Pch} (state : p.state = .off) (code : Option Byte) (attempts overcurrent timeouts : Nat)
    (pen : Option PenRecord) : ({ p.stopTimers with
      faultReason := none, faultCode := code, attempts := attempts, overcurrent := overcurrent, timeouts := timeouts
      pen := pen } : Pch).Ok .off := by
  constructor <;> simp [Pch.stopTimers, state, ChargerState.drives]

theorem State.switchedOff_stays : s.Stays s.switchedOff := by
  let u : State := { s with pch := { s.pch with enable := false } }
  have moved : s.Level (u.toCharger .off) := (u.toCharger_level .off).after (.of_pch rfl rfl rfl)
  have level : s.Level s.switchedOff := moved.trans (.of_pch rfl rfl (by simp [State.switchedOff, u]))
  have running : s.switchedOff.pch.driver.running = false := (u.toCharger_stops (c := .off) rfl).2.2.1
  refine level.stays (fun _ => .of_stopped running) fun _ ok => ?_
  have mode : s.switchedOff.bcd.mode = .off := State.Deaf.toCharger (s := u) (c := .off) ok.deaf rfl
  rw [State.chargerOk_iff, mode]
  exact Pch.stopTimers_off (u.toCharger_rests (.inl rfl)).1 none 0 0 0 _

theorem State.disable_stays : s.Stays s.disable := by
  rw [s.disable_eq]
  split
  · rename_i off
    have level : s.Level { s with pch := { s.pch with enable := false } } := .of_pch rfl rfl rfl
    exact (State.penNotice_stays _).after (level.stays (fun steered => steered) fun _ ok => State.chargerOk_iff.mpr
      { State.chargerOk_iff.mp ok with on := fun on => absurd off on })
  · exact (State.penNotice_stays _).after ((State.handLimit_stays _).after s.switchedOff_stays)

theorem State.chargeControl_stays (enable : Bool) (cap : Nat) : s.Stays (s.chargeControl enable cap) := by
  have capped : s.Stays (s.rebudget { s.spm with cap := min cap 1000 }) := s.rebudget_stays rfl rfl rfl rfl
  unfold State.chargeControl
  dsimp only
  split
  · exact State.disable_stays.after capped
  · exact State.enableCharging_stays.after capped
  · exact capped

end

end Sys2Proof.Machine
end

section
/-!
PROOFS. O55, continued: entries and stage changes made at their boundary, the CHARGE swap, regulation, packets and the decoder.
-/

namespace Sys2Proof.Machine

/-! ### Entries and changes of stage -/

section
variable {s : State}

/-- R128: in a steered charger an entry to CHARGE stops no driver, and so brings no swap. -/
theorem State.toCharger_charge_steered (steered : s.pch.Steered) :
    s.toCharger .charge = { s with pch := ({ s.pch with state := .charge } : Pch).settle } := by
  have entered : s.enterCharger .charge = { s with pch := ({ s.pch with state := .charge } : Pch).settle } := by
    rcases s.enterCharger_cases .charge with ⟨_, stops, _⟩ | ⟨_, e⟩
    · cases stops
    · exact e
  rcases s.toCharger_cases .charge with ⟨runs, stopped, _, _⟩ | ⟨_, e⟩
  · rw [entered, Pch.settle_running] at stopped
    simp [ChargerState.drives, (steered runs).2] at stopped
  · exact e.trans entered

/-- R142: what waits for IDENT's boundary is an entry, after the resonance has been measured. -/
theorem State.entryMade_stays {w : Waiting} (waits : s.pch.waiting = some w) (entry : w.entry = true) : s.Stays (s.entryMade w.stage) := by
  refine (s.entryMade_level w.stage).stays (fun steered => ?_) fun steered ok => ?_
  · have settled := Pch.settle_steered { s.pch with state := .charge }
    unfold State.entryMade
    rw [State.toCharger_charge_steered steered]
    exact settled
  · have ident : s.pch.state = .ident := by simpa [entry] using ok.waiting w waits
    obtain ⟨enable, pen⟩ := ok.on (by simp [ident])
    have none : s.pch.pauses.none = true := ok.active (by simp [ident, ChargerState.drives])
    have wait : s.pch.waitTimer = Option.none := by simpa [ident] using ok.waitTimer
    have burst : s.pch.burstTimer = Option.none := by
      cases runs : s.pch.burstTimer with
      | none => rfl
      | some _ => simp [(ok.burstTimer (by simp [runs])).2] at waits
    have recheck : s.pch.recheckTimer = Option.none := by simpa [ident] using ok.recheckTimer
    have fault : s.pch.faultReason = Option.none := by simpa [ident] using ok.faultReason
    have heard : s.bcd.mode ≠ .off := fun off => by simpa [ident, ChargerState.drives] using ok.capture.mp off
    have measured : s.bcd.mode ≠ .resonance := fun resonance => by simp [(ok.resonance resonance).2] at waits
    obtain ⟨p, present⟩ := Option.isSome_iff_exists.mp pen
    rw [State.chargerOk_iff]
    unfold State.entryMade
    rw [State.toCharger_charge_steered steered]
    dsimp only
    rw [Pch.settle_eq]
    constructor <;> simp [enable, present, none, wait, burst, recheck, fault, heard, measured, ChargerState.drives]

/-- R143: what waits in CHARGE is a change of stage. -/
theorem State.changeMade_stays {w : Waiting} (waits : s.pch.waiting = some w) (change : w.entry = false) :
    s.Stays (s.changeMade w.stage) := by
  refine (s.changeMade_level w.stage).stays (fun steered => steered) fun steered ok => ?_
  have charge : s.pch.state = .charge := by simpa [change] using ok.waiting w waits
  obtain ⟨_, pen⟩ := ok.on (by simp [charge])
  obtain ⟨p, present⟩ := Option.isSome_iff_exists.mp pen
  refine State.chargerOk_iff.mpr { State.chargerOk_iff.mp ok with
    on := fun on => ⟨(ok.on on).1, ?_⟩, burstTimer := fun burst => ⟨(ok.burstTimer burst).1, rfl⟩
    waiting := fun w waits => ?_, resonance := fun resonance => ⟨(ok.resonance resonance).1, rfl⟩, stage := fun _ => ?_ }
  · simp [State.changeMade, present]
  · cases waits
  · simp [State.changeMade, present]

end

section
variable (s : State)

theorem State.makeWaiting_stays : s.Stays s.makeWaiting := by
  unfold State.makeWaiting
  split
  · rename_i w waits
    split
    · rename_i entry
      exact (State.penNotice_stays _).after ((State.handLimit_stays _).after (State.entryMade_stays waits entry))
    · rename_i change
      exact (State.penNotice_stays _).after
        ((State.handLimit_stays _).after (State.changeMade_stays waits (by simpa using change)))
  · exact .refl s

/-! ### The CHARGE swap and the period boundary -/

theorem Driver.adopt_running (d : Driver) (period dead duty oldN newN : Nat) :
    (d.adopt period dead duty oldN newN).running = d.running := by
  unfold Driver.adopt
  dsimp only
  split
  · split <;> rfl
  · rfl

theorem State.swapLoaded_stays : s.Stays s.swapLoaded := by
  have imaged : s.Stays s.swapImaged := by
    refine .record rfl rfl ?_ fun steered => steered
    have entry : (s.pch.waiting.map (s.swapTable .charge).restaged).map Waiting.entry = s.pch.waiting.map Waiting.entry := by
      rw [Option.map_map]
      refine Option.map_congr fun w _ => ?_
      unfold Function.comp State.restaged
      split <;> rfl
    simp only [Pch.frame, State.swapImaged, entry]
    rfl
  have chosen : s.swapImaged.Stays s.swapImaged.rechoose := by
    rcases s.swapImaged.rechoose_cases with ⟨i, _, _, names, _, e⟩ | ⟨_, e⟩ <;> rw [e]
    · obtain ⟨p, present, stage⟩ := Option.bind_eq_some_iff.mp names
      exact .record rfl rfl (by simp [Pch.frame, present, stage]) fun steered => steered
    · exact .refl _
  refine (imaged.trans chosen).trans (.record rfl rfl rfl fun steered => ?_)
  unfold State.swapLoaded Pch.Steered
  dsimp only
  rw [Driver.adopt_running]
  exact steered

theorem State.swapCharge_stays : s.Stays s.swapCharge :=
  (State.handLimit_stays _).after ((State.makeWaiting_stays _).after s.swapLoaded_stays)

theorem State.grantBlanking_stays : s.Stays s.grantBlanking := by
  rw [s.grantBlanking_eq]
  split
  · exact (State.swapCharge_stays _).after s.granted_stays
  · exact s.granted_stays

theorem State.boundary_stays (runs : s.pch.driver.running = true) : s.Stays s.boundary := by
  unfold State.boundary
  split
  · exact s.swapCharge_stays
  · exact (State.makeWaiting_stays _).after (.record rfl rfl rfl fun steered _ => steered runs)

theorem State.periodBoundary_stays (runs : s.pch.driver.running = true) : s.Stays s.periodBoundary := by
  unfold State.periodBoundary
  dsimp only
  split
  · exact (State.grantBlanking_stays _).after (s.boundary_stays runs)
  · exact s.boundary_stays runs

/-! ### Regulation -/

theorem State.writeStep_stays (duty : Nat) : s.Stays (s.writeStep duty) := .record rfl rfl rfl fun steered => steered

theorem State.regulate_stays (coilI : Nat) : s.Stays (s.regulate coilI) := by
  unfold State.regulate
  dsimp only
  split
  · rename_i drives
    have on : s.pch.state ≠ .off := fun off => by simp [off, ChargerState.drives] at drives
    split
    · split
      · split
        · refine (State.toFault_stays _ _ _ fun _ => ?_).after ((s.writeStep_stays _).trans (.record rfl rfl rfl fun steered => steered))
          exact on
        · exact (s.writeStep_stays _).trans (.record rfl rfl rfl fun steered => steered)
      · exact (s.writeStep_stays _).trans (.record rfl rfl rfl fun steered => steered)
    · exact (s.writeStep_stays _).trans (.record rfl rfl rfl fun steered => steered)
  · exact .refl s

theorem State.adjust_stays (v : Int) : s.Stays (s.adjust v) := s.writeStep_stays _

end

/-! ### Packets -/

section
variable {s : State}

/-- A field of the pen record changes that names no stage. -/
theorem State.setPen_stays {old p : PenRecord} (present : s.pch.pen = some old) (stage : p.stage = old.stage) : s.Stays (s.setPen p) := by
  have moved : s.Stays { s with pch := { s.pch with pen := some p } } :=
    .record rfl rfl (by simp [Pch.frame, present, stage]) fun steered => steered
  unfold State.setPen
  dsimp only
  split
  · split
    · exact moved
    · exact (State.penNotice_stays _).after moved
  · exact moved

/-- R141: an entry waits once the resonance has been measured. -/
theorem State.awaitCharge_stays (b : Nat) (ident : s.pch.state = .ident) (measured : s.bcd.mode ≠ .resonance) :
    s.Stays (s.awaitCharge b) := by
  have level : s.Level (s.awaitCharge b) := .of_pch rfl rfl rfl
  refine level.stays (fun steered => steered) fun _ ok => State.chargerOk_iff.mpr { State.chargerOk_iff.mp ok with
    burstTimer := fun burst => ?_, waiting := fun w waits => ?_, resonance := fun resonance => absurd resonance measured }
  · cases burst
  · obtain rfl := Option.some.inj waits
    exact ident

theorem State.batteryInIdent_stays (b : Nat) (ident : s.pch.state = .ident) (measured : s.bcd.mode ≠ .resonance) :
    s.Stays (s.batteryInIdent b) := by
  unfold State.batteryInIdent
  split
  · split
    · exact State.awaitCharge_stays b ident measured
    · exact .refl s
  · split
    · exact State.awaitCharge_stays b ident measured
    · have level : s.Level { s with pch := { s.pch with burstTimer := none } } := .of_pch rfl rfl rfl
      have ended : s.Stays { s with pch := { s.pch with burstTimer := none } } :=
        level.stays (fun steered => steered) fun _ ok => State.chargerOk_iff.mpr { State.chargerOk_iff.mp ok with
          burstTimer := fun burst => by cases burst }
      exact (State.toDone_stays _ fun _ => by simp [ident, ChargerState.drives]).after ended

theorem State.batteryInCharge_stays (b : Nat) (charge : s.pch.state = .charge) : s.Stays (s.batteryInCharge b) := by
  unfold State.batteryInCharge
  dsimp only
  split
  · exact .refl s
  · split
    · have level : s.Level { s with pch := { s.pch with
          waiting := some ⟨s.stageInForce + 1, false⟩
          driver := s.pch.driver.writeDuty (s.clampDuty (s.stageInForce + 1) s.pch.driver.dutyB) } } := .of_pch rfl rfl rfl
      refine level.stays (fun steered => steered) fun _ ok => State.chargerOk_iff.mpr { State.chargerOk_iff.mp ok with
        burstTimer := fun burst => ?_, waiting := fun w waits => ?_, resonance := fun resonance => ?_ }
      · exact absurd (ok.burstTimer burst).1 (by simp [charge])
      · obtain rfl := Option.some.inj waits
        exact charge
      · exact absurd (ok.resonance resonance).1 (by simp [charge])
    · exact s.toDone_stays fun _ => by simp [charge, ChargerState.drives]

theorem State.packetRecorded_stays (kind value : Byte) : s.Stays (s.packetRecorded kind value) := by
  have told : s.Stays { s with
      bcd := { s.bcd with last := some ⟨kind, value, s.ticks⟩ }
      pch := { s.pch with pen := s.pch.pen.map fun (p : PenRecord) => { p with age := some 0 } } } :=
    .record rfl rfl (by cases present : s.pch.pen <;> simp [Pch.frame, present]) fun steered => steered
  unfold State.packetRecorded
  dsimp only
  split
  · rename_i charge
    refine told.trans ?_
    have level : State.Level { s with
        bcd := { s.bcd with last := some ⟨kind, value, s.ticks⟩ }
        pch := { s.pch with pen := s.pch.pen.map fun (p : PenRecord) => { p with age := some 0 } } } { s with
        bcd := { s.bcd with last := some ⟨kind, value, s.ticks⟩ }
        pch := { s.pch with
          pen := s.pch.pen.map fun (p : PenRecord) => { p with age := some 0 }
          packetTimer := some (.start s.chg.packetTimeout), timeouts := 0 } } := .of_pch rfl rfl rfl
    exact level.stays (fun steered => steered) fun _ ok => State.chargerOk_iff.mpr { State.chargerOk_iff.mp ok with
      packetTimer := by simp [charge] }
  · exact told

theorem State.packetActs_stays (kind value : Byte) (measured : s.bcd.mode ≠ .resonance) : s.Stays (s.packetActs kind value) := by
  unfold State.packetActs
  split
  · rename_i p present drives
    have on : s.pch.state ≠ .off := fun off => by simp [off, ChargerState.drives] at drives
    split
    · have identified := State.setPen_stays (p := { p with identity := some value }) present rfl
      dsimp only
      split
      · exact identified.trans (.record rfl rfl rfl fun steered => steered)
      · exact identified
    · split
      · have level := State.setPen_stays (p := { p with battery := some (min value.toNat 100) }) present rfl
        have pch := s.setPen_pch { p with battery := some (min value.toNat 100) }
        have bcd : (s.setPen { p with battery := some (min value.toNat 100) }).bcd = s.bcd := by simp
        dsimp only
        split
        · rename_i ident
          exact (State.batteryInIdent_stays _ ident (by rwa [bcd])).after level
        · rename_i other
          refine (State.batteryInCharge_stays _ ?_).after level
          rw [pch] at other ⊢
          simpa [ChargerState.drives, show s.pch.state ≠ .ident from other] using drives
      · split
        · split
          · exact s.adjust_stays _
          · exact .refl s
        · split
          · exact s.toDone_stays fun _ => drives
          · split
            · exact s.toFault_stays _ _ fun _ => on
            · exact .refl s
  · exact .refl s

theorem State.deliver_stays (kind value : Byte) (measured : s.bcd.mode ≠ .resonance) : s.Stays (s.deliver kind value) := by
  rw [s.deliver_eq]
  refine (State.packetActs_stays _ _ ?_).after (State.packetRecorded_stays kind value)
  have mode : (s.packetRecorded kind value).bcd.mode = s.bcd.mode := by
    unfold State.packetRecorded
    dsimp only
    split <;> rfl
  rwa [mode]

/-! ### The resonance measurement -/

theorem State.judgeInterval_stays (ticks : Nat) (measures : s.bcd.mode = .resonance) : s.Stays (s.judgeInterval ticks) := by
  unfold State.judgeInterval
  split
  · let u : State := { s with pch := { s.pch with checkTicks := none } }
    have level : s.Level (u.capture .edge) := (u.capture_level .edge).after (.of_pch rfl rfl rfl)
    refine level.stays (fun steered => State.capture_steered (s := u) steered .edge) fun _ ok => ?_
    have drives : s.pch.state.drives = true := by rw [(ok.resonance measures).1]; rfl
    rw [State.chargerOk_iff, State.capture_bcd, State.capture_pch]
    exact { State.chargerOk_iff.mp ok with
      capture := by simp [u, drives], resonance := fun other => by cases other }
  · exact s.toFault_stays _ _ fun ok => by simp [(ok.resonance measures).1]

theorem State.risingEdge_stays (stamp : Stamp) (measures : s.bcd.mode = .resonance) : s.Stays (s.risingEdge stamp) := by
  unfold State.risingEdge
  split
  · exact .same rfl
  · dsimp only
    split
    · refine (State.judgeInterval_stays _ ?_).after (.same rfl)
      exact measures
    · exact .same rfl

/-! ### The decoder -/

theorem State.packetBroken_stays : s.Stays s.packetBroken := by
  rw [s.packetBroken_eq]
  exact .record rfl rfl (by cases present : s.pch.pen <;> simp [Pch.frame, present]) fun steered => steered

theorem State.checkFailed_stays : s.Stays s.checkFailed := by
  rw [s.checkFailed_eq]
  exact .record rfl rfl (by cases present : s.pch.pen <;> simp [Pch.frame, present]) fun steered => steered

theorem State.violation_stays : s.Stays s.violation := by
  have hunts : s.Stays { s with bcd := s.bcd.toHunt } := .same rfl
  unfold State.violation
  dsimp only
  split
  · exact State.packetBroken_stays.after ((State.dataLeft_stays _).after hunts)
  · exact hunts

theorem State.dataLeft_bcd (s : State) : s.dataLeft.bcd = s.bcd := by
  rcases s.dataLeft_cases with ⟨_, e⟩ | ⟨_, e⟩ <;> rw [e]

theorem State.complete_stays (acc : BitVec 24) (measured : s.bcd.mode ≠ .resonance) : s.Stays (s.complete acc) := by
  have left : s.Stays ({ s with bcd := s.bcd.toHunt } : State).dataLeft := (State.dataLeft_stays _).after (.same rfl)
  unfold State.complete
  dsimp only
  split
  · refine (State.deliver_stays _ _ ?_).after left
    rw [State.dataLeft_bcd]
    exact measured
  · exact State.checkFailed_stays.after left

theorem State.takeBit_stays (one : Bool) (measured : s.bcd.mode ≠ .resonance) : s.Stays (s.takeBit one) := by
  unfold State.takeBit
  split
  · split
    · exact .same rfl
    · exact .refl s
  · split
    · exact .same rfl
    · split <;> exact .same rfl
  · dsimp only
    split
    · exact State.complete_stays _ measured
    · exact .same rfl

theorem State.takeSymbol_stays (y : Symbol) (measured : s.bcd.mode ≠ .resonance) : s.Stays (s.takeSymbol y) := by
  unfold State.takeSymbol
  split
  · exact .same rfl
  · refine (State.takeBit_stays _ ?_).after (.same rfl)
    exact measured
  · exact State.violation_stays

theorem State.silence_stays : s.Stays s.silence := State.violation_stays.after (.same rfl)

theorem State.edge_stays (stamp : Stamp) (measured : s.bcd.mode ≠ .resonance) : s.Stays (s.edge stamp) := by
  unfold State.edge
  split
  · exact .same rfl
  · split
    · exact State.silence_stays.trans (.same rfl)
    · refine (State.takeSymbol_stays _ ?_).after (.same rfl)
      exact measured

end

end Sys2Proof.Machine
end

section
/-!
PROOFS. O55: the power manager, the latch unit, the posture and angle engine and the router stay with the invariants of the senses, the
pause reasons and the charger (`State.Stays`).
-/

namespace Sys2Proof.Machine

section
variable (s : State)

theorem State.notice_stays (n : Notice) : s.Stays (s.notice n) := .same rfl

theorem State.event_stays (c : EventCode) : s.Stays (s.event c) := .same rfl

theorem State.bumpBy_stays (k : Counter) (n : Nat) : s.Stays (s.bumpBy k n) := by
  rcases s.bumpBy_cases k n with ⟨_, _, e⟩ | ⟨_, e⟩ <;> rw [e]
  · exact .same rfl
  · exact .same rfl

theorem State.bump_stays (k : Counter) : s.Stays (s.bump k) := s.bumpBy_stays k 1

/-! ### The power manager -/

theorem State.startClock_stays : s.Stays s.startClock := by
  rcases s.startClock_cases with ⟨_, _, e⟩ | ⟨_, e⟩ <;> rw [e]
  · exact .spm rfl rfl .rfl rfl
  · exact .refl s

theorem State.leaveDeep_stays : s.Stays s.leaveDeep := by
  unfold State.leaveDeep
  split
  · exact s.startClock_stays
  · exact .refl s

theorem State.activity_stays (change : Bool) : s.Stays (s.activity change) := by
  have idle : s.Stays { s with spm.activityTimer := 0 } := .spm rfl rfl .rfl rfl
  unfold State.activity State.sleepNotice
  dsimp only
  split
  · rename_i system
    split
    · exact (State.notice_stays _ _).after (.spm rfl rfl (by simp [system]) rfl)
    · exact idle
  · rename_i system
    split
    · exact (State.notice_stays _ _).after idle
    · exact (State.notice_stays _ _).after (.spm rfl rfl (by simp [system]) rfl)
  · exact idle

theorem State.toWaking_stays : s.Stays s.toWaking := by
  have into : s.Tends s.intoWaking.wakeNotice := .same rfl
  exact into.judged

theorem State.toAwake_stays : s.Stays s.toAwake := by
  have into : s.Tends s.intoAwake := .same rfl
  exact into.judged

theorem State.wakeSource_stays (w : WakeSource) : s.Stays (s.wakeSource w) := by
  have joined : s.Stays { s with spm := s.spm.join w } := .spm rfl rfl .rfl rfl
  unfold State.wakeSource
  dsimp only
  split
  · exact .refl s
  · exact .refl s
  · split
    · split
      · exact (State.startClock_stays _).after joined
      · exact s.startClock_stays
    · split
      · exact (State.toWaking_stays _).after joined
      · exact .refl s
  · split
    · exact (State.notice_stays _ _).after joined
    · exact .refl s

theorem State.formTarget_tends : s.Tends s.formTarget := by
  unfold State.formTarget
  split
  · exact .same rfl
  · exact (State.Stays.refl s).toTends

theorem State.handedOver_stays (w : WakeSource) : s.Stays (s.handedOver w) :=
  (State.leaveDeep_stays _).after ((State.judgeSleep_stays _).after ((State.activity_stays _ false).after (s.wakeSource_stays w)))

/-- R51, R173: a new posture is judged by the power manager. -/
theorem State.Tends.spmPosture {s t : State} (h : s.Tends t) : s.Stays t.spmPosture := by
  have formed : s.Tends (t.activity true).formTarget := (h.trans (t.activity_stays true).toTends).trans (State.formTarget_tends _)
  exact (State.leaveDeep_stays _).after formed.judged

theorem State.Tends.policySwapped {s t : State} (h : s.Tends t) : s.Stays t.policySwapped := by
  have powered : t.Stays (({ t with spm.activityTimer := 0 } : State).setPower t.spm.lastPower) :=
    (State.setPower_stays _ _).after (.spm rfl rfl .rfl rfl)
  exact (State.leaveDeep_stays _).after ((h.trans powered.toTends).trans (State.formTarget_tends _)).judged

/-! ### The latch unit -/

theorem State.detachNotice_stays (o : DetachOutcome) (src : Option ReleaseSource) (before : DetachState) :
    s.Stays (s.detachNotice o src before) :=
  (State.activity_stays _ false).after (s.notice_stays _)

theorem State.toReleasing_stays (src : ReleaseSource) : s.Stays (s.toReleasing src) := by
  have told := (State.detachNotice_stays _ .releasing (some src) s.dlu.state).after
    (.same rfl : s.Stays { s with dlu.state := .releasing, dlu.timedOut := false, dlu.source := some src, dlu.requestTimer := none })
  exact (State.leaveDeep_stays _).after ((told.trans (State.setLatchClaim_stays _ s.policy.latchCurrent)).trans (.same rfl))

theorem State.endPulse_stays : s.Stays s.endPulse := (State.setLatchClaim_stays _ 0).after (.same rfl)

theorem State.abortRequest_stays : s.Stays s.abortRequest := (State.detachNotice_stays _ _ _ _).after (.same rfl)

theorem State.dluPosture_stays : s.Stays s.dluPosture := by
  unfold State.dluPosture
  split
  · split
    · exact s.abortRequest_stays
    · exact (State.detachNotice_stays _ _ _ _).after (s.endPulse_stays.trans (.same rfl))
    · exact .refl s
  · exact .refl s

theorem State.buttonPressed_stays : s.Stays s.buttonPressed := by
  unfold State.buttonPressed
  dsimp only
  repeat' split
  · exact .refl s
  · exact (State.detachNotice_stays _ _ _ _).after (.same rfl)
  · exact (State.detachNotice_stays _ _ _ _).after (.same rfl)
  · exact .same rfl

theorem State.attach_stays (identified : Bool) : s.Stays (s.attach identified) := by
  have latched : s.Stays { s with dlu.state := .latched } := .same rfl
  have sensed : s.Stays (if s.pins.lsns then { s with dlu.state := .latched }
      else ({ s with dlu.state := .latched } : State).event .latchSense) := by
    split
    · exact latched
    · exact (State.event_stays _ _).after latched
  unfold State.attach
  dsimp only
  refine (State.wakeSource_stays _ .baseAttach).after ?_
  split
  · exact (State.detachNotice_stays _ _ _ _).after sensed
  · exact sensed

theorem State.detached_stays : s.Stays s.detached :=
  (State.wakeSource_stays _ _).after ((State.detachNotice_stays _ _ _ _).after ((State.setLatchClaim_stays _ 0).after (.same rfl)))

/-! ### The posture and angle engine -/

/-- R51, R52: the record takes the new posture, by which SLEEP is judged. -/
theorem State.changePosture_stays (p : Posture) (row : Option Nat) (permission : Bool) (cause : PostureCause) :
    s.Stays (s.changePosture p row permission cause) := by
  let recorded : State := { s with pae.record := ⟨p, row, permission, s.ticks⟩ }
  have told : s.Tends
      (recorded.notice (.posture p s.posture row permission cause s.pae.hinge.status s.pae.hinge.theta)) := .same rfl
  exact (State.dluPosture_stays _).after told.spmPosture

theorem State.adopt_stays (p : Posture) (row : Option Nat) (cause : PostureCause) : s.Stays (s.adopt p row cause) := by
  unfold State.adopt
  dsimp only
  split
  · exact .same rfl
  · exact (State.changePosture_stays _ _ _ _ _).after (.same rfl)

theorem State.classify_stays : s.Stays s.classify := by
  unfold State.classify
  split
  · unfold State.propose
    dsimp only
    split
    · exact s.adopt_stays _ _ _
    · exact .same rfl
  · exact .same rfl

theorem State.turn_stays (r : Rotation) (cause : RotationCause) : s.Stays (s.turn r cause) := .same rfl

theorem State.lockRotation_stays (r : Rotation) : s.Stays (s.lockRotation r) := by
  unfold State.lockRotation
  dsimp only
  split
  · exact .same rfl
  · exact (State.turn_stays _ _ _).after (.same rfl)

theorem State.freeRotation_stays : s.Stays s.freeRotation := by
  unfold State.freeRotation
  dsimp only
  split
  · exact .same rfl
  · split
    · exact (State.turn_stays _ _ _).after (.same rfl)
    · exact .same rfl

theorem State.rotate_stays : s.Stays s.rotate := by
  unfold State.rotate
  split
  · exact .same rfl
  · exact s.lockRotation_stays _
  · exact s.lockRotation_stays _
  · exact s.freeRotation_stays

theorem State.angleStep_stays : s.Stays s.angleStep := by
  unfold State.angleStep
  split
  · exact .same rfl
  · exact .refl s

theorem State.judged_stays : s.Stays s.judged := by
  have angles : s.Stays s.directions.hingeStep := .same rfl
  exact (State.angleStep_stays _).after ((State.rotate_stays _).after ((State.classify_stays _).after angles))

theorem State.lidTaken_stays (sample : Option Axes) : s.Stays (s.lidTaken sample) := by
  have swapped : s.Stays s.swappedIn := by
    unfold State.swappedIn
    split
    · exact .same rfl
    · exact .refl s
  cases sample with
  | none => exact swapped
  | some a => exact swapped.trans (.same rfl)

theorem State.evaluate_stays (sample : Option Axes) : s.Stays (s.evaluate sample) := by
  rw [s.evaluate_eq]
  exact ((s.lidTaken_stays sample).trans (State.judged_stays _)).trans (.same rfl)

theorem State.lidFailed_stays : s.Stays s.lidFailed := by
  have counted : s.Stays s.lidCounted := by
    unfold State.lidCounted
    refine (State.bump_stays _ _).after ?_
    split <;> exact .same rfl
  rw [s.lidFailed_eq]
  exact (State.evaluate_stays _ none).after counted

theorem State.lidCompleted_stays (axes : Axes) : s.Stays (s.lidCompleted axes) := by
  have taken : s.Stays { s with pae.lidRead := none, pae.lidFailing := false, pae.lastLid := some (clampAxes axes) } := .same rfl
  exact (State.evaluate_stays _ (some (clampAxes axes))).after taken

theorem State.lidEnds_stays (ending : LidEnding) : s.Stays (s.lidEnds ending) := by
  cases ending with
  | sample axes => exact s.lidCompleted_stays axes
  | noAcknowledge => exact s.lidFailed_stays
  | notReady => exact s.lidFailed_stays

theorem State.takeLidEnding_stays (ending : LidEnding) : s.Stays (s.takeLidEnding ending) := by
  unfold State.takeLidEnding
  split
  · split
    · exact s.lidEnds_stays ending
    · exact .refl s
  · exact .refl s

theorem State.takeLidLimit_stays : s.Stays s.takeLidLimit := by
  unfold State.takeLidLimit
  split
  · split
    · exact s.lidFailed_stays
    · exact .refl s
  · exact .refl s

/-! ### Triggers and scans, but for the hand-overs -/

theorem State.judgeVref_stays (reading : Option Nat) : s.Stays (s.judgeVref reading) := by
  unfold State.judgeVref
  dsimp only
  repeat' split
  · exact .refl s
  · exact .refl s
  · exact .refl s
  · exact .same rfl
  · exact .same rfl
  · exact .refl s

theorem State.startScan_stays : s.Stays s.startScan := by
  unfold State.startScan
  dsimp only
  repeat' split
  · exact .refl s
  · exact .same rfl
  · exact (State.requestBlanking_stays _).after (.same rfl)
  · exact .same rfl
  · exact .same rfl

theorem State.takeS_stays : s.Stays s.takeS := by
  unfold State.takeS
  repeat' split
  · exact .same rfl
  · exact s.startScan_stays
  · exact s.bump_stays _

theorem State.serveHeld_stays : s.Stays s.serveHeld := by
  unfold State.serveHeld
  dsimp only
  split
  · exact .same rfl
  · exact (State.bump_stays _ _).after (.same rfl)

theorem State.takeC_stays : s.Stays s.takeC := by
  unfold State.takeC
  repeat' split
  · exact s.bump_stays _
  · exact s.bump_stays _
  · exact .same rfl
  · exact s.bump_stays _
  · exact .same rfl
  · exact .same rfl

/-! ### The router -/

theorem State.deliverReport_stays (r : Report) : s.Stays (s.deliverReport r) := by
  unfold State.deliverReport
  split
  · exact .same rfl
  · exact s.setPower_stays _
  · split
    · exact s.buttonPressed_stays
    · exact .same rfl
  · exact .refl s

theorem State.applyAction_stays (a : RouteAction) (r : Report) : s.Stays (s.applyAction a r) := by
  cases a with
  | drop => exact .refl s
  | forward =>
    change s.Stays (s.forward r)
    unfold State.forward
    split
    · exact .same rfl
    · exact s.bump_stays _
  | coalesce =>
    change s.Stays (s.coalesce r)
    unfold State.coalesce
    split
    · exact .same rfl
    · exact s.bump_stays _

theorem State.handOn_stays (a : RouteAction) (r : Report) : s.Stays (s.handOn a r) := by
  have active : s.Stays (if a = .drop then s else s.activity false) := by
    split
    · exact .refl s
    · exact s.activity_stays false
  unfold State.handOn
  split
  · exact (State.wakeSource_stays _ _).after active
  · exact (State.wakeSource_stays _ _).after active
  · exact s.wakeSource_stays _
  · exact .refl s

theorem State.route_stays (fn : BaseFn) (data : List Byte) : s.Stays (s.route fn data) := by
  unfold State.route
  dsimp only
  repeat' split
  · exact .refl s
  · exact s.bump_stays _
  · exact (State.handOn_stays _ _ _).after ((State.applyAction_stays _ _ _).after (s.deliverReport_stays _))

end

end Sys2Proof.Machine
end

section
/-!
PROOFS. O55: the base link, the power states, the system tick and the requests stay with the invariants of the senses, the pause reasons
and the charger (`State.Stays`).
-/

namespace Sys2Proof.Machine

section
variable (s : State)

/-! ### The base link -/

theorem State.attentionPoll_stays : s.Stays s.attentionPoll := by
  unfold State.attentionPoll
  repeat' split
  · exact .same rfl
  · exact .refl s
  · exact .refl s

theorem State.settlePoll_stays (t : Txn) : s.Stays (s.settlePoll t) := by
  unfold State.settlePoll
  repeat' split
  · exact .same rfl
  · exact .same rfl
  · exact .refl s

theorem State.dueTime_stays (i : Nat) : s.Stays (s.dueTime i) := by
  unfold State.dueTime
  dsimp only
  split
  · exact .same rfl
  · exact (State.bump_stays _ _).after (.same rfl)

theorem State.enterRunning_stays (identified : Bool) : s.Stays (s.enterRunning identified) := by
  rw [s.enterRunning_heard]
  have heard : s.Stays s.heard := .same rfl
  split
  · exact (State.attach_stays _ _).after heard
  · exact heard

theorem State.flushWrites_stays (counted : Bool) : s.Stays (s.flushWrites counted) := by
  unfold State.flushWrites
  dsimp only
  split
  · exact (State.bumpBy_stays _ _ _).after (.same rfl)
  · exact .same rfl

theorem State.enterFault_stays : s.Stays s.enterFault := by
  have left : s.Stays (({ s with
        blk.link := .fault, blk.rate := .k250, blk.consecutive := 0, blk.retryTimer := some 0
        blk.retryDue := false } : State).event .baseFault).leaveRunning := .same rfl
  unfold State.enterFault
  dsimp only
  have flushed := left.trans (State.flushWrites_stays _ true)
  generalize State.flushWrites _ true = t at flushed ⊢
  split
  · exact t.abortRequest_stays.after flushed
  · exact flushed

theorem State.paeAbsent_stays : s.Stays s.paeAbsent := by
  have cleared : s.Stays { s with pae := { s.pae with hinge := .empty, baseFilter := none, baseAge := none, candidate := none } } :=
    .same rfl
  unfold State.paeAbsent
  dsimp only
  split
  · exact .same rfl
  · exact (State.changePosture_stays _ _ _ _ _).after cleared

theorem State.enterAbsent_stays (counted : Bool) : s.Stays (s.enterAbsent counted) := by
  have left : s.Stays ({ s with blk := .initial } : State).leaveRunning := .same rfl
  have gone := (State.paeAbsent_stays _).after ((State.flushWrites_stays _ counted).after left)
  unfold State.enterAbsent
  dsimp only
  generalize State.paeAbsent _ = t at gone ⊢
  split
  · exact (State.setPower_stays _ _).after gone
  · exact (State.setPower_stays _ _).after (t.detached_stays.after gone)

theorem State.samplePresence_stays (pres : Bool) : s.Stays (s.samplePresence pres) := by
  unfold State.samplePresence
  split
  · split
    · exact (State.changePosture_stays _ _ _ _ _).after (.same rfl)
    · exact .same rfl
  · split <;> exact .same rfl
  · exact .same rfl

theorem State.succeed_stays (t : Txn) (data : List Byte) : s.Stays (s.succeed t data) := by
  have ended : s.Stays { s with blk.txn := none } := .same rfl
  have settled := (State.settlePoll_stays _ t).after ended
  unfold State.succeed State.identified
  dsimp only
  split
  · exact (State.enterRunning_stays _ _).after (.same rfl)
  · generalize State.settlePoll _ t = u at settled ⊢
    split
    · exact settled.trans (.same rfl)
    · exact (State.route_stays _ _ _).after (settled.trans (.same rfl))

theorem State.attemptFailed_stays : s.Stays s.attemptFailed := by
  unfold State.attemptFailed
  dsimp only
  split
  · exact (State.enterFault_stays _).after (.same rfl)
  · exact .same rfl

theorem State.pollFailed_stays : s.Stays s.pollFailed := by
  unfold State.pollFailed
  dsimp only
  split
  · exact (State.enterFault_stays _).after (.same rfl)
  · exact .same rfl

theorem State.fail_stays (t : Txn) (e : LineError) (low : Option LineLow) : s.Stays (s.fail t e low) := by
  have counted : s.Stays (({ s with blk.txn := none, blk.low := low } : State).bump e.counter) := (State.bump_stays _ _).after (.same rfl)
  unfold State.fail
  dsimp only
  generalize State.bump _ _ = u at counted ⊢
  split
  · split
    · exact u.attemptFailed_stays.after counted
    · exact counted.trans (.same rfl)
  · exact (State.pollFailed_stays _).after ((u.settlePoll_stays t).after counted)

theorem State.takeChar_stays (t : Txn) (c : Byte) : s.Stays (s.takeChar t c) := by
  unfold State.takeChar
  split
  · exact .same rfl
  · exact s.succeed_stays t _
  · exact s.fail_stays t _ _

theorem State.failChar_stays (t : Txn) (c : Byte) : s.Stays (s.failChar t c) := by
  unfold State.failChar
  split
  · exact s.fail_stays t _ _
  · exact .refl s

theorem State.attention_stays : s.Stays s.attention := by
  unfold State.attention
  split
  · exact s.attentionPoll_stays
  · exact (State.wakeSource_stays _ _).after (.same rfl)
  · have due : s.Stays { s with blk.attention := true, blk.retryDue := true, blk.retryTimer := none } := .same rfl
    dsimp only
    refine (State.leaveDeep_stays _).after ?_
    split
    · exact (State.wakeSource_stays _ _).after due
    · exact due
  · exact .same rfl
  · exact .refl s

theorem State.stuck_stays : s.Stays s.stuck := by
  unfold State.stuck
  split
  · exact (State.enterFault_stays _).after (s.bump_stays _)
  · exact (State.enterFault_stays _).after (s.bump_stays _)
  · exact (State.attemptFailed_stays _).after (s.bump_stays _)
  · exact .refl s

/-! ### The power states -/

theorem State.systemAwake_stays : s.Stays s.systemAwake := by
  have active := s.activity_stays false
  unfold State.systemAwake
  dsimp only
  split
  · exact active
  · exact active
  · split
    · exact active.trans (.spm rfl rfl .rfl rfl)
    · exact (State.toAwake_stays _).after active
  · exact (State.toAwake_stays _).after active

theorem State.setHub_tends (h : HubPower) : s.Tends (s.setHub h) := by
  rcases s.setHub_cases h with ⟨_, _, e⟩ | ⟨_, e⟩ <;> rw [e] <;> exact .same rfl

theorem State.systemSleeping_stays (d : Depth) : s.Stays (s.systemSleeping d) := by
  have slept : s.Tends (if s.spm.system = .asleep then s else ({ s with spm.system := .asleep } : State).setHub .doze) := by
    split
    · exact (State.Stays.refl s).toTends
    · exact (State.setHub_tends { s with spm.system := .asleep } .doze).after (.same rfl)
  unfold State.systemSleeping
  dsimp only
  generalize (if s.spm.system = .asleep then s else _) = t at slept ⊢
  have asked : s.Tends { t with
      spm.requested := some d, spm.wakeCause := 0, spm.firstPower := none
      spm.clock := t.spm.clock.map fun (c : ClockStart) => { c with awake := false } } := slept.trans (.same rfl)
  exact (State.leaveDeep_stays _).after (asked.trans (State.formTarget_tends _)).judged

theorem State.enterDeep_stays : s.Stays s.enterDeep := by
  have entered : s.Tends s.deepened := by
    unfold State.deepened
    dsimp only
    split <;> exact .same rfl
  rw [s.enterDeep_eq]
  exact entered.judged

theorem State.leftDeep_stays : s.Stays s.leftDeep := by
  have expiring : s.Stays { s with pae.expiryDue := true } := .same rfl
  unfold State.leftDeep
  dsimp only
  split
  · exact (State.enterRunning_stays _ _).after expiring
  · exact expiring

theorem State.settleDestination_tends (awake : Bool) : s.Tends (s.settleDestination awake) := by
  unfold State.settleDestination
  split
  · split <;> exact .same rfl
  · split
    · exact .same rfl
    · exact s.setHub_tends .doze

theorem State.clockStarted_stays (awake : Bool) : s.Stays (s.clockStarted awake) := by
  have settled : s.Tends (({ s with spm.clock := none } : State).settleDestination awake) :=
    (State.settleDestination_tends { s with spm.clock := none } awake).after (.same rfl)
  exact (settled.trans (State.leftDeep_stays _).toTends).judged

/-! ### The ticks -/

theorem tickTimer_isSome (t : Option Timer) : (tickTimer t).isSome = t.isSome := Option.isSome_map

theorem Pch.tick_frame (p : Pch) : p.tick.frame = p.frame := by
  have stage : p.tick.pen.bind PenRecord.stage = p.pen.bind PenRecord.stage := by
    unfold Pch.tick
    cases p.pen <;> rfl
  unfold Pch.frame
  rw [stage]
  simp [Pch.tick, tickTimer_isSome]

theorem State.tickTimers_stays : s.Stays s.tickTimers := by
  obtain ⟨periodTimer, lidRead, angleTimer, pae⟩ := s.pae.tick_eq (s.spm.hub == .deep) s.post.anglePeriod
  have charged : s.Stays { s with pch := s.pch.tick } := .record rfl rfl s.pch.tick_frame fun steered => steered
  have powered : s.Stays { s with pch := s.pch.tick, spm := s.spm.tick } := charged.trans (.spm rfl rfl .rfl rfl)
  unfold State.tickTimers
  dsimp only
  rw [pae]
  exact powered.trans (.same rfl)

theorem Driver.tick_running (d : Driver) : d.tick.running = d.running := by
  unfold Driver.tick
  split <;> rfl

theorem State.driveTick_stays : s.Stays s.driveTick := by
  unfold State.driveTick
  split
  · exact .refl s
  · refine .record rfl rfl rfl fun steered => ?_
    unfold Pch.Steered
    dsimp only
    rw [Driver.tick_running]
    exact steered

/-! ### The system link and its requests -/

theorem State.offer_stays (f : DownFrame) : s.Stays (s.offer f) := by
  unfold State.offer
  split
  · exact .same rfl
  · exact s.bump_stays _

theorem State.hunt_stays (n : Nat) (s : State) (cs : List RxChar) : s.Stays (s.hunt n cs) := by
  induction n generalizing s cs with
  | zero => exact .refl s
  | succ n ih =>
    cases cs with
    | nil => exact .refl s
    | cons c rest =>
      unfold State.hunt
      dsimp only
      split
      · exact (ih _ _).after (.same rfl)
      · exact (ih _ _).after ((State.offer_stays _ _).after (.same rfl))
      · exact (ih _ _).after ((State.bump_stays _ _).after (.same rfl))

theorem State.startFrame_stays : s.Stays s.startFrame := by
  unfold State.startFrame
  split
  · exact .same rfl
  · exact .refl s

theorem State.carryOut_stays (mine : DownFrame → Bool) {act : State → DownFrame → State} (acts : ∀ (u : State) (f : DownFrame), u.Stays (act u f)) :
    s.Stays (s.carryOut mine act) := by
  unfold State.carryOut
  split
  · split
    · exact (acts _ _).after (.same rfl)
    · exact .refl s
  · exact .refl s

theorem State.answer_stays (f : DownFrame) (c : ReplyCode) (data : List Byte) : s.Stays (s.answer f c data) := .same rfl

theorem State.fixedLength_stays (f : DownFrame) (n : Nat) {act : State → State} (acts : s.Stays (act s)) :
    s.Stays (s.fixedLength f n act) := by
  unfold State.fixedLength
  split
  · exact acts
  · exact s.answer_stays _ _ _

/-- Neither the pending images nor what awaits is read. -/
theorem State.pending_stays (k : TableId) (img : Image) (awaits : Bool) :
    s.Stays { s with tables := s.tables.set k { s.tables.get k with pending := img, awaiting := awaits } } := by
  cases k <;> exact .same rfl

theorem State.tableWrite_stays (f : DownFrame) : s.Stays (s.tableWrite f) := by
  unfold State.tableWrite
  dsimp only
  repeat' split
  case h_2.isFalse.isFalse.isFalse k _ _ _ _ => exact (State.answer_stays _ _ _ _).after (s.pending_stays k _ _)
  all_goals exact s.answer_stays _ _ _

theorem State.committed_stays (k : TableId) : s.Stays (s.committed k) := by
  unfold State.committed
  dsimp only
  split
  · exact .same rfl
  · have swapped : s.Tends (s.swapTable .policy) := .same rfl
    exact swapped.policySwapped
  · split
    · exact .record rfl rfl rfl fun steered => steered
    · exact s.swapCharge_stays
  · exact s.pending_stays k _ true

theorem State.tableCommit_stays (f : DownFrame) : s.Stays (s.tableCommit f) := by
  unfold State.tableCommit
  split
  · exact s.answer_stays _ _ _
  · split
    · exact s.answer_stays _ _ _
    · split
      · exact s.answer_stays _ _ _
      · exact s.committed_stays _

theorem State.tableRead_stays (f : DownFrame) : s.Stays (s.tableRead f) := by
  unfold State.tableRead
  dsimp only
  repeat' split
  all_goals exact s.answer_stays _ _ _

theorem State.clearCounters_stays : s.Stays s.clearCounters :=
  .record rfl rfl (by cases present : s.pch.pen <;> simp [Pch.frame, State.clearCounters, present]) fun steered => steered

theorem State.queryCounters_stays (f : DownFrame) : s.Stays (s.queryCounters f) := by
  unfold State.queryCounters
  dsimp only
  refine (State.answer_stays _ _ _ _).after ?_
  split
  · exact s.clearCounters_stays
  · exact .refl s

theorem State.query_stays (f : DownFrame) : s.Stays (s.query f) := by
  unfold State.query
  split
  · exact s.answer_stays _ _ _
  · exact s.queryCounters_stays f
  · unfold State.queryPage
    split
    · exact s.answer_stays _ _ _
    · exact s.answer_stays _ _ _

theorem State.queueWrite_stays (f : DownFrame) (fn : BaseFn) (l : Nat) : s.Stays (s.queueWrite f fn l) := by
  unfold State.queueWrite
  repeat' split
  iterate 5 exact s.answer_stays _ _ _
  exact .same rfl

theorem State.baseWrite_stays (f : DownFrame) : s.Stays (s.baseWrite f) := by
  unfold State.baseWrite
  dsimp only
  split
  · exact s.queueWrite_stays f _ _
  · exact s.queueWrite_stays f _ _
  · exact s.answer_stays _ _ _

theorem State.detachGrant_stays (f : DownFrame) : s.Stays (s.detachGrant f) := by
  unfold State.detachGrant
  repeat' split
  · exact (State.toReleasing_stays _ _).after (s.answer_stays _ _ _)
  · exact s.answer_stays _ _ _
  · exact s.answer_stays _ _ _

theorem State.detachDeny_stays (f : DownFrame) : s.Stays (s.detachDeny f) := by
  unfold State.detachDeny
  split
  · exact (State.detachNotice_stays _ _ _ _).after (.same rfl)
  · exact s.answer_stays _ _ _

theorem State.detachRelease_stays (f : DownFrame) : s.Stays (s.detachRelease f) := by
  unfold State.detachRelease
  repeat' split
  · exact (State.toReleasing_stays _ _).after (s.answer_stays _ _ _)
  · exact s.answer_stays _ _ _
  · exact (State.toReleasing_stays _ _).after (s.answer_stays _ _ _)
  · exact s.answer_stays _ _ _
  · exact s.answer_stays _ _ _
  · exact s.answer_stays _ _ _

theorem State.chargeRequest_stays (f : DownFrame) : s.Stays (s.chargeRequest f) := by
  unfold State.chargeRequest
  split
  · exact (State.chargeControl_stays _ _).after (s.answer_stays _ _ _)
  · exact s.answer_stays _ _ _

theorem State.systemRequest_stays (f : DownFrame) : s.Stays (s.systemRequest f) := by
  unfold State.systemRequest
  repeat' split
  · exact (State.systemAwake_stays _).after (s.answer_stays _ _ _)
  · exact (State.systemSleeping_stays _ _).after (s.answer_stays _ _ _)
  · exact s.answer_stays _ _ _

theorem State.hubReset_stays (f : DownFrame) : s.Stays (s.hubReset f) := by
  unfold State.hubReset
  split
  · exact (State.answer_stays _ _ _ _).after ((s.enterAbsent_stays false).trans (.same rfl))
  · split
    · exact .same rfl
    · exact s.answer_stays _ _ _

end

end Sys2Proof.Machine
end

section
/-!
PROOFS. O55, the converter's hand-overs (R15): each reader that is informed has its copy of the sense right after it, the others keep
theirs, and so the window update and the CHANNEL swap leave all of them right.
-/

namespace Sys2Proof.Machine

/-! ### One reader informed -/

/-- What informing the readers of one channel does to the senses' copies and to the charger; SLEEP is another matter. -/
structure State.Informs (ch : Nat) (s t : State) : Prop where
  windows : t.cnv.windows = s.cnv.windows
  channel : t.tables.channel.active = s.tables.channel.active
  hallF : t.pae.hallF = if ch = 3 then s.active 3 else s.pae.hallF
  lid : t.spm.hallF = if ch = 3 then s.active 3 else s.spm.hallF
  hallR : t.pae.hallR = if ch = 4 then s.active 4 else s.pae.hallR
  pen : t.pch.pen.isSome = if ch = 5 then s.active 5 else s.pch.pen.isSome
  supply : t.pch.pauses.supply = if ch = 1 then decide (s.cnv.window 1 = .outside) else s.pch.pauses.supply
  thermal : t.pch.pauses.thermal = if ch = 2 then decide (s.cnv.window 2 = .outside) else s.pch.pauses.thermal
  accounts : s.Accounts → t.Accounts
  steered : s.pch.Steered → t.pch.Steered
  charger : (ch = 5 → s.active 5 = true → s.pch.pen = none) → s.pch.Steered → s.ChargerOk → t.ChargerOk

section
variable {ch : Nat} {s t u : State}

/-- Nothing more moves of the senses. -/
theorem State.Informs.tends (h : s.Informs ch t) (h' : t.Tends u) : s.Informs ch u where
  windows := h'.senses.windows.trans h.windows
  channel := h'.senses.channel.trans h.channel
  hallF := h'.senses.hallF.trans h.hallF
  lid := h'.senses.lid.trans h.lid
  hallR := h'.senses.hallR.trans h.hallR
  pen := h'.senses.pen.trans h.pen
  supply := h'.supply.trans h.supply
  thermal := h'.thermal.trans h.thermal
  accounts ok := h'.accounts (h.accounts ok)
  steered ok := h'.steered (h.steered ok)
  charger fresh steered ok := h'.charger (h.steered steered) (h.charger fresh steered ok)

theorem State.Informs.of_eq (apart : ch ≠ 1 ∧ ch ≠ 2 ∧ ch ≠ 3 ∧ ch ≠ 4 ∧ ch ≠ 5) : s.Informs ch s := by
  obtain ⟨supply, thermal, hallF, hallR, pen⟩ := apart
  constructor <;> simp [supply, thermal, hallF, hallR, pen]

variable (s)

/-- R15, R147: channels 1 and 2 judge SUPPLY and THERMAL. -/
theorem State.setPauses_informs (reason : ch = 1 ∨ ch = 2) {q : Pauses}
    (supply : q.supply = if ch = 1 then decide (s.cnv.window 1 = .outside) else s.pch.pauses.supply)
    (thermal : q.thermal = if ch = 2 then decide (s.cnv.window 2 = .outside) else s.pch.pauses.thermal)
    (budget : q.budget = s.pch.pauses.budget) (latch : q.latch = s.pch.pauses.latch) : s.Informs ch (s.setPauses q) := by
  have level := s.setPauses_level q
  obtain ⟨windows, channel, hallF, hallR, lid, pen⟩ := level.senses
  obtain ⟨sameThermal, sameSupply, _⟩ := level.reasons
  have others : ch ≠ 3 ∧ ch ≠ 4 ∧ ch ≠ 5 := by omega
  obtain ⟨not3, not4, not5⟩ := others
  refine ⟨windows, channel, ?_, ?_, ?_, ?_, sameSupply.trans supply, sameThermal.trans thermal, fun ok => level.accounts ?_,
    fun steered => State.setPauses_steered steered q, fun _ steered ok => State.setPauses_charger steered ok q⟩
  · rw [if_neg not3]
    exact hallF
  · rw [if_neg not3]
    exact lid
  · rw [if_neg not4]
    exact hallR
  · rw [if_neg not5]
    exact pen
  · exact ⟨ok.claim, budget.trans ok.budget, latch.trans ok.latch⟩

/-- R169, R177: channel 3 goes to the posture engine and to the power manager. -/
theorem State.hallInformed_informs : s.Informs 3 (({ s with pae.hallF := s.active 3 } : State).hallToSpm (s.active 3)) := by
  have copied : s.Informs 3 { s with pae.hallF := s.active 3, spm.hallF := s.active 3 } := by
    refine ⟨rfl, rfl, rfl, rfl, rfl, rfl, rfl, rfl, fun ok => ⟨ok.claim, ok.budget, ok.latch⟩, fun steered => steered,
      fun _ _ ok => ok.congr rfl rfl⟩
  unfold State.hallToSpm
  dsimp only
  split
  · exact copied.tends (State.wakeSource_stays _ _).toTends
  · exact copied

/-! ### The pen comes and goes -/

theorem State.penFresh_informs (comes : s.active 5 = true) : s.Informs 5 s.penFresh := by
  have fresh : s.Informs 5 { s with pch := { s.pch with pen := some .fresh } } := by
    refine ⟨rfl, rfl, rfl, rfl, rfl, comes.symm, rfl, rfl, fun ok => ⟨ok.claim, ok.budget, ok.latch⟩, fun steered => steered,
      fun absent _ ok => ?_⟩
    have off : s.pch.state = .off := by
      by_contra on
      simpa [absent rfl comes] using (ok.on on).2
    exact State.chargerOk_iff.mpr { State.chargerOk_iff.mp ok with
      on := fun on => absurd off on
      stage := fun charge => by simp [off] at charge }
  exact fresh.tends ((State.penNotice_stays _).after (State.handLimit_stays _)).toTends

theorem State.penGone_informs (goes : s.active 5 = false) : s.Informs 5 s.penGone := by
  have level := s.toCharger_level .off
  obtain ⟨windows, channel, hallF, hallR, lid, _⟩ := level.senses
  obtain ⟨thermal, supply, _⟩ := level.reasons
  refine ⟨windows, channel, hallF, lid, hallR, goes.symm, supply, thermal, fun ok => ?_, fun _ => ?_, fun _ _ ok => ?_⟩
  · obtain ⟨claim, budget, latch⟩ := level.accounts ok
    exact ⟨claim, budget, latch⟩
  · exact .of_stopped (s.toCharger_stops (c := .off) rfl).2.2.1
  · have mode : s.penGone.bcd.mode = .off := ok.deaf.toCharger (c := .off) rfl
    rw [State.chargerOk_iff, mode]
    exact Pch.stopTimers_off s.penGone_off none 0 0 0 none

theorem State.judgeSleep_right : s.judgeSleep.SleepRight := by
  have level := s.setPauses_level { s.pch.pauses with sleep := s.sleepWanted }
  exact level.reasons.2.2.trans level.wanted.symm

theorem State.handedOver_right (w : WakeSource) : (s.handedOver w).SleepRight :=
  (State.leaveDeep_stays _).sleep (State.judgeSleep_right _)

theorem State.penInserted_informs (comes : s.active 5 = true) : s.Informs 5 s.penInserted ∧ s.penInserted.SleepRight := by
  have told : s.Informs 5 (s.penFresh.handedOver .penInsert) :=
    (s.penFresh_informs comes).tends (State.handedOver_stays _ _).toTends
  have right := s.penFresh.handedOver_right .penInsert
  rw [s.penInserted_eq]
  dsimp only
  split
  · rename_i idle
    have pen : (s.penFresh.handedOver .penInsert).pch.pen.isSome = true := told.pen.trans comes
    have waits := State.waitFromOff_stays idle.1 pen idle.2
    exact ⟨told.tends waits.toTends, waits.sleep right⟩
  · exact ⟨told, right⟩

theorem State.penRemoved_informs (goes : s.active 5 = false) : s.Informs 5 s.penRemoved ∧ s.penRemoved.SleepRight := by
  rw [s.penRemoved_eq]
  have limited : s.penGone.Stays s.penGone.handLimit.penNotice := (State.penNotice_stays _).after (State.handLimit_stays _)
  exact ⟨(s.penGone_informs goes).tends (limited.trans (State.handedOver_stays _ _)).toTends, State.handedOver_right _ _⟩

/-! ### Any reader -/

theorem State.inform_informs (ch : Nat) : s.Informs ch (s.inform ch) := by
  unfold State.inform
  dsimp only
  split
  · exact s.setPauses_informs (.inl rfl) (beq_eq_decide ..) rfl rfl rfl
  · exact s.setPauses_informs (.inr rfl) rfl (beq_eq_decide ..) rfl rfl
  · exact s.hallInformed_informs
  · exact ⟨rfl, rfl, rfl, rfl, rfl, rfl, rfl, rfl, fun ok => ⟨ok.claim, ok.budget, ok.latch⟩, fun steered => steered,
      fun _ _ ok => ok.congr rfl rfl⟩
  · split
    · rename_i comes
      exact (s.penInserted_informs comes).1
    · rename_i goes
      exact (s.penRemoved_informs (by simpa using goes)).1
  · rename_i not1 not2 not3 not4 not5
    exact .of_eq ⟨not1, not2, not3, not4, not5⟩

theorem State.setPauses_sleep {q : Pauses} (same : q.sleep = s.pch.pauses.sleep) (ok : s.SleepRight) : (s.setPauses q).SleepRight := by
  have level := s.setPauses_level q
  exact level.reasons.2.2.trans ((same.trans ok).trans level.wanted.symm)

theorem State.inform_sleep (ch : Nat) (ok : s.SleepRight) : (s.inform ch).SleepRight := by
  unfold State.inform
  dsimp only
  split
  · exact s.setPauses_sleep rfl ok
  · exact s.setPauses_sleep rfl ok
  · have copied : ({ s with pae.hallF := s.active 3, spm.hallF := s.active 3 } : State).SleepRight := ok
    unfold State.hallToSpm
    dsimp only
    split
    · exact (State.wakeSource_stays _ _).sleep copied
    · exact copied
  · exact ok
  · split
    · rename_i comes
      exact (s.penInserted_informs comes).2
    · rename_i goes
      exact (s.penRemoved_informs (by simpa using goes)).2
  · exact ok

end

/-! ### Every reader informed -/

/-- Every copy of a sense is right, but for the channels in `chs`, whose readers are still to be informed. -/
structure State.Told (chs : List Nat) (s : State) : Prop where
  hallF : 3 ∉ chs → s.pae.hallF = s.active 3
  lid : 3 ∉ chs → s.spm.hallF = s.active 3
  hallR : 4 ∉ chs → s.pae.hallR = s.active 4
  pen : 5 ∉ chs → s.pch.pen.isSome = s.active 5
  /-- a pen that is still to be told of has no record yet -/
  fresh : 5 ∈ chs → s.active 5 = true → s.pch.pen = none

/-- The pen claim and the pause reasons are right, but for the channels in `chs`. -/
structure State.Weighed (chs : List Nat) (s : State) : Prop where
  accounts : s.Accounts
  sleep : s.SleepRight
  supply : 1 ∉ chs → s.pch.pauses.supply = decide (s.cnv.window 1 = .outside)
  thermal : 2 ∉ chs → s.pch.pauses.thermal = decide (s.cnv.window 2 = .outside)

section
variable {ch : Nat} {chs : List Nat} {s t : State}

theorem State.Informs.active (h : s.Informs ch t) (c : Nat) : t.active c = s.active c := by
  simp only [State.active, State.chanRow, Cnv.window, h.windows, h.channel]

theorem State.Informs.window (h : s.Informs ch t) (c : Nat) : t.cnv.window c = s.cnv.window c := by
  simp only [Cnv.window, h.windows]

/-- A copy that is right but where its channel is to be told of is right once it has been. -/
theorem copy_told {α : Type} {c ch : Nat} {chs : List Nat} {before after sense : α}
    (moved : after = if ch = c then sense else before) (right : c ∉ ch :: chs → before = sense) (told : c ∉ chs) : after = sense := by
  rw [moved]
  split
  · rfl
  · rename_i other
    exact right (by simp [told, Ne.symm other])

theorem State.Told.inform (told : s.Told (ch :: chs)) (once : ch ∉ chs) (h : s.Informs ch t) : t.Told chs where
  hallF rest := (copy_told h.hallF told.hallF rest).trans (h.active 3).symm
  lid rest := (copy_told h.lid told.lid rest).trans (h.active 3).symm
  hallR rest := (copy_told h.hallR told.hallR rest).trans (h.active 4).symm
  pen rest := (copy_told h.pen told.pen rest).trans (h.active 5).symm
  fresh waits comes := by
    have other : ch ≠ 5 := fun same => once (same ▸ waits)
    have absent := told.fresh (List.mem_cons_of_mem _ waits) ((h.active 5).symm.trans comes)
    have same := h.pen
    rw [if_neg other, absent] at same
    simpa using same

theorem State.Weighed.inform (weighed : s.Weighed (ch :: chs)) (h : s.Informs ch t) (sleep : t.SleepRight) : t.Weighed chs where
  accounts := h.accounts weighed.accounts
  sleep := sleep
  supply rest := by
    rw [h.window]
    exact copy_told h.supply weighed.supply rest
  thermal rest := by
    rw [h.window]
    exact copy_told h.thermal weighed.thermal rest

/-- What informing all of them leaves right. -/
structure State.AllTold (chs : List Nat) (s t : State) : Prop where
  windows : t.cnv.windows = s.cnv.windows
  told : t.Told []
  weighed : s.Weighed chs → t.Weighed []
  steered : s.pch.Steered → t.pch.Steered
  charger : s.pch.Steered → s.ChargerOk → t.ChargerOk

theorem State.informAll_allTold (once : chs.Nodup) (told : s.Told chs) : s.AllTold chs (s.informAll chs) := by
  induction chs generalizing s with
  | nil => exact ⟨rfl, told, id, id, fun _ ok => ok⟩
  | cons ch chs ih =>
    obtain ⟨apart, once⟩ := List.nodup_cons.mp once
    have first := s.inform_informs ch
    obtain ⟨windows, all, weighed, steered, charger⟩ := ih once (told.inform apart first)
    refine ⟨windows.trans first.windows, all, fun ok => weighed (ok.inform first (s.inform_sleep ch ok.sleep)),
      fun ok => steered (first.steered ok), fun wasSteered ok => charger (first.steered wasSteered) (first.charger ?_ wasSteered ok)⟩
    rintro rfl comes
    exact told.fresh List.mem_cons_self comes

end

/-! ### New windows -/

/-- `t` is `s` with other windows or another CHANNEL image; what it makes of a channel outside `chs` is what the readers know. -/
structure State.Rewatched (chs : List Nat) (s t : State) : Prop where
  pch : t.pch = s.pch
  mode : t.bcd.mode = s.bcd.mode
  pae : t.pae = s.pae
  spm : t.spm = s.spm
  policy : t.tables.policy.active = s.tables.policy.active
  length : t.cnv.windows.length = s.cnv.windows.length
  active : ∀ ch, ch < 8 → ch ∉ chs → t.active ch = s.active ch
  outside : ∀ ch, ch < 8 → ch ∉ chs → (t.cnv.window ch = .outside ↔ s.cnv.window ch = .outside)
  comes : 5 ∈ chs → t.active 5 = true → s.active 5 = false

/-- R15: the readers informed of all that changed. -/
theorem State.Rewatched.upholds {chs : List Nat} {s t : State} (h : s.Rewatched chs t) (once : chs.Nodup) :
    s.Upholds (t.informAll chs) := by
  have told (ok : s.SensesOk) : t.Told chs :=
    { hallF := fun rest => by rw [h.pae, h.active 3 (by decide) rest]; exact ok.hallF
      lid := fun rest => by rw [h.spm, h.active 3 (by decide) rest]; exact ok.lid
      hallR := fun rest => by rw [h.pae, h.active 4 (by decide) rest]; exact ok.hallR
      pen := fun rest => by rw [h.pch, h.active 5 (by decide) rest]; exact ok.pen
      fresh := fun waits comes => by
        have absent := ok.pen.trans (h.comes waits comes)
        rw [h.pch]
        simpa using absent }
  have done (ok : s.SensesOk) := State.informAll_allTold once (told ok)
  have none (ch : Nat) : ch ∉ ([] : List Nat) := List.not_mem_nil
  refine ⟨fun ok => ?_, fun senses ok => ?_, fun senses steered => ?_, fun senses steered ok => ?_⟩
  · have right := (done ok).told
    exact ⟨by rw [(done ok).windows, h.length]; exact ok.windows, right.hallF (none 3), right.hallR (none 4), right.lid (none 3),
      right.pen (none 5)⟩
  · obtain ⟨accounts, sleep, thermal, supply⟩ := State.pausesOk_iff.mp ok
    have weighed : t.Weighed chs := by
      refine ⟨⟨?_, ?_, ?_⟩, ?_, fun rest => ?_, fun rest => ?_⟩
      · rw [h.spm]; exact accounts.claim
      · rw [h.spm, h.pch]; exact accounts.budget
      · rw [h.spm, h.pch]; exact accounts.latch
      · have wanted : t.sleepWanted = s.sleepWanted :=
          State.sleepWanted_same (by rw [h.spm]) (by rw [h.spm]) (by rw [h.spm]) (by rw [State.posture, h.pae]; rfl) h.policy (by rw [h.pch])
        rw [State.SleepRight, h.pch, wanted]
        exact sleep
      · rw [h.pch, supply, decide_eq_decide]
        exact (h.outside 1 (by decide) rest).symm
      · rw [h.pch, thermal, decide_eq_decide]
        exact (h.outside 2 (by decide) rest).symm
    have right := (done senses).weighed weighed
    exact State.pausesOk_iff.mpr ⟨right.accounts, right.sleep, right.thermal (none 2), right.supply (none 1)⟩
  · exact (done senses).steered (by rwa [h.pch])
  · exact (done senses).charger (by rwa [h.pch]) (ok.congr h.pch h.mode)

end Sys2Proof.Machine
end

section
/-!
PROOFS. O55: every command upholds the invariants of the senses, the pause reasons and the charger, and so does every step.
-/

namespace Sys2Proof.Machine

/-! ### The window update and the CHANNEL swap -/

/-- A channel is active by its mode and its window. -/
theorem State.active_congr {s t : State} {ch : Nat} (channel : t.tables.channel.active = s.tables.channel.active)
    (window : t.cnv.window ch = s.cnv.window ch) : t.active ch = s.active ch := by
  simp only [State.active, State.chanRow, channel, window]

/-- Of two windows at most one is the active one of a mode. -/
theorem State.active_elsewhere {s t : State} {ch : Nat} (channel : t.tables.channel.active = s.tables.channel.active)
    (other : s.cnv.window ch ≠ t.cnv.window ch) (active : t.active ch = true) : s.active ch = false := by
  simp only [State.active, State.chanRow, channel, beq_iff_eq, beq_eq_false_iff_ne] at active ⊢
  rw [active]
  exact fun same => other (Option.some.inj same).symm

/-- R14: the window update of a scan's readings, before a reader is informed. -/
theorem State.updated_eq (readings : List (Nat × Nat)) (s : State) :
    ∃ windows debounce, readings.foldl (fun u p => u.updateWindow p.1 p.2) s =
      { s with cnv.windows := windows, cnv.debounce := debounce } ∧ windows.length = s.cnv.windows.length := by
  induction readings generalizing s with
  | nil => exact ⟨_, _, rfl, rfl⟩
  | cons p readings ih =>
    obtain ⟨w, d, later, length⟩ := ih (s.updateWindow p.1 p.2)
    rw [List.foldl_cons, later]
    by_cases apart : p.1 = 7 ∨ (s.chanRow p.1).mode = .off
    · rw [State.updateWindow_apart apart] at length ⊢
      exact ⟨w, d, rfl, length⟩
    · obtain ⟨taking, watched⟩ := not_or.mp apart
      rw [State.updateWindow_eq taking watched] at length ⊢
      exact ⟨w, d, rfl, length.trans List.length_set⟩

theorem State.updateWindows_upholds (s : State) (readings : List (Nat × Nat)) : s.Upholds (s.updateWindows readings) := by
  obtain ⟨windows, debounce, updated, length⟩ := State.updated_eq readings s
  unfold State.updateWindows
  dsimp only
  rw [updated]
  let t : State := { s with cnv.windows := windows, cnv.debounce := debounce }
  have window {ch : Nat} (inside : ch < 8)
      (rest : ch ∉ (List.range Config.channels).filter fun ch => s.cnv.window ch != t.cnv.window ch) :
      t.cnv.window ch = s.cnv.window ch := by
    by_contra other
    exact rest (List.mem_filter.mpr ⟨List.mem_range.mpr inside, by simpa using Ne.symm other⟩)
  have moved : s.Rewatched ((List.range Config.channels).filter fun ch => s.cnv.window ch != t.cnv.window ch) t :=
    { pch := rfl, mode := rfl, pae := rfl, spm := rfl, policy := rfl, length := length
      active := fun ch inside rest => State.active_congr rfl (window inside rest)
      outside := fun ch inside rest => by rw [window inside rest]
      comes := fun waits => State.active_elsewhere rfl (by simpa using (List.mem_filter.mp waits).2) }
  exact moved.upholds (List.nodup_range.filter _)

section
variable (s : State)

theorem State.completeScan_upholds (readings : List (Nat × Nat)) : s.Upholds (s.completeScan readings) := by
  have stored : s.Stays (s.scanStored readings) := .same rfl
  have judged : s.Stays (s.scanJudged readings) := stored.trans (State.judgeVref_stays _ _)
  have told : s.Upholds (s.scanTold readings) := by
    unfold State.scanTold
    split
    · exact judged.upholds
    · exact judged.upholds.trans (State.updateWindows_upholds _ readings)
  rw [State.completeScan_eq]
  split
  · exact told.trans (State.serveHeld_stays _).upholds
  · exact told

theorem State.convert_upholds (ch : Nat) (rest : List Nat) (code : Nat) : s.Upholds (s.convert ch rest code) := by
  have taken : s.Stays { s with cnv.todo := rest, cnv.readings := s.cnv.readings ++ [(ch, code)] } := .same rfl
  have released : s.Stays (if ((s.chanRow ch).blankCoil && !s.needsBlanking rest) = true then
      ({ s with cnv.todo := rest, cnv.readings := s.cnv.readings ++ [(ch, code)] } : State).releaseBlanking
    else { s with cnv.todo := rest, cnv.readings := s.cnv.readings ++ [(ch, code)] }) := by
    split
    · exact (State.releaseBlanking_stays _).after taken
    · exact taken
  unfold State.convert
  dsimp only
  split
  · exact released.upholds.trans (State.completeScan_upholds _ _)
  · exact released.upholds

/-- R3, R15: a channel that the swap does not tell of keeps its activity, and its window but where the mode is OFF. -/
theorem State.channelLoaded_rewatched :
    s.Rewatched ((List.range 8).filter (swapInforms s s.channelLoaded)) s.channelLoaded where
  pch := rfl
  mode := rfl
  pae := rfl
  spm := rfl
  policy := rfl
  length := by simp [State.channelLoaded]
  active ch inside rest := by
    by_contra other
    refine rest (List.mem_filter.mpr ⟨List.mem_range.mpr inside, ?_⟩)
    simp [swapInforms, Ne.symm other]
  outside ch inside rest := by
    have untold : swapInforms s s.channelLoaded ch = false := by
      by_contra other
      exact rest (List.mem_filter.mpr ⟨List.mem_range.mpr inside, by simpa using other⟩)
    have lost : (s.channelLoaded.chanRow ch).mode = .off → s.cnv.window ch = .unset := fun off => by
      simp only [swapInforms, Bool.or_eq_false_iff, off] at untold
      simpa using untold.1
    by_cases held : ch < s.cnv.windows.length
    · rw [Cnv.window_map (c := s.channelLoaded.cnv) rfl held]
      split
      · rename_i off
        rw [lost off]
      · exact Iff.rfl
    · have none (c : Cnv) (short : c.windows.length = s.cnv.windows.length) : c.window ch = .unset := by
        simp [Cnv.window, short, Nat.le_of_not_lt held]
      rw [none s.channelLoaded.cnv (by simp [State.channelLoaded]), none s.cnv rfl]
  comes waits active := by
    have told := (List.mem_filter.mp waits).2
    simp only [swapInforms, Bool.or_eq_true, Bool.and_eq_true, beq_iff_eq, bne_iff_ne, active] at told
    rcases told with ⟨_, off⟩ | other
    · simp [State.active, off, WindowMode.activeState] at active
    · simpa using other

theorem State.swapChannel_upholds : s.Upholds s.swapChannel := by
  have told : s.Upholds s.channelTold := s.channelLoaded_rewatched.upholds (List.nodup_range.filter _)
  have served : s.Upholds s.channelServed := by
    unfold State.channelServed
    split
    · exact told.trans (State.serveHeld_stays _).upholds
    · exact told
  rw [s.swapChannel_eq]
  split
  · have cleared : s.channelServed.Stays { s.channelServed with cnv.recorded := false } := .same rfl
    exact served.trans (cleared.trans (State.takeS_stays _)).upholds
  · exact served

end

/-! ### Every command -/

theorem State.transactionFailure_stays {error : TxnError} {s t : State} (ran : execTransactionFailure error s = .next t) :
    s.Stays t := by
  obtain rfl := Host.Outcome.next.inj ran
  cases error with
  | leadHigh | gapLow | sentWrong | stopLow =>
    dsimp only
    split
    · exact s.fail_stays _ _ _
    · exact .refl s
  | judged =>
    dsimp only
    split
    · exact s.failChar_stays _ _
    · exact .refl s

/-- R155: edges are taken in EDGE mode alone, so none while the resonance is measured. -/
theorem State.takesEdges_measured {s : State} (takes : s.takesEdges = true) : s.bcd.mode ≠ .resonance := by
  simp [(s.takesEdges_iff.mp takes).1]

theorem State.completes_measured {s : State} {stamp : Stamp} (completes : s.completes stamp = true) : s.bcd.mode ≠ .resonance := by
  unfold State.completes at completes
  split at completes
  · simp only [Bool.and_eq_true] at completes
    exact State.takesEdges_measured completes.1.1.1
  · cases completes

theorem State.breaks_measured {s : State} {stamp : Stamp} (breaks : s.breaks stamp = true) : s.bcd.mode ≠ .resonance := by
  unfold State.breaks at breaks
  split at breaks
  · simp only [Bool.and_eq_true] at breaks
    exact State.takesEdges_measured breaks.1.1
  · cases breaks

/-- R155: an edge as the filter shows it. -/
theorem State.seenEdge_stays {s : State} (c : BciChange) (stamp : Stamp) (measured : s.bcd.mode ≠ .resonance) :
    s.Stays ((s.seeBci c stamp).edge stamp) := by
  refine (State.edge_stays _ ?_).after (.same rfl)
  exact measured

theorem State.systemTick_stays (s : State) (pins : Pins) (pres : Bool) :
    s.Stays (({ s with pins := pins } : State).tickTimers.samplePresence pres) :=
  (State.samplePresence_stays _ _).after ((State.tickTimers_stays _).after (.same rfl))

/-- Every command upholds the invariants, but for a reset, which begins anew. -/
theorem exec_upholds {c : Instr} {s t : State} (ran : exec c s = .next t) : s.Upholds t ∨ t.IsReset := by
  cases c
  case transactionFailure error => exact .inl (State.transactionFailure_stays ran).upholds
  case dueTime slot =>
    have ran : execDueTime slot s = .next t := ran
    unfold execDueTime at ran
    split at ran
    · obtain rfl := Host.Outcome.next.inj ran
      split
      · exact .inl (s.dueTime_stays slot).upholds
      · exact .inl (State.Stays.refl s).upholds
    · cases ran
  all_goals
    obtain rfl := Host.Outcome.next.inj ran
  case powerOnReset | resetPin => exact .inr ⟨_, _, _, _, rfl⟩
  case softReset =>
    split
    · exact .inr ⟨_, _, _, _, rfl⟩
    · exact .inl (State.Stays.refl s).upholds
  case channelConversionEnd =>
    refine .inl ?_
    split
    · exact s.convert_upholds _ _ _
    · exact (State.Stays.refl s).upholds
  case channelSwap =>
    refine .inl ?_
    split
    · exact s.swapChannel_upholds
    · exact (State.Stays.refl s).upholds
  all_goals
    refine .inl (State.Stays.upholds ?_)
  case systemTick => exact s.systemTick_stays _ _
  case sTrigger =>
    split
    · exact (State.takeS_stays _).after (.same rfl)
    · exact .refl s
  case blankDeferLimit =>
    split
    · exact (State.bump_stays _ _).after s.requestBlanking_stays
    · exact .refl s
  case blankingGrant =>
    repeat' split
    · rename_i runs
      exact s.periodBoundary_stays runs
    · exact s.grantBlanking_stays
    · exact .refl s
  case cTrigger =>
    split
    · exact (State.takeC_stays _).after (.record rfl rfl rfl fun steered => steered)
    · exact .refl s
  case slotCConversionEnd =>
    split
    · exact (State.regulate_stays _ _).after (.same rfl)
    · exact .refl s
  case posturePeriodTimerExpiry =>
    split
    · exact .same rfl
    · exact .refl s
  case lidReadCompletion => exact s.takeLidEnding_stays _
  case lidReadTimeout => exact s.takeLidLimit_stays
  case postureSwap =>
    repeat' split
    · exact s.takeLidEnding_stays _
    · exact s.takeLidLimit_stays
    · exact .refl s
  case attachConfirmed =>
    split
    · exact (State.leaveDeep_stays _).after (.same rfl)
    · exact .refl s
  case presenceLoss =>
    split
    · exact s.enterAbsent_stays true
    · exact .refl s
  case transactionStart =>
    repeat' split
    · exact .same rfl
    · exact .refl s
    · exact .refl s
  case baseCharacterReceived =>
    split
    · exact s.takeChar_stays _ _
    · exact .refl s
  case transactionDeadline =>
    split
    · exact s.fail_stays _ _ _
    · exact .refl s
  case retryTimerExpiry =>
    repeat' split
    · exact (State.leaveDeep_stays _).after (.same rfl)
    · exact .refl s
    · exact .refl s
  case idleLineLow =>
    split
    · exact .same rfl
    · exact .refl s
  case attention =>
    repeat' split
    · exact (State.attention_stays _).after (.same rfl)
    · exact .refl s
    · exact .refl s
  case glitch =>
    repeat' split
    · exact (State.bump_stays _ _).after (.same rfl)
    · exact .refl s
    · exact .refl s
  case stuckLine =>
    repeat' split
    · exact (State.stuck_stays _).after (.same rfl)
    · exact .refl s
    · exact .refl s
  case scheduleSwap =>
    split
    · exact .same rfl
    · exact .refl s
  case upFrameStart =>
    dsimp only
    split
    · exact (State.startFrame_stays _).after (.same rfl)
    · exact .same rfl
  case upFrameEnd =>
    split
    · exact .same rfl
    · exact .refl s
  case srdyRise =>
    dsimp only
    split
    · exact (State.systemAwake_stays _).after (.same rfl)
    · exact .same rfl
  case downFrameReceived =>
    split
    · exact State.hunt_stays _ _ _
    · exact .refl s
  case badDownFrame =>
    split
    · exact State.hunt_stays _ _ _
    · exact .refl s
  case downCharacterReceived => exact State.hunt_stays _ _ _
  case downFrameAbandon =>
    split
    · exact .same rfl
    · exact .refl s
  case badKind => exact s.carryOut_stays _ fun u f => u.answer_stays _ _ _
  case tableWrite => exact s.carryOut_stays _ fun u f => u.tableWrite_stays f
  case clearCounters => exact s.carryOut_stays _ fun u f => u.queryCounters_stays f
  case tableCommit => exact s.carryOut_stays _ fun u f => u.fixedLength_stays f _ (u.tableCommit_stays f)
  case tableRead => exact s.carryOut_stays _ fun u f => u.fixedLength_stays f _ (u.tableRead_stays f)
  case query => exact s.carryOut_stays _ fun u f => u.fixedLength_stays f _ (u.query_stays f)
  case baseWrite =>
    refine s.carryOut_stays _ fun u f => ?_
    split
    · exact u.answer_stays _ _ _
    · exact u.baseWrite_stays f
  case detachGrant => exact s.carryOut_stays _ fun u f => u.fixedLength_stays f _ (u.detachGrant_stays f)
  case detachDeny => exact s.carryOut_stays _ fun u f => u.fixedLength_stays f _ (u.detachDeny_stays f)
  case detachRelease => exact s.carryOut_stays _ fun u f => u.fixedLength_stays f _ (u.detachRelease_stays f)
  case chargeControl => exact s.carryOut_stays _ fun u f => u.fixedLength_stays f _ (u.chargeRequest_stays f)
  case systemStateSleeping | systemStateAwake =>
    exact s.carryOut_stays _ fun u f => u.fixedLength_stays f _ (u.systemRequest_stays f)
  case hubResetLinks | hubResetAll => exact s.carryOut_stays _ fun u f => u.fixedLength_stays f _ (u.hubReset_stays f)
  case requestTimerExpiry =>
    split
    · exact (State.detachNotice_stays _ _ _ _).after (.same rfl)
    · exact .refl s
  case forcedRelease =>
    repeat' split
    · exact (State.toReleasing_stays _ _).after (.same rfl)
    · exact .same rfl
    · exact .refl s
  case pulseTimerExpiry =>
    dsimp only
    repeat' split
    · exact (State.event_stays _ _).after (s.endPulse_stays.trans (.same rfl))
    · exact s.endPulse_stays.trans (.same rfl)
    · exact .refl s
  case releaseWindowExpiry =>
    dsimp only
    repeat' split
    · exact (State.detachNotice_stays _ _ _ _).after (.same rfl)
    · exact (State.event_stays _ _).after ((State.detachNotice_stays _ _ _ _).after (.same rfl))
    · exact .refl s
  case waitTimerExpiry =>
    split
    · rename_i expired
      exact s.toIdent_stays _ fun ok => by simp [expired.1, ok.active (.inl expired.1)]
    · exact .refl s
  case resonanceInterval =>
    split
    · rename_i taken
      simp only [State.takesRising, Bool.and_eq_true, beq_iff_eq] at taken
      refine (State.risingEdge_stays _ ?_).after (.same rfl)
      exact taken.1.1.1.1
    · exact .refl s
  case resonanceTimeout =>
    repeat' split
    · rename_i late
      exact s.toFault_stays _ _ fun _ => by simp [late.1]
    · exact .refl s
    · exact .refl s
  case burstTimerExpiry =>
    split
    · rename_i expired
      exact State.burstFailed_stays expired.1
    · exact .refl s
  case packetCompletion =>
    split
    · rename_i taken
      rw [Bool.and_eq_true] at taken
      exact State.seenEdge_stays _ _ (State.completes_measured taken.2)
    · exact .refl s
  case packetAbort =>
    repeat' split
    · rename_i taken
      rw [Bool.and_eq_true] at taken
      exact State.seenEdge_stays _ _ (State.breaks_measured taken.2)
    · exact .refl s
    · exact State.silence_stays.after (.same rfl)
    · exact .refl s
  case silenceLimit =>
    split
    · exact State.silence_stays.after (.same rfl)
    · exact .refl s
  case chargeEntry =>
    repeat' split
    · rename_i runs
      exact s.periodBoundary_stays runs
    · exact s.makeWaiting_stays
    · exact .refl s
    · exact .refl s
  case stageChange =>
    repeat' split
    · exact .refl s
    · rename_i runs
      exact s.periodBoundary_stays runs
    · exact s.makeWaiting_stays
    · exact .refl s
  case periodBoundary =>
    split
    · rename_i runs
      exact s.periodBoundary_stays runs
    · exact .refl s
  case chargeSwap =>
    repeat' split
    · rename_i runs _
      exact s.periodBoundary_stays runs
    · exact .refl s
    · exact s.swapCharge_stays
    · exact .refl s
  case stageTimerExpiry =>
    split
    · rename_i expired
      exact s.toFault_stays _ _ fun _ => by simp [expired.1]
    · exact .refl s
  case packetTimerExpiry =>
    split
    · rename_i expired
      exact State.packetTimedOut_stays expired.1
    · exact .refl s
  case recheckTimerExpiry =>
    split
    · rename_i expired
      exact State.recheck_stays expired.1
    · exact .refl s
  case activityTimerExpiry =>
    split
    · rename_i idle
      exact (State.notice_stays _ _).after (.spm rfl rfl (by simp [idle.1]) rfl)
    · exact .refl s
  case deepEntry =>
    split
    · exact s.enterDeep_stays
    · exact .refl s
  case clockStartEnd =>
    repeat' split
    · exact s.clockStarted_stays _
    · exact .refl s
    · exact .refl s
  case wakePulseTimerExpiry =>
    split
    · exact .spm rfl rfl .rfl rfl
    · exact .refl s
  case bciEdge =>
    dsimp only
    repeat' split
    · rename_i takes
      exact State.seenEdge_stays _ _ (State.takesEdges_measured takes)
    · exact .same rfl
    · exact .refl s
  case resonanceRisingEdge =>
    dsimp only
    split
    · rename_i taken
      simp only [State.takesRising, Bool.and_eq_true, beq_iff_eq] at taken
      refine (State.risingEdge_stays _ ?_).after (.same rfl)
      exact taken.1.1
    · exact .same rfl
  case lineReleasedForAnswer =>
    split
    · exact .same rfl
    · exact .refl s

/-! ### The states that a reset leaves, and every step -/

section
variable {t : State}

theorem State.IsReset.sensesOk (h : t.IsReset) : t.SensesOk := by
  obtain ⟨code, enable, pins, pending, rfl⟩ := h
  have ok : State.reset.SensesOk := by constructor <;> decide +kernel
  exact ⟨ok.1, ok.2, ok.3, ok.4, ok.5⟩

theorem State.IsReset.pausesOk (h : t.IsReset) : t.PausesOk := by
  obtain ⟨code, enable, pins, pending, rfl⟩ := h
  have ok : State.reset.PausesOk := by constructor <;> decide +kernel
  exact ⟨ok.1, ok.2, ok.3, ok.4, ok.5, ok.6⟩

theorem State.IsReset.chargerOk (h : t.IsReset) : t.ChargerOk := by
  obtain ⟨code, enable, pins, pending, rfl⟩ := h
  have ok := State.reset_chargerOk
  exact ⟨fun on => absurd rfl on, ok.2, ok.3, ok.4, ok.5, ok.6, ok.7, ok.8, ok.9, ok.10, ok.11, ok.12⟩

end

/-- Settles O55: every command leaves the copies of the senses, the pause reasons and the charger's record in order, and a reset begins
with all of them so. -/
theorem everyStepKeepsTheCharger : Obligations.EveryStepKeepsTheCharger := by
  unfold Obligations.EveryStepKeepsTheCharger
  intro s t _ driver senses ran
  have done : s.Upholds t ∨ t.IsReset := by
    cases pending : s.pending with
    | nil =>
      rw [step_of_idle pending] at ran
      obtain rfl := Host.Outcome.next.inj ran
      exact .inl s.driveTick_stays.upholds
    | cons c rest =>
      rw [step_of_pending pending] at ran
      have taken : s.Stays { s with pending := rest } := .same rfl
      exact (exec_upholds ran).imp_left taken.upholds.trans
  rcases done with upholds | reset
  · exact ⟨upholds.senses senses, upholds.pauses senses, upholds.charger senses driver.steered⟩
  · exact ⟨reset.sensesOk, fun _ => reset.pausesOk, fun _ => reset.chargerOk⟩

end Sys2Proof.Machine
end
